-- ==== Sys2Proof/Word.lean ====
section
/-!
DEFINITION. The word types of the NH1600 (R6, R271): bytes, byte strings and the 32-bit and 64-bit words that wrap.
-/
namespace Sys2Proof

/-- One byte of a memory structure, a message or a cryptographic string (R6). -/
abbrev Byte := BitVec 8

/-- A byte string, lowest address first. -/
abbrev Bytes := List Byte

/-- A 32-bit counter or word that wraps modulo 2^32 (R37, R32, R297). -/
abbrev U32 := BitVec 32

/-- A 64-bit word (R271). -/
abbrev U64 := BitVec 64

end Sys2Proof
end

