-- ==== Sys2Proof/Syntax.lean ====
section
/-!
DEFINITION. The commands of the NH1600: one constructor of `Instr` per row of spec/opcode_table.json, with the row's operands.
Names of rows are the table's mnemonics in lower camel case.
-/
namespace Sys2Proof

/-- Who sent an Almanac message: the path alone decides (R272). -/
inductive Principal where
  | oob
  | mgr
  | ve (f : Nat)
  | dbg
  deriving DecidableEq, Repr

/-- An Almanac Access Protocol request: the 16-byte header of R281, the value bytes that follow it and the number of
bytes that the transport received. -/
structure AapMsg where
  prin   : Principal
  ver    : Nat
  op     : Nat
  flags  : Nat
  status : Nat
  seq    : Nat
  index  : Nat
  sub    : Nat
  rsvd   : Nat
  len    : Nat
  off    : Nat
  value  : Bytes
  rcvd   : Nat
  deriving DecidableEq, Repr

/-- An MCTP control request (R288): requester's endpoint, message tag, and its bytes but for the message type and the command
code: the Rq, D and instance byte, then the request data. -/
structure CtrlMsg where
  eid  : Nat
  tag  : Nat
  data : Bytes
  deriving DecidableEq, Repr

/-- Alarm classes of R108, in the bit order of ALARM_ACTIVE (R107). -/
inductive AlarmClass where
  | supply | clock | light | temp | parity
  deriving DecidableEq, Repr

/-- What tripped an alarm: an internal sensor, a glitch detector that sees a level in mV on the core or the
always-on supply (R108, R311), the host chip's input of the class, or the parity of a register in a unit
(given by its R296 sub-index; R108, R316). -/
inductive AlarmSource where
  | sensor
  | supply (aon : Bool) (mv : Nat)
  | input
  | register (unit : Nat)
  deriving DecidableEq, Repr

/-- What a self-test or known-answer test ran on: a unit (R296 sub-index), the CTR_DRBG and conditioner (step 4 of R191), or
the mask generator of the vault walker or of the CTR_DRBG pipeline (R189). -/
inductive TestTarget where
  | unit (u : Nat)
  | rng
  | walker
  | drbgPipe
  deriving DecidableEq, Repr

/-- What diverges (R254, R327). -/
inductive SkewTarget where
  | fn (f : Nat)
  | ring (n : Nat)
  | unit (u : Nat)
  deriving DecidableEq, Repr

/-- A container of the calendar with its resource class (R246). -/
inductive Container where
  | cipher (group : Nat)
  | hash (group : Nat)
  | pka (group : Nat)
  | portRead (region : Nat)
  | portWrite (region : Nat)
  deriving DecidableEq, Repr

/-- What a DRAIN-class change waits for (R275, R324): a ring's ECHO entry, or a unit commanded out of service. -/
inductive DrainTarget where
  | ringEcho (n : Nat)
  | unit (u : Nat)
  deriving DecidableEq, Repr

/-- Header fields of a message from the peer that a row's type uses (R391, R392), and whether a field that the type does not
use is non-zero (R393). -/
structure PeerHdr where
  token   : Nat
  len     : Nat
  origLen : Nat
  raw     : Bool
  alg     : Nat
  status  : Nat
  stray   : Bool
  deriving DecidableEq, Repr

/-- The commands. -/
inductive Instr where
  -- reset, bring-up, pins
  | poRstNAssert
  | poRstNRelease (refSel : BitVec 2)
  | blkRstNAssert
  | blkRstNRelease
  | quiescence
  | clockSurvey (coreKhz portKhz mgmtKhz : Nat)
  | handshakeTimeout (lookup : Bool)
  | vaultBringup
  | identityKeysDerived
  | safeReq (held : Bool)
  | coreSupplyLost
  | alarmTrip (cls : AlarmClass) (src : AlarmSource)
  | alarmHoldEnd
  -- faults
  | faultSourceSet (src : BitVec 10)
  | fenceResolved (unit : Nat)
  | vigilPeriod (unit : Nat)
  | vigilCheck (unit : Nat) (err : Bool)
  | selfTestEnd (target : TestTarget) (pass : Bool)
  | stateSkew (target : SkewTarget)
  | lanternToggle
  | jubileePersist
  | powerEstimate
  | clockGate (unit : Nat)
  | calendarEpoch
  | calendarGrant (c : Container)
  | interruptStall
  -- rings
  | coalTime (ring : Nat)
  | ringDoorbell (fn : Nat) (offset : BitVec 13) (value : U32)
  | descriptorFetch (ring : Nat)
  | chainWaitEnd (group : Nat)
  | echoStagingWaitEnd (group : Nat)
  | cacheWayRelease (bank set : Nat)
  -- data ports
  | readBeat (port tag : Nat) (resp : BitVec 2) (last : Bool) (data : Bytes)
  | writeResponse (port tag : Nat) (resp : BitVec 2)
  | portTimeout (port tag : Nat)
  | vaultTimeout (port tag : Nat)
  -- request opcodes, by request number
  | nop (r : Nat)
  | nopSignal (r : Nat)
  | encrypt (r : Nat)
  | decrypt (r : Nat)
  | aeadEncrypt (r : Nat)
  | aeadDecrypt (r : Nat)
  | gmacGenerate (r : Nat)
  | gmacVerify (r : Nat)
  | hash (r : Nat)
  | macGenerate (r : Nat)
  | macVerify (r : Nat)
  | decryptVerify (r : Nat)
  | reencryptVerify (r : Nat)
  | digestVerify (r : Nat)
  | srcPeer (r : Nat)
  | dstPeer (r : Nat)
  | contextInfo (r : Nat)
  | contextClose (r : Nat)
  | sign (r : Nat)
  | verify (r : Nat)
  | rsaEncrypt (r : Nat)
  | rsaDecrypt (r : Nat)
  | keyAgree (r : Nat)
  | kemEncapsulate (r : Nat)
  | kemDecapsulate (r : Nat)
  | keyGenerate (r : Nat)
  | rsaKeygenTimeout (r : Nat)
  | publicKey (r : Nat)
  | pkaOperationEnd (r : Nat)
  | generateSym (r : Nat)
  | derive (r : Nat)
  | importWrapped (r : Nat)
  | importKem (r : Nat)
  | exportWrapped (r : Nat)
  | exportKem (r : Nat)
  | replace (r : Nat)
  | keyCommit (r : Nat)
  | cancel (r : Nat)
  | erase (r : Nat)
  | eraseDrain (slot : Nat)
  | eraseUrgent (r : Nat)
  | keyInfo (r : Nat)
  | random (r : Nat)
  | veAttest (r : Nat)
  | certInstall (r : Nat)
  -- lookup and peer ports
  | lookupAnswer (qid : BitVec 6) (result : BitVec 2) (slot : BitVec 24)
  | lookupRetry (r : Nat)
  | lookupTimeout (r : Nat)
  | caps (h : PeerHdr)
  | data (h : PeerHdr) (bytes : Bytes)
  | jobEnd (h : PeerHdr)
  | peerTimeout (r : Nat)
  -- Procession
  | channelDoorbell (fn : Nat) (offset : BitVec 13) (value : U32)
  | stop (fn : Nat) (offset : BitVec 13) (value : U32)
  | channelRunStart (chan : Nat)
  | copy (chan : Nat)
  | fill (chan : Nat)
  | compare (chan : Nat)
  | gather (chan : Nat)
  | scatter (chan : Nat)
  | timerFiring (timer : Nat)
  -- functions, from the host chip
  | functionLevelReset (fn : Nat)
  | veResetAbandon (fn : Nat)
  | enableIndication (fn : Nat) (value : U32)
  -- management path
  | mbReq (fn : Nat) (word : U32) (request : Bytes)
  | mctpPacket (packet : Bytes)
  | setEndpointId (m : CtrlMsg)
  | getEndpointId (m : CtrlMsg)
  | getMctpVersionSupport (m : CtrlMsg)
  | getMessageTypeSupport (m : CtrlMsg)
  | getVendorDefinedMessageSupport (m : CtrlMsg)
  | unsupportedControlCommand (m : CtrlMsg) (cmd : Nat)
  | versions (m : AapMsg)
  | read (m : AapMsg)
  | write (m : AapMsg)
  | commit (m : AapMsg)
  | discard (m : AapMsg)
  | readPending (m : AapMsg)
  | describe (m : AapMsg)
  | next (m : AapMsg)
  | pendingTimeout (group : Nat)
  | snapshotExpiry (p : Principal)
  -- Almanac entries and groups with rows of their own
  | fnIntervalReq (m : AapMsg)
  | fnIntervalUnits (m : AapMsg)
  | sticky (m : AapMsg)
  | ringErrors (m : AapMsg)
  | chanErrors (m : AapMsg)
  | safeCommand (m : AapMsg)
  | rngReset (m : AapMsg)
  | vaultClear (m : AapMsg)
  | timerArm (m : AapMsg)
  | lcChallenge (m : AapMsg)
  | debugChallenge (m : AapMsg)
  | randomEntryRead (m : AapMsg)
  | ringEnable (m : AapMsg)
  | ringDisable (m : AapMsg)
  | ringDrainBound (ring : Nat)
  | chanEnable (m : AapMsg)
  | chanDisable (m : AapMsg)
  | channelDisableBound (chan : Nat)
  | drainBound (t : DrainTarget)
  | timerCommit (m : AapMsg)
  | vaultCommit (m : AapMsg)
  | unitOutOfService (m : AapMsg)
  | unitInService (m : AapMsg)
  | veCreate (m : AapMsg)
  | veDestroy (m : AapMsg)
  | veFreeze (m : AapMsg)
  | freezeBound (fn : Nat) (channels : Bool)
  | veThaw (m : AapMsg)
  | veResetAction (m : AapMsg)
  | openAction (m : AapMsg)
  | save (m : AapMsg)
  | restore (m : AapMsg)
  | release (m : AapMsg)
  | migrationCommit (m : AapMsg)
  | abandon (m : AapMsg)
  | receipt (m : AapMsg)
  | renewContextKey (m : AapMsg)
  | actionCompletion (fn : Nat)
  | migOpenTimeout (fn : Nat)
  -- life cycle and persistent records
  | lifecycleTransition (m : AapMsg)
  | transitionWorkAbandon
  | nvWriteRetry
  | debugToken (m : AapMsg)
  | attestNonce (m : AapMsg)
  | nvCommandEnd (words : Bytes) (err : Bool)
  | nvTimeout
  -- random numbers
  | healthTestFailure (source : Nat) (adaptive : Bool)
  | oscillatorSettle (failed : BitVec 8)
  | startUpTest (source : Nat) (pass : Bool)
  | adventComplete
  | conditionerBlockRelease
  | privateWireDelivery
  | reseedDue (gen : Nat)
  | reseedGrace (gen : Nat)
  | drbgReseed
  -- test access port
  | tapReset
  | extest
  | samplePreload
  | idcode
  | clamp
  | highz
  | almanac (word : BitVec 33)
  | debugRead (selector : BitVec 64)
  | wrapper (factoryMode : Bool)
  | bypass (code : BitVec 8)
  -- rows at the end of the table
  | alarmInactive
  | supplyCalibration (coreMv aonMv : Nat)
  | fuseRead (word : BitVec 4) (answer : Option (BitVec 32))
  | undefinedPeerMessage (token : Nat)
  deriving DecidableEq, Repr

end Sys2Proof
end

