-- ==== Sys2Proof/Decode.lean ====
section
/-!
DEFINITION. The table gives no row a word: every command comes with its operands, and no number of bits spells one.
-/
namespace Sys2Proof

/-- The command that a word spells by the table's bits: none, since the table gives no bits (assumption log 13). -/
def decodeTableWord (_nbits _w : Nat) : Option Instr := none

end Sys2Proof
end

