-- ==== Sys2Proof/Config.lean ====
section
/-!
DEFINITION. What the manual leaves open and what it takes from published standards. Every constant here is opaque: no
proof can see a value of it, so a statement that mentions one holds whatever the value is.
-/
namespace Sys2Proof

/-- The primitives of published standards that the manual names and does not itself define (R69, R123, R166, R168, R190,
R348, R362). The first list of `Config.prim` is the primitive's inputs in the order given beside each constructor. -/
inductive Prim where
  /-- AES forward cipher of one block (FIPS 197): key, block. -/
  | aesEnc
  /-- AES inverse cipher of one block (FIPS 197): key, block. -/
  | aesDec
  /-- XTS of one data unit, stealing included (IEEE 1619): key, 16-byte tweak value, data unit. -/
  | xts (decrypt : Bool)
  /-- J0 of a GCM IV that is not 12 bytes long (SP 800-38D): key, IV. -/
  | gcmJ0
  /-- GHASH accumulator after more input (SP 800-38D): key, accumulator, AAD, ciphertext. -/
  | ghash
  /-- GCM tag from accumulator (SP 800-38D): key, J0, accumulator, AAD length and data length as 16 bytes. -/
  | gcmTag
  /-- CCM (SP 800-38C): key, nonce, AAD, data, tag length. -/
  | ccm (decrypt : Bool)
  /-- CCM tag (SP 800-38C): key, nonce, AAD, plaintext, tag length. -/
  | ccmTag
  /-- ChaCha20 keystream block (RFC 8439): key, nonce, 4-byte block counter. -/
  | chachaBlock
  /-- Poly1305 one-time key (RFC 8439): key, nonce. -/
  | polyKey
  /-- Poly1305 accumulator after more input (RFC 8439): one-time key, accumulator, AAD, ciphertext. -/
  | poly
  /-- Poly1305 tag (RFC 8439): one-time key, accumulator, AAD length and data length as 16 bytes. -/
  | polyTag
  /-- CMAC running value after whole blocks that are not the last (SP 800-38B): key, value, data. -/
  | cmacStep
  /-- CMAC tag from running value and last bytes (SP 800-38B): key, value, data. -/
  | cmacEnd
  /-- Hash chaining value after whole segment units, by mode code (FIPS 180-4, FIPS 202, SP 800-185): value, data. -/
  | hashStep (m : Nat)
  /-- Digest, by mode code, from chaining value, last bytes and the count of bytes before them (FIPS 180-4, FIPS 202). -/
  | hashEnd (m : Nat)
  /-- Inner state of HMAC or KMAC after the key block, by mode code (FIPS 198-1, SP 800-185): key, customization string. -/
  | macInit (m : Nat)
  /-- HMAC or KMAC tag, by mode code: state, last bytes, count of bytes before them, output length. -/
  | macEnd (m : Nat)
  /-- Key wrap with padding, KWP-AE (SP 800-38F): key, plaintext. -/
  | kwpWrap
  /-- Key unwrap with padding, KWP-AD (SP 800-38F): key, ciphertext. -/
  | kwpUnwrap
  /-- AES-256-GCM sealing and opening of one object: key, IV, AAD, text. -/
  | gcmSeal
  | gcmOpen
  /-- CTR_DRBG state after instantiation or a reseed (SP 800-90A): state, seed material (the entropy with the personalization string or
  the additional input in it). -/
  | drbgSeed
  /-- CTR_DRBG state after a generate call, and its output (SP 800-90A): state, additional input, output length. -/
  | drbgNext
  | drbgOut
  /-- The conditioner's shift register after more raw bits, and the 256-bit block that it then yields (R185): register, raw bits;
  register. -/
  | condStep
  | condOut
  /-- Public key of a stored private key, by algorithm code and modulus width (R123, R132): stored form. -/
  | publicKey (alg modW : Nat)
  /-- Stored form of a generated key, by algorithm code and modulus width (R131, R132): the randomness drawn. -/
  | keyGen (alg modW : Nat)
  /-- Signature, by algorithm and hash code (R123): stored key, context, data, randomness, prehashed flag. -/
  | sign (alg hash : Nat)
  /-- RSAES-OAEP (RFC 8017), by hash code: key, label, data, seed. -/
  | oaepEnc (hash : Nat)
  | oaepDec (hash : Nat)
  /-- Shared secret of an agreement, by algorithm code (R123): stored key, peer public key. -/
  | agree (alg : Nat)
  /-- ML-KEM ciphertext and secret, by algorithm code (FIPS 203): encapsulation key, message; and stored key, ciphertext. -/
  | kemCt (alg : Nat)
  | kemSs (alg : Nat)
  | kemDec (alg : Nat)
  /-- SHA-384 of a byte string used inside the block (R294, R336, R357). -/
  | sha384
  /-- HMAC-SHA-256 of a persistent record (R348): key, bytes. -/
  | nvMac
  /-- The vault record key (R144): vault root key, incarnation. -/
  | vaultKey
  /-- A vault record as written to DRAM (R144): record key, IV, AAD, contents. -/
  | vaultRec
  /-- The 64-bit MAC of a line or a tree node (R145): record key, level and index, contents. -/
  | vaultMac
  /-- SHA-384 digest of the Kazist ROM image (R3): no input. -/
  | romDigest
  /-- Subject public key of a certificate in its encoding of R123, and the code of its algorithm in one byte (RFC 5280): certificate. -/
  | certKey
  | certAlg
  deriving DecidableEq, Repr

/-- The tests of published standards that answer pass or fail. -/
inductive Test where
  /-- A signature verifies under R128, by algorithm and hash code: public key, context, data, signature, prehashed flag. -/
  | signature (alg hash : Nat)
  /-- OAEP decoding succeeds (R128), by hash code: key, label, ciphertext. -/
  | oaep (hash : Nat)
  /-- KWP-AD integrity check (SP 800-38F): key, ciphertext. -/
  | kwp
  /-- AES-256-GCM opening succeeds: key, IV, AAD, text, tag. -/
  | gcmOpen
  /-- The pairwise consistency test of R131, by algorithm code and by whether it is the encrypt and decrypt of an RSA key with
  decrypt usage: stored form. -/
  | pairwise (alg : Nat) (decrypts : Bool)
  /-- The result check of R136 holds, by algorithm code: stored form, peer key or operand, AAD or label, data, output. -/
  | resultCheck (alg : Nat)
  /-- A certificate is a well-formed X.509 v3 certificate in DER (RFC 5280): certificate. -/
  | certForm
  /-- A certificate is signed by a key with the algorithm and hash of the codes given, or by the key's own algorithm where they are 0 (RFC
  5280): issuer's public key, certificate. -/
  | certSigned (alg hash : Nat)
  deriving DecidableEq, Repr

/-- Byte `i` of the output of a primitive on its inputs. -/
opaque Config.prim : Prim → List Bytes → Nat → Byte

/-- Outcome of a standard's test on its inputs. -/
opaque Config.test : Test → List Bytes → Bool

/-- Length in bytes of an unwrapped or parsed object whose length only the standard's own padding gives (KWP-AD, OAEP,
COSE): the primitive and its inputs. -/
opaque Config.primLen : Prim → List Bytes → Nat

/-- Free bytes: random draws and every other value the manual leaves open. Each use takes a fresh index. -/
opaque Config.freeByte : Nat → Byte

/-- The translation of the host side needs a PASID for probe reads (R295). -/
opaque Config.pasidNeeded : Bool

/-- Address, within the vault region, of item `i` of area `a` (R142: the arrangement is opaque). -/
opaque Config.vaultOffset : Nat → Nat → Nat

end Sys2Proof
end

