-- ==== Sys2Proof/Machine/State.lean ====
section
/-!
DEFINITION. The state of the NH1600 as plain data: every register, table, queue and mode that the manual gives the block,
the queue of waiting commands, and the state after reset.
-/
namespace Sys2Proof.Machine

/-- Why the block stops. -/
inductive Fault where
  /-- The host side of a data port answers while PO_RST_N is low. R377 forbids it and R5 leaves the behaviour of a block
  whose integrator obligations are not met unspecified. Raised by READ_BEAT and WRITE_RESPONSE. Safe: the model stops
  where the manual says nothing. -/
  | answerInReset
  deriving DecidableEq, Repr

/-- Why a command has no meaning here. -/
inductive Refusal where
  /-- A command that this model does not give a meaning yet, by its mnemonic. Safe. -/
  | notModelled (mnemonic : String)
  deriving DecidableEq, Repr

/-- The outcome of a command. -/
abbrev Out (σ : Type) := Host.Outcome σ Fault Refusal

/-- A sparse table: keys strictly rising, entries equal to the default left out (`Tbl.wf`). -/
abbrev Tbl (α : Type) := List (Nat × α)

/-- Request status codes (R411). -/
inductive Status where
  | ok | verifyMismatch
  | descOpcode | descFlags | descVersion | chainTooLong | descField
  | keyInvalidHandle | keyStale | keyPolicy | keyRevoked | keyErased | keyExhausted | keyAmbiguous | keyNotFound
  | replacePending | keyFrozen
  | lenAlign | lenLimit | lenAad | destOverflow | counterWrap
  | memDecode | memError | memTimeout | chainLoop | memPoison
  | authFail | faultDetected | notReady | safeState | abortedReset | quota
  | rngHalted | rngAdvent
  | lifecycleDenied | peerFailed | contextInvalid | contextVersion
  deriving DecidableEq, Repr

/-- Almanac Access Protocol codes (R414). -/
inductive AapCode where
  | ok | noEntry | access | type | range | busy | inconsistent | lifecycle | version
  deriving DecidableEq, Repr

/-- UNIT_STATE (R297). -/
inductive UnitState where
  | active | fenced | vigil | selfTest | retired | outOfService
  deriving DecidableEq, Repr

/-- RING_STATE (R32). -/
inductive RingState where
  | disabled | running | draining | error | frozen
  deriving DecidableEq, Repr

/-- CHAN_STATE (R201). -/
inductive ChanState where
  | disabled | idle | running | stopping | frozen | error
  deriving DecidableEq, Repr

/-- VE_STATE (R253). -/
inductive VeState where
  | absent | running | quiesced | resetting | freezing | frozen | restored | destroying
  deriving DecidableEq, Repr

/-- MIG_STATE (R237). -/
inductive MigState where
  | none | opened | saved | restored | released
  deriving DecidableEq, Repr

/-- State recorded for a slot (R153). FROZEN is never written into a record (R154). -/
inductive SlotState where
  | free | active | replacing | erasing | retired
  deriving DecidableEq, Repr

/-- RNG_STATE (R198). -/
inductive RngState where
  | advent | running | halted
  deriving DecidableEq, Repr

/-- Where Advent stands (R191): oscillators settling, start-up tests, known-answer tests, filling and instantiation. -/
inductive AdventStep where
  | settle | startUp | kat | fill | over
  deriving DecidableEq, Repr

/-- Migration and reset actions (R259). -/
inductive ActKind where
  | reset | open | save | restore | release | commit | abandon | receipt | renew
  deriving DecidableEq, Repr

/-- TAP instructions (R398). -/
inductive TapInstr where
  | extest | samplePreload | idcode | clamp | highz | almanac | debugRead | wrapper | bypass
  deriving DecidableEq, Repr

/-- LC_PHASE (R298). -/
inductive LcPhase where
  | none | verified | keysDestroyed | stateWritten | done
  deriving DecidableEq, Repr

/-- Pins and resets (R300, R301, R368, R382, R396). -/
structure Pins where
  poRstLow   : Bool := true
  blkRstLow  : Bool := false
  quiescent  : Bool := true
  refSel     : BitVec 2 := 0
  safeReq    : Bool := false
  fatal      : Bool := false
  safeAck    : Bool := false
  lantern    : Bool := false
  /-- REF_CLK cycles since PO_RST_N was released (R299), and their count when the last block reset was released. -/
  cycles     : Nat := 0
  resetAt    : Nat := 0
  deriving DecidableEq, Repr

/-- Progress of bring-up (R304) and the measured survey entries (R295). -/
structure Bringup where
  /-- Bring-up has begun since the last block reset (step 1). -/
  begun       : Bool := false
  /-- Fuse words read, by word number (R388). -/
  fuse        : Tbl Nat := []
  fuseCount   : Nat := 0
  fuseOk      : Bool := false
  clockDone   : Bool := false
  /-- Step 4: sequencer self-test and ROM digest; Almanac service. -/
  almanacUp   : Bool := false
  lcRead      : Bool := false
  bootRead    : Bool := false
  supplyDone  : Bool := false
  peerWait    : Bool := false
  lookupWait  : Bool := false
  /-- Step 8 has ended (READY bit 8). -/
  nvDone      : Bool := false
  /-- A life-cycle resume is pending (R305). -/
  resume      : Bool := false
  /-- LIFECYCLE failed its check (R306): the block serves as in SCRAPPED. -/
  lcFailed    : Bool := false
  /-- Step 12 has begun. -/
  vaultDone   : Bool := false
  /-- UNIT_ID computed (R357), and identity keys in their store (R358, step 14). -/
  unitIdDone  : Bool := false
  identity    : Bool := false
  /-- AL 3000.1A reads FIXED since the block reset (R309). -/
  fixed       : Bool := true
  bringupNs   : Nat := 0
  coreKhz     : Nat := 0
  portKhz     : Nat := 0
  mgmtKhz     : Nat := 0
  coreMv      : Nat := 0
  aonMv       : Nat := 0
  /-- Windows of the supply glitch detectors in mV, on the core and the always-on supply: the absolute limits until calibration has
  ended (R311, R369). -/
  coreWin     : Nat × Nat := (600, 900)
  aonWin      : Nat × Nat := (650, 950)
  nvProgNs    : Nat := 0
  tagWindow   : Nat := 256
  survey      : BitVec 32 := 0
  /-- PORT_RTT by port (ns), probes still to run and when the probe of a port was issued (R312). -/
  rtt         : Tbl Nat := []
  probesLeft  : Tbl Nat := []
  probeAt     : Tbl Nat := []
  probeBad    : List Nat := []
  probing     : Bool := false
  /-- Ports whose probe of the survey failed in the present command: they are fenced before it ends (R312). -/
  probeFence  : List Nat := []
  fwDigest    : Bytes := List.replicate 48 0
  unitId      : Bytes := List.replicate 48 0
  deriving DecidableEq, Repr

/-- Tamper alarms (R107 to R112). -/
structure Alarms where
  /-- Classes whose input or sensor is asserted now. -/
  asserted   : List AlarmClass := []
  /-- Classes shown in ALARM_ACTIVE: asserted or held. -/
  active     : List AlarmClass := []
  /-- Steps 2 to 7 of R109: key loads and lane issue blocked. -/
  blocked    : Bool := false
  /-- The 10 microsecond hold of step 6 runs. -/
  holding    : Bool := false
  eraseCount : U32 := 0
  deriving DecidableEq, Repr

/-- One unit of R296. -/
structure UnitRec where
  state    : UnitState := .active
  /-- Passed its self-test or known-answer tests since the last event that requires them (R292, R109). -/
  tested   : Bool := false
  jubilee  : Nat := 0
  /-- REF_CLK cycle counts of its readmissions (R324). -/
  readmits : List Nat := []
  /-- The group or region that it was FENCED with and follows (R323). -/
  byCont   : Option Nat := none
  /-- The running self-test counts no jubilee (R324, from OUT_OF_SERVICE). -/
  noJub    : Bool := false
  /-- Draining toward OUT_OF_SERVICE (R324). -/
  draining : Bool := false
  /-- Its known-answer tests after an erasure are still to end (step 8 of R109). -/
  kat      : Bool := false
  /-- Clock gated (R406). -/
  gated    : Bool := false
  /-- Diverging for longer than 10 microseconds (R327). -/
  skew     : Bool := false
  deriving DecidableEq, Repr

/-- One mask generator (R103 to R106, R189). -/
structure GenRec where
  /-- Its 256 bits of secret state: the seed that last replaced it (R104); empty before the first. -/
  state   : Bytes := []
  seeded  : Bool := false
  grace   : Bool := false
  /-- Stopped under R105; its state failed the watch of R103, and its unit waits for a seed. -/
  stopped : Bool := false
  watch   : Bool := false
  deriving DecidableEq, Repr

/-- Statistics of one function (R299) and its calendar usage (R238). -/
structure FnStats where
  reqOk      : Nat := 0
  reqFailed  : Nat := 0
  cipher     : Nat := 0
  hash       : Nat := 0
  quotaFails : U32 := 0
  intReq     : Nat := 0
  intUnits   : Nat := 0
  cipherUsed : Nat := 0
  hashUsed   : Nat := 0
  pkaUsed    : Nat := 0
  portUsed   : Nat := 0
  deriving DecidableEq, Repr

/-- Block-wide counters. -/
structure Counters where
  reqOk       : Nat := 0
  reqFailed   : Nat := 0
  cipherUnits : Nat := 0
  hashUnits   : Nat := 0
  pkaOps      : Nat := 0
  runs        : Nat := 0
  echoMis     : U32 := 0
  pctFail     : U32 := 0
  resFail     : U32 := 0
  pkaAband    : U32 := 0
  timeouts    : U32 := 0
  lateAns     : U32 := 0
  lateErr     : U32 := 0
  skewEvents  : U32 := 0
  commitSer   : U32 := 0
  cacheHits   : Nat := 0
  cacheMiss   : Nat := 0
  integrity   : U32 := 0
  deriving DecidableEq, Repr

/-- A function's open migration session on a destination (R260, R263). -/
structure Session where
  challenge : Bytes
  ekPriv    : Bytes
  ecPriv    : Bytes
  /-- Identity of the restored image: source unit, image digest; empty before RESTORE. -/
  srcUnit   : Bytes := []
  digest    : Bytes := []
  deriving DecidableEq, Repr

/-- The last image saved on a source (R261, R264), and the receipt's fields after RELEASE. -/
structure ImageRec where
  destUnit  : Bytes
  challenge : Bytes
  digest    : Bytes
  deriving DecidableEq, Repr

/-- What a RESTORE installs on die with its vault update (R263): context key and the reservation of its counter, held bits, session; and
what it gives back where it fails: the session and the committed values from before, and the slots with the epochs that they had. -/
structure Restoral where
  key   : Bytes
  res   : Nat
  held  : BitVec 16
  ses   : Session
  was   : Session
  cfg   : List (Nat × Nat)
  slots : List (Nat × Nat)
  deriving DecidableEq, Repr

/-- An action in progress (R259). -/
structure ActJob where
  kind   : ActKind
  /-- Where its output goes, and under which PASID its objects are moved, as they stood when it was accepted. -/
  outAddr : Nat := 0
  outCap : Nat := 0
  pasid  : Nat := 0
  /-- Input object pieces received, transactions outstanding. -/
  chunks : List (Nat × Bytes) := []
  outst  : Nat := 0
  /-- Reading its input, or writing its output. -/
  reading : Bool := false
  err    : Option Status := none
  /-- Result code, once the action has ended (02h DONE or R267). -/
  code   : Option Nat := none
  outLen : Nat := 0
  /-- What takes effect with the last good write: the session opened, the image saved. -/
  ses    : Option Session := none
  img    : Option ImageRec := none
  /-- The function has been reset or thawed since a SAVE was accepted: its image is void (R258). -/
  void   : Bool := false
  /-- Output object that waits for the vault; what a RESTORE has installed or is installing. -/
  out    : Bytes := []
  rest   : Option Restoral := none
  deriving DecidableEq, Repr

/-- A function record (R237, R250, R253 to R268). -/
structure FnRec where
  state      : VeState := .absent
  hostEnable : Bool := false
  slotsUsed  : Nat := 0
  largeUsed  : Nat := 0
  shadUsed   : Nat := 0
  mig        : MigState := .none
  actStatus  : Nat := 0
  act        : Option ActJob := none
  outLen     : Nat := 0
  ctxSerial  : U32 := 0
  held       : BitVec 16 := 0
  skew       : Bool := false
  /-- Context key, live context counter and its reservation (R90, R256). -/
  ctxKey     : Bytes := []
  ctxCtr     : Nat := 0
  ctxRes     : Nat := 0
  /-- Freeze mark of the function record in the vault (R154). -/
  frozenMark : Bool := false
  saveSerial : Nat := 0
  session    : Option Session := none
  image      : Option ImageRec := none
  receipt    : Option ImageRec := none
  /-- A VE reset held until the freeze ends (R258), and rings to restart when the VE next runs. -/
  resetHeld  : Bool := false
  restart    : Bool := false
  /-- State to return to after a VE reset (step 7 of R251). -/
  before     : VeState := .absent
  /-- Records charged to the function because they are lost (R241): slots, large-key, shadow. -/
  lostSlots  : Nat := 0
  lostLarge  : Nat := 0
  lostShad   : Nat := 0
  /-- Write count of its vault record (R144); the walker has the record at hand (R146, R256). -/
  wc         : Nat := 0
  atHand     : Bool := false
  deriving DecidableEq, Repr

/-- A ring (R32, R37 to R40, R54 to R58, R67). -/
structure RingRec where
  owner    : Option Nat := none
  local_   : Nat := 0
  region   : Nat := 0
  home     : Option Nat := none
  state    : RingState := .disabled
  version  : Nat := 0
  prev     : U32 := 0
  /-- Descriptors eligible and not yet fetched. -/
  eligible : Nat := 0
  fetchCnt : U32 := 0
  complCnt : U32 := 0
  /-- Number of the next completion entry to be placed. -/
  nextEnt  : U32 := 0
  /-- Requests fetched that belong to no started chain, in ring order. -/
  waiting  : List Nat := []
  /-- A descriptor read is outstanding, and the group that issued it (R16). -/
  fetching : Bool := false
  fetchGrp : Nat := 0
  /-- Entries of R54 that are still to be written: they belong to no request. -/
  ffOpen   : Nat := 0
  errors   : BitVec 3 := 0
  /-- A completion-entry write failed (R55): no further entry is written until the ring is disabled. -/
  dead     : Bool := false
  /-- Entries counted and not yet signalled (R67). -/
  coal     : Nat := 0
  /-- A started fenced chain holds the ring (R57). -/
  fenced   : Bool := false
  /-- Descriptors whose completion entries are still to be written by started chains. -/
  open_    : Nat := 0
  /-- RING_STATE before a freeze (R257). -/
  thaw     : RingState := .disabled
  /-- Draining for a change of ECHO (R275). -/
  echoWait : Bool := false
  skew     : Bool := false
  deriving DecidableEq, Repr

/-- The fields of a descriptor of any version, in RP3 terms (R41, R44). -/
structure Desc where
  opcode : Nat := 0
  flags  : Nat := 0
  key    : Nat := 0
  src    : Nat := 0
  dst    : Nat := 0
  srcLen : Nat := 0
  dstCap : Nat := 0
  aadLen : Nat := 0
  mode   : Nat := 0
  param  : Nat := 0
  ctx    : Nat := 0
  tag    : Nat := 0
  /-- RP1 PARAM_HEADER (R44), and the raw reserved bits of the flags. -/
  hdr    : Bool := false
  rsvd   : Nat := 0
  deriving DecidableEq, Repr

/-- Where a request stands. -/
inductive Phase where
  /-- Fetched, waiting for its chain to start or for its step to come. -/
  | fetched
  /-- Reading its parameter block, source list, destination list or OPERAND (check 6 of R45). -/
  | param | srcList | dstList | operand
  /-- Checks 1 to 6 passed; waits for its step. -/
  | checked
  /-- Reading its streaming context. -/
  | ctx
  /-- Waiting for the lookup port (R233) or for a free QID (R395). -/
  | lookup
  /-- Waiting for its key record: vault fetch, free way, or end of an alarm hold (R110, R146, R161). -/
  | resolve
  /-- All checks up to 8 passed; waits for the calendar's grant (R16). -/
  | waitGrant
  /-- Waits for echo staging (R115), or to open a peer token (R393). -/
  | waitEcho | waitPeer
  /-- May run: its opcode's own command acts on it. -/
  | ready
  /-- Waits for a vault update (R81, R83, R93, R147) or the private wires (R189). -/
  | vault | wires
  /-- Reading its source and reference; all read; its PKA unit runs. -/
  | reading | loaded | running
  /-- A peer job is open (R228, R231), or an OFFER waits for its token (R393). -/
  | peer
  /-- Output writes outstanding; context write outstanding (R92). -/
  | writing | ctxWrite
  /-- An erase waits for its drain or its update (R177). -/
  | erase
  /-- Ended; its completion entry is being written. -/
  | ended
  deriving DecidableEq, Repr

/-- What a vault update or wire delivery resumes in a request. -/
inductive Resume where
  | none | values | create | mark | erase | drbg | unit2
  deriving DecidableEq, Repr

/-- A request or chain step in the block. -/
structure Req where
  ring    : Nat
  fn      : Nat
  ver     : Nat
  /-- Group that fetched its descriptor (R16). -/
  group   : Nat := 0
  chain   : Nat := 0
  idx     : Nat := 0
  d       : Desc := {}
  phase   : Phase := .fetched
  /-- Parameter block; element lists of source and destination; context read; OPERAND bytes. -/
  prm     : Bytes := []
  srcL    : List (Nat × Nat) := []
  dstL    : List (Nat × Nat) := []
  /-- Entries and LINK entries of the list being read (R48, R52). -/
  sglN    : Nat := 0
  sglLinks : Nat := 0
  ctxIn   : Bytes := []
  opnd    : Bytes := []
  /-- Pieces of the present read stage: stream (0 source, 1 reference), offset and bytes; transactions outstanding. -/
  chunks  : List (Nat × Nat × Bytes) := []
  outst   : Nat := 0
  err     : Option Status := none
  /-- Source and reference, once read. -/
  srcB    : Bytes := []
  refB    : Bytes := []
  /-- Output stream and context to be written. -/
  out     : Bytes := []
  ctxOut  : Bytes := []
  /-- Resolved slot and generation; second key; reference held. -/
  slot    : Option Nat := none
  gen     : Nat := 0
  slot2   : Option Nat := none
  gen2    : Nat := 0
  flip    : Bool := false
  refHeld : Bool := false
  /-- Slot that the lookup port named (R233). -/
  target  : Option Nat := none
  /-- Slot whose record has been fetched and verified for the present resolution (step 2 of R156). -/
  fresh   : Option Nat := none
  /-- Values held from check 1 on (R275): VECTOR of its ring and the three quotas of its function. -/
  vector  : Nat := 0
  quotas  : Nat × Nat × Nat := (0, 0, 0)
  /-- STATE of the context that the segment continues, as opened at acceptance; the context key and the counter with which the
  context that it saves is wrapped, taken together at acceptance (R90, R91). -/
  opened  : Option Bytes := none
  ctxKey  : Bytes := []
  ctxCtr  : Nat := 0
  /-- Key in the key registers of its lanes or the operand registers of its PKA unit (R102, R109); the echoed lane's own. -/
  regs    : Bytes := []
  regs2   : Bytes := []
  /-- Second key of the request, in the registers of its unit with the first (R102). -/
  regsB   : Bytes := []
  /-- Values taken under R75: invocation value and whether the step consumed anything. -/
  iv      : Option Nat := none
  taken   : Bool := false
  /-- An output write was issued (R52, R330). -/
  wrote   : Bool := false
  /-- Unit granted, second lane of an echoed request, grants still to come (R248). -/
  unit    : Option Nat := none
  unit2   : Option Nat := none
  grants  : Nat := 0
  echo    : Bool := false
  /-- REF_CLK cycle at which its PKA unit was granted (R248). -/
  began   : Nat := 0
  /-- Echo staging held in bytes (R115). -/
  staged  : Nat := 0
  /-- Slot created and not yet named to a caller; quotas reserved (R130): slot, large-key record, shadow record. -/
  newSlot : Option Nat := none
  /-- Candidates for the new slot whose lines failed their check (R159). -/
  cands   : Nat := 0
  resSlot : Bool := false
  resLarge : Bool := false
  resShad : Bool := false
  /-- Randomness drawn for the request. -/
  drawn   : Bytes := []
  resume  : Resume := .none
  /-- Peer token open; plaintext sent to the peer, or peer's job received (R228, R231); ambiguous answers and retries of the
  lookup (R233): odd while a retry is due. -/
  token   : Option Nat := none
  sent    : Bool := false
  tries   : Nat := 0
  /-- Outcome, once ended: status, RESULT and the flags of R51. -/
  status  : Status := .ok
  result  : Nat := 0
  discard : Bool := false
  spilled : Bool := false
  deriving DecidableEq, Repr

/-- A started chain (R58 to R66); a request outside chains is a chain of one step. -/
structure Chain where
  ring    : Nat
  group   : Nat
  /-- Sequencer of the group that runs it (R16, R17). -/
  seq     : Nat := 0
  steps   : List Nat
  cur     : Nat := 0
  /-- Step whose check 6 reads are in progress. -/
  gather  : Nat := 0
  fence   : Bool := false
  /-- Waits for chain-buffer space (rule 3 of R63). -/
  waitBuf : Bool := false
  pages   : Nat := 0
  /-- An intermediate of the chain lies in a spill buffer (R64). -/
  spill   : Bool := false
  /-- Checks 1 to 6 have passed for every step. -/
  started : Bool := false
  /-- Intermediate of the step before `cur`. -/
  inter   : Bytes := []
  /-- Spill buffer that holds it instead (R63). -/
  spillAt : Option Nat := none
  /-- Handle of the slot that the nearest earlier step created (R157); generations resolved so far (R65). -/
  created : Option Nat := none
  gens    : List (Nat × Nat) := []
  /-- Entries still to be written. -/
  left    : Nat := 0
  deriving DecidableEq, Repr

/-- What a data-port transaction is for. -/
inductive Own where
  /-- Work that has ended; the answer is discarded. -/
  | none
  /-- Descriptor read of a ring: first number, count. -/
  | desc (ring first count : Nat)
  /-- Part of a request's read stage: request, stream, offset. -/
  | req (r stream off : Nat)
  /-- Output write or context write of a request. -/
  | out (r : Nat)
  | ctx (r : Nat)
  /-- Completion entry of a ring: its status, whether it counts toward the coalescer, whether it signals at once, its chain;
  `fetchFail` marks the entry of R54, which belongs to no request; the VECTOR that its request read (R275); whether an output or context
  write of the request has been issued (R330). -/
  | cq (ring : Nat) (st : Status) (counted atOnce : Bool) (chain : Nat) (fetchFail : Bool) (vec : Nat) (wrote : Bool)
  /-- Vault fetch of a request's line or path; vault update in progress. -/
  | vfetch (id : Nat)
  | vupd
  /-- Read of the update in progress, before its writes (R159, R175). -/
  | vupdR (off : Nat)
  /-- Survey or vigil probe of a port (R312, R325). -/
  | probe (port : Nat) (vigil : Bool)
  /-- Procession: HEAD, descriptor, data stream (0 index table, 1 A side, 2 B side), write, CCB. -/
  | head (c : Nat)
  | cdesc (c : Nat)
  | cdata (c stream off : Nat)
  | cwrite (c off : Nat)
  | ccb (c : Nat) (int : Bool)
  /-- Migration objects of a function: input read, output write. -/
  | actIn (f off : Nat)
  | actOut (f : Nat)
  deriving DecidableEq, Repr

/-- A data-port transaction in use (R371, R376). -/
structure Txn where
  port  : Nat
  tag   : Nat
  wr    : Bool
  addr  : Nat
  len   : Nat
  fn    : Nat
  /-- PASID entry form: bit 31 valid, bits 19 to 0 PASID. -/
  pasid : Nat
  /-- Lines arrived, bytes received or to be written, first error. -/
  beats : Nat := 0
  data  : Bytes := []
  err   : Option Status := none
  own   : Own := .none
  /-- Function whose resolution caused a vault access (R248). -/
  payer : Option Nat := none
  /-- Quarantined after a timeout or protocol break (R214, R375). -/
  quar  : Bool := false
  /-- Some beat may leave with WR_POISON (R330, R372). -/
  poison : Bool := false
  /-- A vault access, bounded by VAULT_TIMEOUT (R376). -/
  vault : Bool := false
  /-- A block reset met it outstanding: its answer is discarded (R302). -/
  cut   : Bool := false
  deriving DecidableEq, Repr

/-- A burst waiting for a tag and for port bandwidth (R19, R248). -/
structure Burst where
  region : Nat
  wr     : Bool
  addr   : Nat
  len    : Nat
  fn     : Nat
  pasid  : Nat
  data   : Bytes := []
  own    : Own
  vault  : Bool := false
  /-- Function whose resolution caused a vault access (R248): it is charged; the access itself is function 0's (R141). -/
  payer  : Option Nat := none
  deriving DecidableEq, Repr

/-- A pending replacement (R149, R174): shadow record index, material, key check value (empty for an asymmetric key), the slot and
the next generation that it is bound to, and its write count. -/
structure Shadow where
  idx  : Nat
  mat  : Bytes
  kcv  : Bytes := []
  slot : Nat := 0
  gen  : Nat := 0
  wc   : Nat := 0
  deriving DecidableEq, Repr

/-- A slot record (R149). -/
structure SlotRec where
  state  : SlotState := .free
  epoch  : Nat := 0
  gen    : Nat := 0
  owner  : Nat := 0
  policy : Nat := 0
  tag    : Bytes := []
  mat    : Bytes := []
  /-- Large-key record held (R132). -/
  large  : Option Nat := none
  fixed  : Nat := 0
  invRes : Nat := 0
  blkRes : Nat := 0
  blkLim : Nat := 0
  mark   : Option (Nat × Nat) := none
  shadow : Option Shadow := none
  /-- First generation whose blocks the block-usage counter includes (R85). -/
  blkGen : Nat := 0
  /-- Write counts of the record and of its large-key record (R144). -/
  wc     : Nat := 0
  lwc    : Nat := 0
  deriving DecidableEq, Repr

/-- Changes to the vault that take effect together at an effect point (R147, R154). -/
inductive VOp where
  | put (slot : Nat) (r : SlotRec)
  /-- Raise the invocation reservation by 4,096 unless it lies above `value` already (R81); set the block-usage reservation
  (R83) of the count that begins with a generation (R85); set the stream mark (R93). -/
  | raiseInv (slot value : Nat)
  | setBlk (slot res gen : Nat)
  | setMark (slot : Nat) (mark : Option (Nat × Nat))
  | retire (slot : Nat)
  | toReplacing (slot : Nat) (sh : Shadow)
  | flip (slot : Nat) (keepBlk : Bool)
  | cancel (slot : Nat)
  | erasing (slot : Nat)
  | free (slot : Nat)
  /-- Function records: reservation of the context counter of a key, new context key, freeze mark. -/
  | ctxRes (f value : Nat) (key : Bytes)
  | ctxKey (f : Nat) (key : Bytes)
  | freeze (f : Nat) (on : Bool)
  /-- The last effect of a destruction (R243, R264): the function leaves, with MIG_STATE RELEASED where `released`. -/
  | absent (f : Nat) (released : Bool)
  /-- A RESTORE brings the function (R263), or takes it back again (R259); a slot that it had put is FREE with the epoch that it had. -/
  | restore (f : Nat) (r : Restoral)
  | unrestore (f : Nat) (r : Restoral)
  | unput (slot epoch : Nat)
  deriving DecidableEq, Repr

/-- A location that the walker reads or writes: level in the tree (0 a line) and index there. -/
abbrev TreePos := Nat × Nat

/-- A vault update (R147): its changes, the request that waits for it, its lines, transactions outstanding, the attempt
(0 first, 1 retry, 2 rollback) and the first error of the attempt. -/
structure VUpd where
  ops    : List VOp
  req    : Option Nat := none
  /-- Region whose request asks the walker for it (R23); 4 for the block's own. -/
  region : Nat := 4
  lines  : List Nat := []
  outst  : Nat := 0
  tryNo  : Nat := 0
  err    : Option Status := none
  /-- The error to report once the rollback has run. -/
  fail   : Option Status := none
  begun  : Bool := false
  /-- Address and bytes of the writes that failed in this attempt. -/
  failed : List (Nat × Bytes) := []
  /-- Reading its lines and paths; whether this is the second reading; what is read, and the bytes read, by address (R146). -/
  reading : Bool := false
  again  : Bool := false
  items  : List TreePos := []
  chunks : List (Nat × Bytes) := []
  /-- The update's write count (R144), and the new contents of every node on its paths, those on die included (R145). -/
  count  : Nat := 0
  nodes  : List (TreePos × Bytes) := []
  deriving DecidableEq, Repr

/-- A vault fetch (R146): slot, request, reads outstanding, whether it is the second reading, what is read, and the bytes read, by
address. -/
structure VFetch where
  id     : Nat
  slot   : Nat
  req    : Nat
  region : Nat
  outst  : Nat := 0
  again  : Bool := false
  err    : Option Status := none
  items  : List TreePos := []
  chunks : List (Nat × Bytes) := []
  deriving DecidableEq, Repr

/-- The vault and its walker (R141 to R184). -/
structure Vault where
  ready    : Bool := false
  inc      : Nat := 0
  slots    : Tbl SlotRec := []
  /-- The root and the two levels below it, held on die (R145), by level x 2^24 + index; nodes of an empty tree are zero. -/
  die      : Tbl Bytes := []
  /-- Verified nodes cached, most recent first (R145). -/
  nodes    : List (TreePos × Bytes) := []
  /-- Leaves damaged (R146). -/
  damaged  : List Nat := []
  freeList : List Nat := []
  /-- Slots below the high-water mark that no key has been put in, ascending (R159). -/
  unused   : List Nat := []
  high     : Nat := 1
  epochSpent : Nat := 0
  lostSlots : Nat := 0
  lostLarge : Nat := 0
  lostShad : Nat := 0
  /-- Write counts already used in this incarnation; those of the shadow and large-key records that were scrubbed, by kind x 2^24 +
  index (R144). -/
  wcount   : Nat := 0
  scrubbed : Tbl Nat := []
  updates  : List VUpd := []
  /-- Whose turn at the walker comes next: one of the four regions, or the block's own (R23). -/
  turn     : Nat := 0
  fetches  : List VFetch := []
  nextId   : Nat := 0
  /-- Previous contents of the locations that the update in progress writes (R331): line below, address, bytes. -/
  writeBack : List (Nat × Nat × Bytes) := []
  /-- Slots noted ERASING in the retention store (R177). -/
  noted    : List Nat := []
  /-- Slots ERASING at their home bank (step 1 of R177). -/
  erasing  : List Nat := []
  /-- A new incarnation is to be drawn (R181 to R184). -/
  fresh    : Bool := true
  /-- Large-key frames cached, most recent first (R162). -/
  frames   : List Nat := []
  /-- NOT_READY until the next block reset because of a factory test mode (R340). -/
  testShut : Bool := false
  deriving DecidableEq, Repr

/-- A key-cache entry (R161). -/
structure CacheEnt where
  slot : Nat
  bank : Nat
  gen  : Nat
  inv  : Nat
  blk  : Nat
  mark : Option (Nat × Nat)
  /-- Key material of this generation; policy, owner, state and epoch as the record holds them. -/
  mat  : Bytes
  pol  : Nat := 0
  owner : Nat := 0
  st   : SlotState := .active
  epoch : Nat := 0
  refs : Nat := 0
  /-- A superseded generation, pinned while references remain (R158). -/
  old  : Bool := false
  deriving DecidableEq, Repr

/-- A private-wire request (R189). -/
inductive Wire where
  | gen (g : Nat)
  | pka (u : Nat)
  | key (r bits : Nat)
  /-- The vault incarnation, with the context keys that it brings (R181, R256); the context key of one function (R240, R256). -/
  | inc
  | ctx (f : Nat)
  | drbg
  deriving DecidableEq, Repr

/-- The RNG domain (R185 to R198). -/
structure Rng where
  state    : RngState := .advent
  step     : AdventStep := .settle
  /-- The present Advent follows an RNG domain reset (R134, R193). -/
  fromReset : Bool := false
  /-- Sources passed their start-up test in this Advent; sources whose rerun is due (R188). -/
  passed   : List Nat := []
  rerun    : List Nat := []
  /-- Sources whose oscillators did not settle (step 2 of R191). -/
  skipped  : List Nat := []
  feeding  : BitVec 8 := 0
  /-- The conditioner's shift register of 1,024 bits (R185); its output blocks held back (R186); the output reserve. -/
  cond     : Bytes := List.replicate 128 0
  held     : List Bytes := []
  reserve  : Bytes := []
  wires    : List Wire := []
  /-- Region whose request the CTR_DRBG takes next (R23). -/
  turn     : Nat := 0
  drbg     : Bytes := []
  calls    : Nat := 0
  /-- Randomness left in the buffer of each PKA unit (R134). -/
  pkaBuf   : Tbl Bytes := []
  rct      : BitVec 32 := 0
  apt      : BitVec 32 := 0
  startup  : BitVec 32 := 0
  advents  : U32 := 0
  halts    : U32 := 0
  lastNs   : Nat := 0
  beganAt  : Nat := 0
  reseeds  : Nat := 0
  deriving DecidableEq, Repr

/-- What a run is doing. -/
inductive RunStage where
  | head | desc | checked | index | data | writing | ccb
  deriving DecidableEq, Repr

/-- A Procession run (R203 to R218). -/
structure Run where
  stage   : RunStage := .head
  descAt  : Nat := 0
  nextOfs : Int := 0
  ctl     : Nat := 0
  a       : Nat := 0
  b       : Nat := 0
  c       : Nat := 0
  hops    : Nat := 0
  /-- Bytes written by the run's retired descriptors (R217). -/
  written : Nat := 0
  /-- The current descriptor issued a write. -/
  wrote   : Bool := false
  chunks  : List (Nat × Nat × Bytes) := []
  outst   : Nat := 0
  err     : Option Status := none
  errIdx  : Nat := 0
  hopLim  : Nat := 0
  /-- VECTOR as it stood when HEAD was read (R275). -/
  vector  : Nat := 0
  lost    : Bool := false
  /-- Ends with ABORTED_RESET once nothing is outstanding (R206). -/
  stop    : Bool := false
  /-- Outcome for the CCB (R203). -/
  status  : Status := .ok
  result  : Nat := 0
  headRead : Bool := false
  /-- Mover that works on the run: one that drains keeps it while its channel is served elsewhere (R324). -/
  mover   : Nat := 0
  deriving DecidableEq, Repr

/-- A channel (R201). -/
structure ChanRec where
  owner   : Option Nat := none
  local_  : Nat := 0
  state   : ChanState := .disabled
  /-- Mover now serving it, when not the home mover of R199. -/
  moved   : Option Nat := none
  prev    : U32 := 0
  pending : Nat := 0
  runs    : U32 := 0
  errors  : BitVec 2 := 0
  run     : Option Run := none
  /-- After the present stop the channel becomes DISABLED; CHAN_STATE before a freeze. -/
  disable : Bool := false
  thaw    : ChanState := .disabled
  deriving DecidableEq, Repr

/-- A timer (R219, R220): armed, arm time, last firing, next firing (ns), counters. -/
structure TimerRec where
  armed  : Bool := false
  armAt  : Nat := 0
  last   : Option Nat := none
  next   : Nat := 0
  fired  : U32 := 0
  missed : U32 := 0
  deriving DecidableEq, Repr

/-- An open peer token (R393): token, request, whether by CLAIM, bytes received. -/
structure Token where
  token : Nat
  req   : Nat
  claim : Bool
  got   : Bytes := []
  deriving DecidableEq, Repr

/-- A message to the peer (R391, R392). -/
structure PeerMsg where
  type   : Nat
  fn     : Nat := 0
  pasid  : Nat := 0
  token  : Nat := 0
  len    : Nat := 0
  origLen : Nat := 0
  raw    : Bool := false
  alg    : Nat := 0
  data   : Bytes := []
  deriving DecidableEq, Repr

/-- The peer port (R224 to R235). -/
structure Peer where
  present  : Bool := false
  caps     : BitVec 2 := 0
  maxJob   : Nat := 0
  failures : U32 := 0
  violations : U32 := 0
  tokens   : List Token := []
  out      : List PeerMsg := []
  deriving DecidableEq, Repr

/-- A query outstanding at the lookup port (R233, R395). -/
structure Query where
  qid : Nat
  req : Nat
  /-- LQ_KIND: 0 a lookup, 1 the handshake query of step 4 (R394). -/
  kind : Nat := 0
  /-- What the query carries (R233, R394): the object tag and the requesting function. -/
  tag : Bytes := []
  fn  : Nat := 0
  deriving DecidableEq, Repr

/-- The lookup port (R233 to R235). -/
structure Lookup where
  present   : Bool := false
  queries   : List Query := []
  quar      : List Nat := []
  falseHits : U32 := 0
  retries   : U32 := 0
  fails     : U32 := 0
  timeouts  : U32 := 0
  deriving DecidableEq, Repr

/-- A function's account in one container (R247): charge in the epoch, debt. -/
structure Account where
  charge : Nat := 0
  debt   : Nat := 0
  deriving DecidableEq, Repr

/-- The calendar (R246 to R248) and the power limiter (R407). -/
structure Calendar where
  /-- An epoch has begun since the block reset; before that, capacities are those of the units active now. -/
  started  : Bool := false
  /-- Capacity of each container in the present epoch, by container number. -/
  cap      : Tbl Nat := []
  /-- Accounts by container number x 2,048 + function. -/
  acct     : Tbl Account := []
  /-- Shares, ceilings and bands as committed at the epoch's start, by index x 256 + sub-index (R247, R248). -/
  book     : Tbl Nat := []
  /-- Function served last, by container number x 4 + band (round-robin). -/
  last     : Tbl Nat := []
  /-- Groups whose hash-lane and channel grants are withheld; next group of the round-robin. -/
  withheld : List Nat := []
  nextGrp  : Nat := 0
  /-- Requests started and bytes granted on the ports since the last estimate. -/
  usReqs   : Nat := 0
  usBytes  : Nat := 0
  deriving DecidableEq, Repr

/-- A pending copy of a commit group (R277): values staged by key index x 256 + sub-index. -/
structure Pending where
  group  : Nat
  holder : Principal
  vals   : List (Nat × Bytes)
  deriving DecidableEq, Repr

/-- A snapshot of a long value (R286). -/
structure Snapshot where
  prin : Principal
  key  : Nat
  val  : Bytes
  deriving DecidableEq, Repr

/-- An AAP response (R281). -/
structure Resp where
  prin   : Principal
  ver    : Nat
  op     : Nat
  status : AapCode
  seq    : Nat
  index  : Nat
  sub    : Nat
  value  : Bytes
  deriving DecidableEq, Repr

/-- A function's mailbox (R289). -/
structure Mail where
  busy : Bool := false
  done : Bool := false
  ovr  : Bool := false
  req  : Option AapMsg := none
  resp : Bytes := []
  deriving DecidableEq, Repr

/-- An OOB request being served (R288). -/
structure OobReq where
  eid : Nat
  tag : Nat
  msg : AapMsg
  deriving DecidableEq, Repr

/-- An MCTP message under reassembly (R385). -/
structure Reasm where
  eid  : Nat
  tag  : Nat
  seq  : Nat
  body : Bytes
  deriving DecidableEq, Repr

/-- The Almanac service and its transports (R272 to R289, R399). -/
structure Mgmt where
  pend    : List Pending := []
  snaps   : List Snapshot := []
  mail    : Tbl Mail := []
  oob     : List OobReq := []
  eid     : Nat := 0
  reasm   : List Reasm := []
  mo      : List Bytes := []
  /-- The test access port's request: bytes received, and the request once it is complete (R399). -/
  dbgIn   : Bytes := []
  dbg     : Option AapMsg := none
  dbgOut  : Bytes := []
  /-- Principals of the open requests, in their arrival order on the management path (R284). -/
  order   : List Principal := []
  /-- Last response produced, on whatever path. -/
  last    : Option Resp := none
  /-- A COMMIT whose answer waits for its effect (R298, R364): group 9000 or 9002. -/
  waiting : Option AapMsg := none
  deriving DecidableEq, Repr

/-- State of one slot of an NV bank as last read or written (R348, R350). -/
inductive NvSlot where
  | erased
  | bad
  | valid (seq : Nat)
  deriving DecidableEq, Repr

/-- A persistent record (R350): its banks' slots, newest sequence number, payload in force, and its fate at reading. -/
structure NvRec where
  bank0   : List NvSlot := []
  bank1   : List NvSlot := []
  seq     : Nat := 0
  payload : Bytes := []
  valid   : Bool := false
  failed  : Bool := false
  deriving DecidableEq, Repr

/-- What a record write is for. -/
inductive NvWhy where
  | bring
  | phase (p : LcPhase)
  | authority
  | chain (r : Nat)
  | jubilee
  | bootcfg
  | survey
  deriving DecidableEq, Repr

/-- What the NV port is doing for a job. -/
inductive NvStep where
  | readPage (bank page : Nat)
  | erase (sector : Nat)
  | program (page : Nat)
  | verify (page : Nat)
  deriving DecidableEq, Repr

/-- A record procedure on the NV port (R350): record, payload to write (none: read), step, bytes gathered, slot, attempt. -/
structure NvJob where
  recId   : Nat
  write   : Option Bytes
  why     : NvWhy
  step    : NvStep
  got     : Bytes := []
  bank    : Nat := 0
  slot    : Nat := 0
  tryNo   : Nat := 0
  begun   : Bool := false
  /-- A phase mark that is written again after a failure (R345). -/
  again   : Bool := false
  deriving DecidableEq, Repr

/-- The NV store and its port (R313, R348 to R353, R386, R387). -/
structure Nv where
  recs   : Tbl NvRec := []
  jobs   : List NvJob := []
  /-- Survey pages programmed in the survey sector (R313), and the cycle at which the page program began. -/
  pages  : Nat := 0
  progAt : Nat := 0
  /-- A failed phase-mark write waits for its once-per-second retry (R345). -/
  retry  : Option NvJob := none
  /-- Whose turn at the NV port comes next: one of the four regions, or the block's own (R23). -/
  turn   : Nat := 0
  jubAt  : Nat := 0
  jubDirty : Bool := false
  /-- The jubilee counters have been loaded since power-on (R352). -/
  jubLoaded : Bool := false
  deriving DecidableEq, Repr

/-- Life cycle, debug authorisation, identity and attestation (R335 to R366). -/
structure Life where
  state     : Nat := 0
  count     : Nat := 0
  phase     : LcPhase := .none
  result    : Nat := 0
  target    : Nat := 255
  newAuth   : Bytes := []
  digest    : Bytes := List.replicate 48 0
  /-- Alarm mask as the LIFECYCLE record holds it (R352). -/
  mask      : Nat := 15
  auth      : Option Bytes := none
  challenge : Option Bytes := none
  dbgChal   : Option Bytes := none
  debugEn   : BitVec 2 := 0
  /-- A transition runs (steps 2 to 9 of R345); its work is draining (step 3). -/
  busy      : Bool := false
  draining  : Bool := false
  statement : Bytes := []
  serial    : U32 := 0
  deriving DecidableEq, Repr

/-- The test access port (R398 to R400). -/
structure Tap where
  ir       : TapInstr := .idcode
  /-- What Capture-IR loaded last, shifted out ahead of the instruction (R398). -/
  irOut    : BitVec 8 := 1
  /-- TDO, driven in Shift-IR and Shift-DR alone (none: high impedance), and WSO (R397, R400). -/
  tdo      : Option Bool := none
  wso      : Bool := false
  sel      : BitVec 64 := 0
  dr       : BitVec 64 := 0
  wrapper  : Bool := false
  /-- A memory factory test mode has been selected since the block reset (R340). -/
  factory  : Bool := false
  deriving DecidableEq, Repr

/-- A pending pair of function and vector (R383): whether the block's own message (R250) is merged in it, and whether its
pending bit was withdrawn while the message was offered. -/
structure IrqMsg where
  fn    : Nat
  vec   : Nat
  own   : Bool := false
  stale : Bool := false
  deriving DecidableEq, Repr

/-- The machine. -/
structure State where
  pending : List Instr := []
  /-- The model's own free-value counter. -/
  free    : Nat := 0
  pins    : Pins := {}
  bring   : Bringup := {}
  alarms  : Alarms := {}
  units   : Tbl UnitRec := []
  gens    : Tbl GenRec := []
  sticky  : BitVec 768 := 0
  /-- The model's own: sources whose conditions arose in the present command; the collector reacts before the command ends. -/
  raised  : List Nat := []
  safe    : Bool := false
  /-- Ledger of R332: two bits a ring and a channel. -/
  ledgerR : Tbl Nat := []
  ledgerC : Tbl Nat := []
  /-- Pending interrupt pairs in the order offered, the message on offer first (R383). -/
  irq     : List IrqMsg := []
  /-- Committed values of every RW and RWS entry of scalar type, by index x 256 + sub-index. -/
  cfg     : Tbl Nat := []
  cnt     : Counters := {}
  fstat   : Tbl FnStats := []
  fns     : Tbl FnRec := []
  rings   : Tbl RingRec := []
  reqs    : Tbl (Option Req) := []
  chains  : Tbl (Option Chain) := []
  nextReq : Nat := 0
  /-- Pages in use of each group's chain buffer and bytes in use of its echo staging (R63, R115). -/
  chainUse : Tbl Nat := []
  echoUse : Tbl Nat := []
  txns    : List Txn := []
  bursts  : List Burst := []
  vault   : Vault := {}
  cache   : List CacheEnt := []
  rng     : Rng := {}
  chans   : Tbl ChanRec := []
  timers  : Tbl TimerRec := []
  peer    : Peer := {}
  lookup  : Lookup := {}
  cal     : Calendar := {}
  mgmt    : Mgmt := {}
  nv      : Nv := {}
  life    : Life := {}
  tap     : Tap := {}
  deriving DecidableEq, Repr

/-- The machine while PO_RST_N is low (R300, R367): every field at the value the manual gives for it, or at the value the
assumption log names where the manual gives none. -/
def State.reset : State := {}

end Sys2Proof.Machine
end

