-- ==== Sys2Proof/Machine/Ops.lean ====
section
/-!
DEFINITION. The named operations under every meaning: sparse tables, byte strings, the clock of the model, free bytes, the
records of State by number, and what every command ends with (`settle`, `done`).
-/
namespace Sys2Proof.Machine

open Sys2Proof

/-! ### Sparse tables -/

/-- Entry `k` of a table whose unlisted entries hold `d`. -/
def tget {α : Type} (d : α) : Tbl α → Nat → α
  | [], _ => d
  | (k', v) :: t, k => if k' = k then v else tget d t k

/-- Entry `k` set to `v`, keeping the keys rising and leaving out entries that hold `d`. -/
def tput {α : Type} [DecidableEq α] (d : α) : Tbl α → Nat → α → Tbl α
  | [], k, v => if v = d then [] else [(k, v)]
  | (k', v') :: t, k, v =>
    if k < k' then (if v = d then (k', v') :: t else (k, v) :: (k', v') :: t)
    else if k = k' then (if v = d then t else (k, v) :: t)
    else (k', v') :: tput d t k v

/-- Canonical form of a table: every key at least `lo`, keys rising, no entry that holds `d`. -/
def twfFrom {α : Type} [DecidableEq α] (d : α) : Nat → Tbl α → Bool
  | _, [] => true
  | lo, (k, v) :: t => decide (lo ≤ k) && (! decide (v = d)) && twfFrom d (k + 1) t

/-- Canonical form of a table. -/
def twf {α : Type} [DecidableEq α] (d : α) (t : Tbl α) : Bool := twfFrom d 0 t

/-! ### Bytes and bits -/

/-- The low `n` bytes of `v`, little-endian (R6). -/
def le : Nat → Nat → Bytes
  | 0, _ => []
  | n + 1, v => BitVec.ofNat 8 v :: le n (v / 256)

/-- Little-endian value of a byte string. -/
def ofLe : Bytes → Nat
  | [] => 0
  | b :: t => b.toNat + 256 * ofLe t

/-- Big-endian forms, for the standards that use them. -/
def be (n v : Nat) : Bytes := (le n v).reverse
def ofBe (b : Bytes) : Nat := ofLe b.reverse

/-- Bytes `off` to `off + len - 1`. -/
def slice (b : Bytes) (off len : Nat) : Bytes := (b.drop off).take len

/-- Little-endian field of a memory structure. -/
def fld (b : Bytes) (off len : Nat) : Nat := ofLe (slice b off len)

/-- `n` zero bytes. -/
def zeros (n : Nat) : Bytes := List.replicate n 0

/-- The string cut or filled with zeros to `n` bytes. -/
def fit (n : Nat) (b : Bytes) : Bytes := b.take n ++ zeros (n - b.length)

/-- Bits `hi` to `lo` of a number. -/
def bitsOf (v hi lo : Nat) : Nat := (v >>> lo) % 2 ^ (hi + 1 - lo)

def ceilDiv (a b : Nat) : Nat := (a + b - 1) / b

def ofBool (b : Bool) : Nat := if b then 1 else 0

/-- Exclusive-or of two byte strings, as long as the shorter. -/
def xorB (a b : Bytes) : Bytes := List.zipWith (· ^^^ ·) a b

/-- Offset of the first byte at which two strings differ, counted from `i`; a missing byte differs. -/
def firstDiff : Nat → Bytes → Bytes → Option Nat
  | _, [], [] => none
  | i, a :: x, b :: y => if a = b then firstDiff (i + 1) x y else some i
  | i, _, _ => some i

/-- The first `n` bytes of a primitive's output. -/
def primBytes (p : Prim) (ins : List Bytes) (n : Nat) : Bytes := (List.range n).map (Config.prim p ins)

/-- One step of CRC-32C over a bit (Castagnoli, reflected polynomial 82F63B78h). -/
def crcBit (c : Nat) : Nat := if c % 2 = 1 then (c / 2) ^^^ 0x82F63B78 else c / 2

def crcByte (c : Nat) (b : Byte) : Nat :=
  crcBit (crcBit (crcBit (crcBit (crcBit (crcBit (crcBit (crcBit (c ^^^ b.toNat))))))))

/-- CRC-32C of a byte string (R389, R350). -/
def crc32c (b : Bytes) : Nat := (b.foldl crcByte 0xFFFFFFFF) ^^^ 0xFFFFFFFF

/-- A sum that a U64 counter holds. -/
def u64 (n : Nat) : Nat := n % 2 ^ 64

/-! ### Time and free values -/

/-- Length of a REF_CLK cycle in ns under REF_SEL (R368). 11b is reserved; the clock survey then enters the safe state. -/
def refPeriod (s : State) : Nat :=
  if s.pins.refSel = 0 then 40 else if s.pins.refSel = 1 then 20 else 10

/-- Time since PO_RST_N was released (UPTIME, R299). -/
def nowNs (s : State) : Nat := s.pins.cycles * refPeriod s

/-- Time since the last block reset (SINCE_RESET, R299). -/
def sinceReset (s : State) : Nat := (s.pins.cycles - s.pins.resetAt) * refPeriod s

/-- The next `n` free bytes. -/
def freeBytes (s : State) (n : Nat) : Bytes := (List.range n).map fun i => Config.freeByte (s.free + i)

/-- The state after `n` free bytes are used. -/
def useFree (s : State) (n : Nat) : State := { s with free := s.free + n }

/-! ### Records -/

/-- Function 0 always exists; it is QUIESCED until the host chip enables it (R237, R253). -/
def fnDflt (f : Nat) : FnRec := if f = 0 then { state := .quiesced, before := .quiesced } else {}

def getFn (s : State) (f : Nat) : FnRec := tget (fnDflt f) s.fns f
def setFn (s : State) (f : Nat) (r : FnRec) : State := { s with fns := tput (fnDflt f) s.fns f r }
def modFn (s : State) (f : Nat) (g : FnRec → FnRec) : State := setFn s f (g (getFn s f))

def getRing (s : State) (n : Nat) : RingRec := tget {} s.rings n
def setRing (s : State) (n : Nat) (r : RingRec) : State := { s with rings := tput {} s.rings n r }
def modRing (s : State) (n : Nat) (g : RingRec → RingRec) : State := setRing s n (g (getRing s n))

def getReq (s : State) (r : Nat) : Option Req := tget none s.reqs r
def setReq (s : State) (r : Nat) (q : Option Req) : State := { s with reqs := tput none s.reqs r q }
def modReq (s : State) (r : Nat) (g : Req → Req) : State :=
  match getReq s r with
  | none => s
  | some q => setReq s r (some (g q))

def getChain (s : State) (c : Nat) : Option Chain := tget none s.chains c
def setChain (s : State) (c : Nat) (q : Option Chain) : State := { s with chains := tput none s.chains c q }
def modChain (s : State) (c : Nat) (g : Chain → Chain) : State :=
  match getChain s c with
  | none => s
  | some q => setChain s c (some (g q))

def getUnit (s : State) (u : Nat) : UnitRec := tget {} s.units u
def setUnit (s : State) (u : Nat) (r : UnitRec) : State := { s with units := tput {} s.units u r }
def modUnit (s : State) (u : Nat) (g : UnitRec → UnitRec) : State := setUnit s u (g (getUnit s u))

def getGen (s : State) (g : Nat) : GenRec := tget {} s.gens g
def setGen (s : State) (g : Nat) (r : GenRec) : State := { s with gens := tput {} s.gens g r }

def getStat (s : State) (f : Nat) : FnStats := tget {} s.fstat f
def setStat (s : State) (f : Nat) (r : FnStats) : State := { s with fstat := tput {} s.fstat f r }
def modStat (s : State) (f : Nat) (g : FnStats → FnStats) : State := setStat s f (g (getStat s f))

def getChan (s : State) (c : Nat) : ChanRec := tget {} s.chans c
def setChan (s : State) (c : Nat) (r : ChanRec) : State := { s with chans := tput {} s.chans c r }
def modChan (s : State) (c : Nat) (g : ChanRec → ChanRec) : State := setChan s c (g (getChan s c))

def getTimer (s : State) (t : Nat) : TimerRec := tget {} s.timers t
def setTimer (s : State) (t : Nat) (r : TimerRec) : State := { s with timers := tput {} s.timers t r }

def getSlot (s : State) (i : Nat) : SlotRec := tget {} s.vault.slots i
def setSlot (s : State) (i : Nat) (r : SlotRec) : State :=
  { s with vault := { s.vault with slots := tput {} s.vault.slots i r } }

def getMail (s : State) (f : Nat) : Mail := tget {} s.mgmt.mail f
def setMail (s : State) (f : Nat) (m : Mail) : State := { s with mgmt := { s.mgmt with mail := tput {} s.mgmt.mail f m } }

/-- Principal of a function's mailbox (R272). -/
def mailPrin (f : Nat) : Principal := if f = 0 then .mgr else .ve f

/-- A request has arrived on the management path (R284). -/
def arrive (s : State) (p : Principal) : State := { s with mgmt := { s.mgmt with order := s.mgmt.order ++ [p] } }

/-- The oldest request of a principal leaves the management path. -/
def leave (s : State) (p : Principal) : State := { s with mgmt := { s.mgmt with order := s.mgmt.order.erase p } }

def getAcct (s : State) (k : Nat) : Account := tget {} s.cal.acct k
def setAcct (s : State) (k : Nat) (a : Account) : State := { s with cal := { s.cal with acct := tput {} s.cal.acct k a } }

def getNvRec (s : State) (k : Nat) : NvRec := tget {} s.nv.recs k
def setNvRec (s : State) (k : Nat) (r : NvRec) : State := { s with nv := { s.nv with recs := tput {} s.nv.recs k r } }

/-! ### What every command ends with -/

/-- The block while PO_RST_N is low (R300, R301): everything at reset but the queue of commands, the free-value counter, the
levels that the surroundings hold on its inputs (R396), the instruction of the test access port, which has a reset of its own
(R397), and the count of pages programmed in the survey sector, which the NV device holds (R313). -/
def poImage (s : State) : State :=
  { State.reset with
    pending := s.pending
    free := s.free
    pins := { State.reset.pins with poRstLow := s.pins.poRstLow, blkRstLow := s.pins.blkRstLow, safeReq := s.pins.safeReq }
    alarms := { State.reset.alarms with asserted := s.alarms.asserted }
    tap := { State.reset.tap with ir := s.tap.ir }
    nv := { State.reset.nv with pages := s.nv.pages } }

/-- Accesses of the vault update in progress are the one kind of transaction that a warm reset lets leave (R302). -/
def Burst.isUpd (b : Burst) : Bool := match b.own with | .vupd | .vupdR _ => true | _ => false

/-- The write's beats that are still to leave carry WR_POISON (R330, R372). -/
def Txn.poisoned (t : Txn) : Txn := if t.wr then { t with poison := true } else t

/-- The block while BLK_RST_N is low (R302): no request, chain, run, query, peer job, pending copy or snapshot, no interrupt
but the one on offer, no transaction waiting but those of the vault update in progress. Every write beat that is still to leave is
poisoned (R372), that update's among them (log 152). -/
def holdWarm (s : State) : State :=
  { s with
    txns := s.txns.map Txn.poisoned
    reqs := [], chains := [], chainUse := [], echoUse := []
    bursts := s.bursts.filter Burst.isUpd
    irq := s.irq.take 1
    timers := [], cal := {}
    peer := {}, lookup := {}
    mgmt := { s.mgmt with pend := [], snaps := [], mail := [], oob := [], reasm := [], mo := [], waiting := none, order := [] } }

/-- The block in the safe state (steps 3 and 4 of R329): no request, chain or waiting transaction, no message to the peer; the writes
outstanding are poisoned (R330). -/
def holdSafe (s : State) : State :=
  { s with
    txns := s.txns.map Txn.poisoned
    reqs := [], chains := [], chainUse := [], echoUse := [], bursts := []
    peer := { s.peer with out := [], tokens := [] }
    lookup := { s.lookup with queries := [] } }

/-- FATAL and SAFE_ACK follow the safe state (R382, R396). -/
def drivePins (s : State) : State := { s with pins := { s.pins with fatal := s.safe, safeAck := s.safe } }

/-- What the always-on domain imposes at the end of every command: the reset in force and the edge of the safe state. -/
def settle (s : State) : State :=
  if s.pins.poRstLow then poImage s
  else
    let s := drivePins s
    let s := if s.pins.blkRstLow then holdWarm s else s
    if s.safe then holdSafe s else s

/-- The condition of a fault source occurs: the collector reacts before the command ends (R317, R320). -/
def raiseSrc (s : State) (src : Nat) : State := { s with raised := s.raised ++ [src] }

end Sys2Proof.Machine
end

