-- ==== Sys2Proof/Machine/Dictionary.lean ====
section
/-!
DEFINITION. The Almanac's dictionary (R270, R271, R290): the entries of every table of the manual with their type, access,
default, class and legal values, and the committed values that State holds for the writable ones.
-/
namespace Sys2Proof.Machine

open Sys2Proof

/-- Types of R271. -/
inductive Ty where
  | bool | u8 | u16 | u32 | u64 | i32 | enum8 | bits32 | oct (n : Nat) | timeNs | version
  deriving DecidableEq, Repr

/-- Type code of R271. -/
def Ty.code : Ty → Nat
  | .bool => 1 | .u8 => 2 | .u16 => 3 | .u32 => 4 | .u64 => 5 | .i32 => 6 | .enum8 => 7 | .bits32 => 8 | .oct _ => 9
  | .timeNs => 0xA | .version => 0xB

/-- Length in bytes (R271). -/
def Ty.len : Ty → Nat
  | .bool => 1 | .u8 => 1 | .u16 => 2 | .u32 => 4 | .u64 => 8 | .i32 => 4 | .enum8 => 1 | .bits32 => 4 | .oct n => n
  | .timeNs => 8 | .version => 4

def Ty.isOct : Ty → Bool
  | .oct _ => true
  | _ => false

/-- Access codes of R274. -/
inductive Acc where
  | ro | rw | rws | wo | rc | w1c
  deriving DecidableEq, Repr

/-- Access codes of a DESCRIBE response (R287). -/
def Acc.code : Acc → Nat
  | .ro => 1 | .rw => 2 | .rws => 3 | .wo => 4 | .rc => 5 | .w1c => 6

/-- Classes of R275. -/
inductive Cls where
  | none | live | drain | idle
  deriving DecidableEq, Repr

def Cls.code : Cls → Nat
  | .none => 0 | .live => 1 | .drain => 2 | .idle => 3

/-- One row of an entry table: sub-indices `s0` to `s1` of an index. `ok` lists the legal intervals (empty: every value of
the type), `step` the multiple that a value must be, `rsvd` the reserved bits. -/
structure Entry where
  s0   : Nat
  s1   : Nat
  ty   : Ty
  acc  : Acc
  dflt : Nat
  cls  : Cls
  ok   : List (Nat × Nat) := []
  step : Nat := 1
  rsvd : Nat := 0
  deriving DecidableEq, Repr

/-- Entries from AL 1000 on (R3). -/
def dict1000 : List Entry := [
  -- HW_VERSION
  { s0 := 0x01, s1 := 0x01, ty := .version, acc := .ro, dflt := 131072, cls := .none },
  -- FW_VERSION
  { s0 := 0x02, s1 := 0x02, ty := .version, acc := .ro, dflt := 131075, cls := .none },
  -- FW_DIGEST
  { s0 := 0x03, s1 := 0x03, ty := (.oct 48), acc := .ro, dflt := 0, cls := .none },
  -- UNIT_ID
  { s0 := 0x04, s1 := 0x04, ty := (.oct 48), acc := .ro, dflt := 0, cls := .none },
  -- FAMILY
  { s0 := 0x05, s1 := 0x05, ty := .enum8, acc := .ro, dflt := 1, cls := .none } ]

/-- Entries from AL 1001 on (R291). -/
def dict1001 : List Entry := [
  -- AAP_VERSIONS
  { s0 := 0x01, s1 := 0x01, ty := .bits32, acc := .ro, dflt := 3, cls := .none },
  -- ALMANAC_FORMAT
  { s0 := 0x02, s1 := 0x02, ty := .version, acc := .ro, dflt := 131072, cls := .none },
  -- ENTERPRISE_NUMBER
  { s0 := 0x03, s1 := 0x03, ty := .u32, acc := .ro, dflt := 57218, cls := .none },
  -- MAX_VALUE
  { s0 := 0x04, s1 := 0x04, ty := .u16, acc := .ro, dflt := 1024, cls := .none } ]

/-- Entries from AL 2000 on (R292). -/
def dict2000 : List Entry := [
  -- READY
  { s0 := 0x01, s1 := 0x01, ty := .bits32, acc := .ro, dflt := 0, cls := .none },
  -- LANES_READY
  { s0 := 0x02, s1 := 0x02, ty := .bits32, acc := .ro, dflt := 0, cls := .none },
  -- HASH_READY
  { s0 := 0x03, s1 := 0x03, ty := .bits32, acc := .ro, dflt := 0, cls := .none },
  -- PKA_READY
  { s0 := 0x04, s1 := 0x04, ty := .bits32, acc := .ro, dflt := 0, cls := .none },
  -- SEQ_READY_LO
  { s0 := 0x05, s1 := 0x05, ty := .bits32, acc := .ro, dflt := 0, cls := .none },
  -- SEQ_READY_HI
  { s0 := 0x06, s1 := 0x06, ty := .bits32, acc := .ro, dflt := 0, cls := .none },
  -- PORTS_READY
  { s0 := 0x07, s1 := 0x07, ty := .bits32, acc := .ro, dflt := 0, cls := .none },
  -- BRINGUP_TIME
  { s0 := 0x08, s1 := 0x08, ty := .timeNs, acc := .ro, dflt := 0, cls := .none } ]

/-- Entries from AL 2001 on (R293). -/
def dict2001 : List Entry := [
  -- CONFIG_DIGEST
  { s0 := 0x01, s1 := 0x01, ty := (.oct 48), acc := .ro, dflt := 0, cls := .none },
  -- LAYOUT_DIGEST
  { s0 := 0x02, s1 := 0x02, ty := (.oct 48), acc := .ro, dflt := 0, cls := .none },
  -- COMMIT_SERIAL
  { s0 := 0x03, s1 := 0x03, ty := .u32, acc := .ro, dflt := 0, cls := .none },
  -- PENDING_GROUPS
  { s0 := 0x04, s1 := 0x04, ty := .u16, acc := .ro, dflt := 0, cls := .none },
  -- PENDING_TIMEOUT
  { s0 := 0x05, s1 := 0x05, ty := .timeNs, acc := .rw, dflt := 60000000000, cls := .live, ok := [(1000000000, 3600000000000)] } ]

/-- Entries from AL 2010 on (R25). -/
def dict2010 : List Entry := [
  -- SEQ_ACTIVE
  { s0 := 0x01, s1 := 0x01, ty := .u8, acc := .ro, dflt := 64, cls := .none },
  -- LANES_ACTIVE
  { s0 := 0x02, s1 := 0x02, ty := .u8, acc := .ro, dflt := 32, cls := .none },
  -- HASH_ACTIVE
  { s0 := 0x03, s1 := 0x03, ty := .u8, acc := .ro, dflt := 16, cls := .none },
  -- PKA_ACTIVE
  { s0 := 0x04, s1 := 0x04, ty := .u8, acc := .ro, dflt := 16, cls := .none },
  -- KC_ACTIVE
  { s0 := 0x05, s1 := 0x05, ty := .u8, acc := .ro, dflt := 16, cls := .none },
  -- PORTS_ACTIVE
  { s0 := 0x06, s1 := 0x06, ty := .u8, acc := .ro, dflt := 16, cls := .none },
  -- NS_ACTIVE
  { s0 := 0x07, s1 := 0x07, ty := .u8, acc := .ro, dflt := 8, cls := .none },
  -- MOV_ACTIVE
  { s0 := 0x08, s1 := 0x08, ty := .u8, acc := .ro, dflt := 8, cls := .none },
  -- GROUPS_ACTIVE
  { s0 := 0x09, s1 := 0x09, ty := .bits32, acc := .ro, dflt := 255, cls := .none },
  -- REGIONS_ACTIVE
  { s0 := 0x0A, s1 := 0x0A, ty := .bits32, acc := .ro, dflt := 15, cls := .none } ]

/-- Entries from AL 2020 on (R295). -/
def dict2020 : List Entry := [
  -- PORT_RTT
  { s0 := 0x01, s1 := 0x10, ty := .timeNs, acc := .ro, dflt := 0, cls := .none },
  -- PROBE_ADDR
  { s0 := 0x11, s1 := 0x11, ty := .u64, acc := .rws, dflt := 0, cls := .live, rsvd := 0x7F },
  -- PROBE_PASID
  { s0 := 0x12, s1 := 0x12, ty := .u32, acc := .rws, dflt := 0, cls := .live, rsvd := 0x7FF00000 },
  -- TAG_WINDOW
  { s0 := 0x13, s1 := 0x13, ty := .u16, acc := .ro, dflt := 256, cls := .none },
  -- TAG_WINDOW_OVERRIDE
  { s0 := 0x14, s1 := 0x14, ty := .u16, acc := .rws, dflt := 0, cls := .live, ok := [(0, 256)] },
  -- CORE_KHZ
  { s0 := 0x15, s1 := 0x15, ty := .u32, acc := .ro, dflt := 0, cls := .none },
  -- PORT_KHZ
  { s0 := 0x16, s1 := 0x16, ty := .u32, acc := .ro, dflt := 0, cls := .none },
  -- MGMT_KHZ
  { s0 := 0x17, s1 := 0x17, ty := .u32, acc := .ro, dflt := 0, cls := .none },
  -- SUPPLY_CORE_MV
  { s0 := 0x18, s1 := 0x18, ty := .u16, acc := .ro, dflt := 0, cls := .none },
  -- SUPPLY_AON_MV
  { s0 := 0x19, s1 := 0x19, ty := .u16, acc := .ro, dflt := 0, cls := .none },
  -- NV_PROGRAM_NS
  { s0 := 0x1A, s1 := 0x1A, ty := .timeNs, acc := .ro, dflt := 0, cls := .none },
  -- NV_PROGRAM_OVERRIDE
  { s0 := 0x1B, s1 := 0x1B, ty := .timeNs, acc := .rws, dflt := 0, cls := .live, ok := [(0, 0), (10000, 10000000)] },
  -- SURVEY_STATUS
  { s0 := 0x1C, s1 := 0x1C, ty := .bits32, acc := .ro, dflt := 0, cls := .none } ]

/-- Entries from AL 2030 on (R235). -/
def dict2030 : List Entry := [
  -- PEER_PRESENT
  { s0 := 0x01, s1 := 0x01, ty := .bool, acc := .ro, dflt := 0, cls := .none },
  -- PEER_CAPS
  { s0 := 0x02, s1 := 0x02, ty := .bits32, acc := .ro, dflt := 0, cls := .none },
  -- PEER_MAX_JOB
  { s0 := 0x03, s1 := 0x03, ty := .u32, acc := .ro, dflt := 0, cls := .none },
  -- PEER_TIMEOUT
  { s0 := 0x04, s1 := 0x04, ty := .timeNs, acc := .rw, dflt := 10000000, cls := .live, ok := [(100000, 100000000)] },
  -- PEER_FAILURES
  { s0 := 0x05, s1 := 0x05, ty := .u32, acc := .ro, dflt := 0, cls := .none },
  -- PEER_VIOLATIONS
  { s0 := 0x06, s1 := 0x06, ty := .u32, acc := .ro, dflt := 0, cls := .none } ]

/-- Entries from AL 2031 on (R235). -/
def dict2031 : List Entry := [
  -- LOOKUP_PRESENT
  { s0 := 0x01, s1 := 0x01, ty := .bool, acc := .ro, dflt := 0, cls := .none },
  -- LOOKUP_TIMEOUT
  { s0 := 0x02, s1 := 0x02, ty := .timeNs, acc := .rw, dflt := 20000, cls := .live, ok := [(2000, 1000000)] },
  -- FALSE_HITS
  { s0 := 0x03, s1 := 0x03, ty := .u32, acc := .ro, dflt := 0, cls := .none },
  -- AMBIGUOUS_RETRIES
  { s0 := 0x04, s1 := 0x04, ty := .u32, acc := .ro, dflt := 0, cls := .none },
  -- AMBIGUOUS_FAILS
  { s0 := 0x05, s1 := 0x05, ty := .u32, acc := .ro, dflt := 0, cls := .none },
  -- LOOKUP_TIMEOUTS
  { s0 := 0x06, s1 := 0x06, ty := .u32, acc := .ro, dflt := 0, cls := .none } ]

/-- Entries from AL 2040 on (R255). -/
def dict2040 : List Entry := [
  -- SKEWED_VES
  { s0 := 0x01, s1 := 0x01, ty := .u16, acc := .ro, dflt := 0, cls := .none },
  -- SKEWED_RINGS
  { s0 := 0x02, s1 := 0x02, ty := .u16, acc := .ro, dflt := 0, cls := .none },
  -- SKEW_EVENTS
  { s0 := 0x03, s1 := 0x03, ty := .u32, acc := .ro, dflt := 0, cls := .none } ]

/-- Entries from AL 2041 on (R269). -/
def dict2041 : List Entry := [
  -- MIG_OPEN_TIMEOUT
  { s0 := 0x01, s1 := 0x01, ty := .timeNs, acc := .rw, dflt := 60000000000, cls := .live, ok := [(1000000000, 3600000000000)] } ]

/-- Entries from AL 3000 on (R297, R332). The bits of the reserved sources 521 to 767 (R316) are no reserved bits of STICKY: a write of 1
to one of them clears nothing and answers OK (R10; DESIGN CHOICE, log 135). -/
def dict3000 : List Entry := [
  -- STICKY
  { s0 := 0x01, s1 := 0x18, ty := .bits32, acc := .w1c, dflt := 0, cls := .live },
  -- SAFE_STATE
  { s0 := 0x19, s1 := 0x19, ty := .bool, acc := .ro, dflt := 0, cls := .none },
  -- REGIME
  { s0 := 0x1A, s1 := 0x1A, ty := .enum8, acc := .ro, dflt := 1, cls := .none },
  -- STICKY_COUNT
  { s0 := 0x1B, s1 := 0x1B, ty := .u16, acc := .ro, dflt := 0, cls := .none },
  -- SAFE_COMMAND
  { s0 := 0x1C, s1 := 0x1C, ty := .bool, acc := .wo, dflt := 0, cls := .none },
  -- SAFE_RINGS
  { s0 := 0x1D, s1 := 0x1D, ty := (.oct 1024), acc := .ro, dflt := 0, cls := .none },
  -- SAFE_CHANNELS
  { s0 := 0x1E, s1 := 0x1E, ty := (.oct 64), acc := .ro, dflt := 0, cls := .none } ]

/-- Entries from AL 3100 on (R297). -/
def dict3100 : List Entry := [
  -- SEVERITY
  { s0 := 0x00, s1 := 0xFF, ty := .enum8, acc := .rws, dflt := 0, cls := .live, ok := [(0, 3)] } ]

/-- Entries from AL 3200 on (R297). -/
def dict3200 : List Entry := [
  -- VIGIL_PERIOD
  { s0 := 0x01, s1 := 0x01, ty := .timeNs, acc := .rws, dflt := 100000000, cls := .live, ok := [(1000000, 10000000000)] },
  -- RECOVERY_LIMIT
  { s0 := 0x02, s1 := 0x02, ty := .u8, acc := .rws, dflt := 4, cls := .live, ok := [(1, 255)] },
  -- LANTERN_HALF_PERIOD
  { s0 := 0x03, s1 := 0x03, ty := .u32, acc := .ro, dflt := 32768, cls := .none } ]

/-- Entries from AL 3300 on (R297). -/
def dict3300 : List Entry := [
  -- JUBILEE
  { s0 := 0x00, s1 := 0xBB, ty := .u32, acc := .ro, dflt := 0, cls := .none } ]

/-- Entries from AL 3301 on (R297). -/
def dict3301 : List Entry := [
  -- UNIT_STATE
  { s0 := 0x00, s1 := 0xBB, ty := .enum8, acc := .ro, dflt := 0, cls := .none } ]

/-- Entries from AL 3302 on (R297). -/
def dict3302 : List Entry := [
  -- UNIT_CMD
  { s0 := 0x00, s1 := 0xBB, ty := .enum8, acc := .rws, dflt := 0, cls := .drain, ok := [(0, 1)] } ]

/-- Entries from AL 4000 on (R237). -/
def dict4000 : List Entry := [
  -- VE_CMD
  { s0 := 0x01, s1 := 0x01, ty := .enum8, acc := .rws, dflt := 0, cls := .drain, ok := [(0, 2)] },
  -- VE_STATE
  { s0 := 0x02, s1 := 0x02, ty := .enum8, acc := .ro, dflt := 0, cls := .none },
  -- HOST_ENABLE
  { s0 := 0x03, s1 := 0x03, ty := .bool, acc := .ro, dflt := 0, cls := .none },
  -- RING_QUOTA
  { s0 := 0x04, s1 := 0x04, ty := .u16, acc := .rws, dflt := 0, cls := .idle, ok := [(0, 256)] },
  -- SLOT_QUOTA
  { s0 := 0x05, s1 := 0x05, ty := .u32, acc := .rws, dflt := 0, cls := .live, ok := [(0, 16777215)] },
  -- LARGE_QUOTA
  { s0 := 0x06, s1 := 0x06, ty := .u32, acc := .rws, dflt := 0, cls := .live, ok := [(0, 65536)] },
  -- SHADOW_QUOTA
  { s0 := 0x07, s1 := 0x07, ty := .u32, acc := .rws, dflt := 0, cls := .live, ok := [(0, 65536)] },
  -- CHANNEL_QUOTA
  { s0 := 0x08, s1 := 0x08, ty := .u8, acc := .rws, dflt := 0, cls := .idle, ok := [(0, 64)] },
  -- VECTOR_COUNT
  { s0 := 0x09, s1 := 0x09, ty := .u8, acc := .rws, dflt := 1, cls := .idle, ok := [(1, 16)] },
  -- SLOTS_USED
  { s0 := 0x0A, s1 := 0x0A, ty := .u32, acc := .ro, dflt := 0, cls := .none },
  -- LARGE_USED
  { s0 := 0x0B, s1 := 0x0B, ty := .u32, acc := .ro, dflt := 0, cls := .none },
  -- SHADOWS_USED
  { s0 := 0x0C, s1 := 0x0C, ty := .u32, acc := .ro, dflt := 0, cls := .none },
  -- VE_ACTION
  { s0 := 0x0D, s1 := 0x0D, ty := .enum8, acc := .wo, dflt := 0, cls := .none, ok := [(1, 9)] },
  -- MIG_STATE
  { s0 := 0x0E, s1 := 0x0E, ty := .enum8, acc := .ro, dflt := 0, cls := .none },
  -- ACTION_STATUS
  { s0 := 0x0F, s1 := 0x0F, ty := .enum8, acc := .ro, dflt := 0, cls := .none },
  -- MIG_PASID
  { s0 := 0x10, s1 := 0x10, ty := .u32, acc := .rw, dflt := 0, cls := .live, rsvd := 0x7FF00000 },
  -- MIG_IN_ADDR
  { s0 := 0x11, s1 := 0x11, ty := .u64, acc := .rw, dflt := 0, cls := .live },
  -- MIG_IN_LEN
  { s0 := 0x12, s1 := 0x12, ty := .u64, acc := .rw, dflt := 0, cls := .live },
  -- MIG_OUT_ADDR
  { s0 := 0x13, s1 := 0x13, ty := .u64, acc := .rw, dflt := 0, cls := .live },
  -- MIG_OUT_CAP
  { s0 := 0x14, s1 := 0x14, ty := .u64, acc := .rw, dflt := 0, cls := .live },
  -- MIG_OUT_LEN
  { s0 := 0x15, s1 := 0x15, ty := .u64, acc := .ro, dflt := 0, cls := .none },
  -- CTX_KEY_SERIAL
  { s0 := 0x16, s1 := 0x16, ty := .u32, acc := .ro, dflt := 0, cls := .none },
  -- HELD_VECTORS
  { s0 := 0x17, s1 := 0x17, ty := .bits32, acc := .ro, dflt := 0, cls := .none },
  -- SKEW
  { s0 := 0x18, s1 := 0x18, ty := .bool, acc := .ro, dflt := 0, cls := .none },
  -- EVENT_VECTOR
  { s0 := 0x19, s1 := 0x19, ty := .u8, acc := .rw, dflt := 0, cls := .live, ok := [(0, 15)] } ]

/-- Entries from AL 5000 on (R32). -/
def dict5000 : List Entry := [
  -- OWNER
  { s0 := 0x01, s1 := 0x01, ty := .u16, acc := .ro, dflt := 65535, cls := .none },
  -- LOCAL_INDEX
  { s0 := 0x02, s1 := 0x02, ty := .u8, acc := .ro, dflt := 255, cls := .none },
  -- RQ_BASE
  { s0 := 0x03, s1 := 0x03, ty := .u64, acc := .rws, dflt := 0, cls := .idle },
  -- RING_LOG2
  { s0 := 0x04, s1 := 0x04, ty := .u8, acc := .rws, dflt := 8, cls := .idle, ok := [(4, 16)] },
  -- CQ_BASE
  { s0 := 0x05, s1 := 0x05, ty := .u64, acc := .rws, dflt := 0, cls := .idle },
  -- PASID
  { s0 := 0x06, s1 := 0x06, ty := .u32, acc := .rws, dflt := 0, cls := .idle, rsvd := 0x7FF00000 },
  -- VERSION_OFFER
  { s0 := 0x07, s1 := 0x07, ty := .bits32, acc := .rws, dflt := 0, cls := .idle, rsvd := 0xFFFFFFF8 },
  -- VERSION
  { s0 := 0x08, s1 := 0x08, ty := .enum8, acc := .ro, dflt := 0, cls := .none },
  -- RING_CMD
  { s0 := 0x09, s1 := 0x09, ty := .enum8, acc := .rws, dflt := 0, cls := .drain, ok := [(0, 1)] },
  -- RING_STATE
  { s0 := 0x0A, s1 := 0x0A, ty := .enum8, acc := .ro, dflt := 0, cls := .none },
  -- READY_MASK
  { s0 := 0x0B, s1 := 0x0B, ty := .bits32, acc := .ro, dflt := 0, cls := .none },
  -- FETCH_COUNT
  { s0 := 0x0C, s1 := 0x0C, ty := .u32, acc := .ro, dflt := 0, cls := .none },
  -- COMPL_COUNT
  { s0 := 0x0D, s1 := 0x0D, ty := .u32, acc := .ro, dflt := 0, cls := .none },
  -- RING_ERRORS
  { s0 := 0x0E, s1 := 0x0E, ty := .bits32, acc := .w1c, dflt := 0, cls := .live, rsvd := 0xFFFFFFF8 },
  -- ECHO
  { s0 := 0x0F, s1 := 0x0F, ty := .bool, acc := .rws, dflt := 0, cls := .drain },
  -- COAL_COUNT
  { s0 := 0x10, s1 := 0x10, ty := .u8, acc := .rws, dflt := 1, cls := .live },
  -- COAL_TIME
  { s0 := 0x11, s1 := 0x11, ty := .timeNs, acc := .rws, dflt := 0, cls := .live, ok := [(0, 0), (1000, 1000000)] },
  -- VECTOR
  { s0 := 0x12, s1 := 0x12, ty := .u8, acc := .rws, dflt := 0, cls := .live, ok := [(0, 15)] },
  -- HOME_GROUP
  { s0 := 0x13, s1 := 0x13, ty := .u8, acc := .ro, dflt := 255, cls := .none } ]

/-- Entries from AL 6000 on (R84). -/
def dict6000 : List Entry := [
  -- CTX_FORMATS
  { s0 := 0x01, s1 := 0x01, ty := .bits32, acc := .ro, dflt := 1, cls := .none },
  -- XTS_LIMIT_LOG2
  { s0 := 0x02, s1 := 0x02, ty := .u8, acc := .ro, dflt := 44, cls := .none },
  -- IV_RESERVE_STEP
  { s0 := 0x03, s1 := 0x03, ty := .u16, acc := .ro, dflt := 4096, cls := .none } ]

/-- Entries from AL 6010 on (R107). -/
def dict6010 : List Entry := [
  -- RESEED_PERIOD_LOG2
  { s0 := 0x01, s1 := 0x01, ty := .u8, acc := .ro, dflt := 16, cls := .none },
  -- RESEED_GRACE_LOG2
  { s0 := 0x02, s1 := 0x02, ty := .u8, acc := .ro, dflt := 20, cls := .none },
  -- LANES_IN_GRACE
  { s0 := 0x03, s1 := 0x03, ty := .bits32, acc := .ro, dflt := 0, cls := .none },
  -- LANES_UNSEEDED
  { s0 := 0x04, s1 := 0x04, ty := .bits32, acc := .ro, dflt := 4294967295, cls := .none },
  -- ALARM_ACTIVE
  { s0 := 0x05, s1 := 0x05, ty := .bits32, acc := .ro, dflt := 0, cls := .none },
  -- ERASE_COUNT
  { s0 := 0x06, s1 := 0x06, ty := .u32, acc := .ro, dflt := 0, cls := .none },
  -- EXT_ALARM_ENABLE
  { s0 := 0x07, s1 := 0x07, ty := .bits32, acc := .rws, dflt := 15, cls := .live, rsvd := 0xFFFFFFF0 },
  -- ECHO_MISMATCHES
  { s0 := 0x08, s1 := 0x08, ty := .u32, acc := .ro, dflt := 0, cls := .none } ]

/-- Entries from AL 6020 on (R140). -/
def dict6020 : List Entry := [
  -- PKA_MSG_LIMIT
  { s0 := 0x01, s1 := 0x01, ty := .u32, acc := .ro, dflt := 1048576, cls := .none },
  -- RSA_KEYGEN_E
  { s0 := 0x02, s1 := 0x02, ty := .u32, acc := .ro, dflt := 65537, cls := .none },
  -- PKA_BUSY
  { s0 := 0x03, s1 := 0x03, ty := .bits32, acc := .ro, dflt := 0, cls := .none },
  -- PCT_FAILURES
  { s0 := 0x04, s1 := 0x04, ty := .u32, acc := .ro, dflt := 0, cls := .none },
  -- RESULT_CHECK_FAILURES
  { s0 := 0x05, s1 := 0x05, ty := .u32, acc := .ro, dflt := 0, cls := .none },
  -- PKA_ABANDONED
  { s0 := 0x06, s1 := 0x06, ty := .u32, acc := .ro, dflt := 0, cls := .none } ]

/-- Entries from AL 7000 on (R184). -/
def dict7000 : List Entry := [
  -- VAULT_BASE
  { s0 := 0x01, s1 := 0x01, ty := .u64, acc := .rws, dflt := 0, cls := .idle, rsvd := 0x1FFFFF },
  -- VAULT_PASID
  { s0 := 0x02, s1 := 0x02, ty := .u32, acc := .rws, dflt := 0, cls := .idle, rsvd := 0x7FF00000 },
  -- VAULT_SIZE
  { s0 := 0x03, s1 := 0x03, ty := .u64, acc := .ro, dflt := 2415919104, cls := .none },
  -- VAULT_FORMAT
  { s0 := 0x04, s1 := 0x04, ty := .u16, acc := .ro, dflt := 1, cls := .none },
  -- VAULT_STATE
  { s0 := 0x05, s1 := 0x05, ty := .enum8, acc := .ro, dflt := 0, cls := .none },
  -- VAULT_INCARNATION
  { s0 := 0x06, s1 := 0x06, ty := .u64, acc := .ro, dflt := 0, cls := .none },
  -- SLOTS_IN_USE
  { s0 := 0x07, s1 := 0x07, ty := .u32, acc := .ro, dflt := 0, cls := .none },
  -- LARGE_IN_USE
  { s0 := 0x08, s1 := 0x08, ty := .u32, acc := .ro, dflt := 0, cls := .none },
  -- SHADOWS_IN_USE
  { s0 := 0x09, s1 := 0x09, ty := .u32, acc := .ro, dflt := 0, cls := .none },
  -- CACHE_HITS
  { s0 := 0x0A, s1 := 0x0A, ty := .u64, acc := .ro, dflt := 0, cls := .none },
  -- CACHE_MISSES
  { s0 := 0x0B, s1 := 0x0B, ty := .u64, acc := .ro, dflt := 0, cls := .none },
  -- INTEGRITY_FAILURES
  { s0 := 0x0C, s1 := 0x0C, ty := .u32, acc := .ro, dflt := 0, cls := .none },
  -- DAMAGED_LINES
  { s0 := 0x0D, s1 := 0x0D, ty := .u32, acc := .ro, dflt := 0, cls := .none },
  -- VAULT_TIMEOUT
  { s0 := 0x0E, s1 := 0x0E, ty := .timeNs, acc := .rw, dflt := 100000, cls := .live, ok := [(10000, 1000000)] },
  -- ERASE_DRAIN
  { s0 := 0x0F, s1 := 0x0F, ty := .timeNs, acc := .ro, dflt := 50000, cls := .none },
  -- VAULT_CLEAR
  { s0 := 0x10, s1 := 0x10, ty := .bool, acc := .wo, dflt := 0, cls := .none },
  -- SLOTS_EPOCH_SPENT
  { s0 := 0x11, s1 := 0x11, ty := .u32, acc := .ro, dflt := 0, cls := .none },
  -- LOST_SLOTS
  { s0 := 0x12, s1 := 0x12, ty := .u32, acc := .ro, dflt := 0, cls := .none },
  -- LOST_LARGE
  { s0 := 0x13, s1 := 0x13, ty := .u32, acc := .ro, dflt := 0, cls := .none },
  -- LOST_SHADOWS
  { s0 := 0x14, s1 := 0x14, ty := .u32, acc := .ro, dflt := 0, cls := .none } ]

/-- Entries from AL 8000 on (R198). -/
def dict8000 : List Entry := [
  -- RNG_STATE
  { s0 := 0x01, s1 := 0x01, ty := .enum8, acc := .ro, dflt := 0, cls := .none },
  -- RNG_RESET
  { s0 := 0x02, s1 := 0x02, ty := .bool, acc := .wo, dflt := 0, cls := .live },
  -- SOURCES_ACTIVE
  { s0 := 0x03, s1 := 0x03, ty := .bits32, acc := .ro, dflt := 0, cls := .none },
  -- RCT_FAILED
  { s0 := 0x04, s1 := 0x04, ty := .bits32, acc := .ro, dflt := 0, cls := .none },
  -- APT_FAILED
  { s0 := 0x05, s1 := 0x05, ty := .bits32, acc := .ro, dflt := 0, cls := .none },
  -- STARTUP_FAILED
  { s0 := 0x06, s1 := 0x06, ty := .bits32, acc := .ro, dflt := 0, cls := .none },
  -- RCT_CUTOFF
  { s0 := 0x07, s1 := 0x07, ty := .u16, acc := .ro, dflt := 81, cls := .none },
  -- APT_CUTOFF
  { s0 := 0x08, s1 := 0x08, ty := .u16, acc := .ro, dflt := 827, cls := .none },
  -- APT_WINDOW
  { s0 := 0x09, s1 := 0x09, ty := .u16, acc := .ro, dflt := 1024, cls := .none },
  -- ADVENT_COUNT
  { s0 := 0x0A, s1 := 0x0A, ty := .u32, acc := .ro, dflt := 0, cls := .none },
  -- LAST_ADVENT
  { s0 := 0x0B, s1 := 0x0B, ty := .timeNs, acc := .ro, dflt := 0, cls := .none },
  -- HALT_COUNT
  { s0 := 0x0C, s1 := 0x0C, ty := .u32, acc := .ro, dflt := 0, cls := .none },
  -- RANDOM
  { s0 := 0x0D, s1 := 0x0D, ty := (.oct 34), acc := .ro, dflt := 0, cls := .none },
  -- DRBG_RESEEDS
  { s0 := 0x0E, s1 := 0x0E, ty := .u64, acc := .ro, dflt := 0, cls := .none },
  -- CONDITIONED_RATE
  { s0 := 0x0F, s1 := 0x0F, ty := .u32, acc := .ro, dflt := 0, cls := .none } ]

/-- Entries from AL 9000 on (R298, R354). -/
def dict9000 : List Entry := [
  -- LC_STATE
  { s0 := 0x01, s1 := 0x01, ty := .enum8, acc := .ro, dflt := 0, cls := .none },
  -- TRANSITION_COUNT
  { s0 := 0x02, s1 := 0x02, ty := .u32, acc := .ro, dflt := 0, cls := .none },
  -- LC_CHALLENGE
  { s0 := 0x03, s1 := 0x03, ty := (.oct 32), acc := .ro, dflt := 0, cls := .none },
  -- LC_PHASE
  { s0 := 0x04, s1 := 0x04, ty := .enum8, acc := .ro, dflt := 0, cls := .none },
  -- LC_REQUEST
  { s0 := 0x05, s1 := 0x05, ty := (.oct 12288), acc := .rws, dflt := 0, cls := .idle },
  -- LC_RESULT
  { s0 := 0x06, s1 := 0x06, ty := .enum8, acc := .ro, dflt := 0, cls := .none },
  -- NV_SEQ_LIFECYCLE
  { s0 := 0x07, s1 := 0x07, ty := .u32, acc := .ro, dflt := 0, cls := .none },
  -- NV_SEQ_AUTHORITY
  { s0 := 0x08, s1 := 0x08, ty := .u32, acc := .ro, dflt := 0, cls := .none },
  -- NV_SEQ_CERT_CHAIN
  { s0 := 0x09, s1 := 0x09, ty := .u32, acc := .ro, dflt := 0, cls := .none },
  -- NV_SEQ_JUBILEE
  { s0 := 0x0A, s1 := 0x0A, ty := .u32, acc := .ro, dflt := 0, cls := .none },
  -- NV_SEQ_BOOTCFG
  { s0 := 0x0B, s1 := 0x0B, ty := .u32, acc := .ro, dflt := 0, cls := .none },
  -- LC_REQUEST_DIGEST
  { s0 := 0x0C, s1 := 0x0C, ty := (.oct 48), acc := .ro, dflt := 0, cls := .none },
  -- LC_FLOOR
  { s0 := 0x0D, s1 := 0x0D, ty := .enum8, acc := .ro, dflt := 0, cls := .none } ]

/-- Entries from AL 9001 on (R298). -/
def dict9001 : List Entry := [
  -- DEBUG_TOKEN
  { s0 := 0x01, s1 := 0x01, ty := (.oct 12288), acc := .rws, dflt := 0, cls := .live },
  -- DEBUG_ENABLED
  { s0 := 0x02, s1 := 0x02, ty := .bits32, acc := .ro, dflt := 0, cls := .none },
  -- DEBUG_CHALLENGE
  { s0 := 0x03, s1 := 0x03, ty := (.oct 32), acc := .ro, dflt := 0, cls := .none } ]

/-- Entries from AL 9002 on (R298). -/
def dict9002 : List Entry := [
  -- ATTEST_NONCE
  { s0 := 0x01, s1 := 0x01, ty := (.oct 32), acc := .rws, dflt := 0, cls := .live },
  -- ATTEST_STATEMENT
  { s0 := 0x02, s1 := 0x02, ty := (.oct 16384), acc := .ro, dflt := 0, cls := .none },
  -- ATTEST_LEN
  { s0 := 0x03, s1 := 0x03, ty := .u16, acc := .ro, dflt := 0, cls := .none },
  -- ATTEST_SERIAL
  { s0 := 0x04, s1 := 0x04, ty := .u32, acc := .ro, dflt := 0, cls := .none } ]

/-- Entries from AL 9003 on (R298). -/
def dict9003 : List Entry := [
  -- CERT_CHAIN
  { s0 := 0x01, s1 := 0x01, ty := (.oct 16384), acc := .ro, dflt := 0, cls := .none },
  -- CERT_CHAIN_LEN
  { s0 := 0x02, s1 := 0x02, ty := .u16, acc := .ro, dflt := 0, cls := .none } ]

/-- Entries from AL A000 on (R201). -/
def dictA000 : List Entry := [
  -- OWNER
  { s0 := 0x01, s1 := 0x01, ty := .u16, acc := .ro, dflt := 65535, cls := .none },
  -- LOCAL_INDEX
  { s0 := 0x02, s1 := 0x02, ty := .u8, acc := .ro, dflt := 255, cls := .none },
  -- CCB_ADDR
  { s0 := 0x03, s1 := 0x03, ty := .u64, acc := .rws, dflt := 0, cls := .idle },
  -- PASID
  { s0 := 0x04, s1 := 0x04, ty := .u32, acc := .rws, dflt := 0, cls := .idle, rsvd := 0x7FF00000 },
  -- CHAN_CMD
  { s0 := 0x05, s1 := 0x05, ty := .enum8, acc := .rws, dflt := 0, cls := .drain, ok := [(0, 1)] },
  -- CHAN_STATE
  { s0 := 0x06, s1 := 0x06, ty := .enum8, acc := .ro, dflt := 0, cls := .none },
  -- HOP_LIMIT
  { s0 := 0x07, s1 := 0x07, ty := .u32, acc := .rws, dflt := 1048576, cls := .live, ok := [(16, 16777216)] },
  -- START_TIMER
  { s0 := 0x08, s1 := 0x08, ty := .u8, acc := .rws, dflt := 255, cls := .live, ok := [(0, 15), (255, 255)] },
  -- START_AFTER
  { s0 := 0x09, s1 := 0x09, ty := .u16, acc := .rws, dflt := 65535, cls := .live, ok := [(0, 255), (65535, 65535)] },
  -- VECTOR
  { s0 := 0x0A, s1 := 0x0A, ty := .u8, acc := .rws, dflt := 0, cls := .live, ok := [(0, 15)] },
  -- PENDING
  { s0 := 0x0B, s1 := 0x0B, ty := .u8, acc := .ro, dflt := 0, cls := .none },
  -- RUNS
  { s0 := 0x0C, s1 := 0x0C, ty := .u32, acc := .ro, dflt := 0, cls := .none },
  -- CHAN_ERRORS
  { s0 := 0x0D, s1 := 0x0D, ty := .bits32, acc := .w1c, dflt := 0, cls := .live, rsvd := 0xFFFFFFFC },
  -- HOME_MOVER
  { s0 := 0x0E, s1 := 0x0E, ty := .u8, acc := .ro, dflt := 0, cls := .none } ]

/-- Entries from AL A100 on (R219). -/
def dictA100 : List Entry := [
  -- TIMER_MODE
  { s0 := 0x01, s1 := 0x01, ty := .enum8, acc := .rws, dflt := 0, cls := .live, ok := [(0, 2)] },
  -- TIMER_PERIOD
  { s0 := 0x02, s1 := 0x02, ty := .timeNs, acc := .rws, dflt := 1000000, cls := .live, ok := [(1000, 1000000000000)], step := 1000 },
  -- TIMER_ARM
  { s0 := 0x03, s1 := 0x03, ty := .bool, acc := .wo, dflt := 0, cls := .live },
  -- TIMER_FIRED
  { s0 := 0x04, s1 := 0x04, ty := .u32, acc := .ro, dflt := 0, cls := .none },
  -- TIMER_MISSED
  { s0 := 0x05, s1 := 0x05, ty := .u32, acc := .ro, dflt := 0, cls := .none } ]

/-- Entries from AL A200 on (R223). -/
def dictA200 : List Entry := [
  -- PORT_TIMEOUT
  { s0 := 0x01, s1 := 0x01, ty := .timeNs, acc := .rw, dflt := 1000000, cls := .live, ok := [(10000, 100000000)] },
  -- CHANNELS_FREE
  { s0 := 0x02, s1 := 0x02, ty := .u16, acc := .ro, dflt := 256, cls := .none },
  -- TIMEOUTS
  { s0 := 0x03, s1 := 0x03, ty := .u32, acc := .ro, dflt := 0, cls := .none },
  -- LATE_ANSWERS
  { s0 := 0x04, s1 := 0x04, ty := .u32, acc := .ro, dflt := 0, cls := .none },
  -- TAGS_QUARANTINED
  { s0 := 0x05, s1 := 0x05, ty := .u16, acc := .ro, dflt := 0, cls := .none },
  -- LATE_ERRORS
  { s0 := 0x06, s1 := 0x06, ty := .u32, acc := .ro, dflt := 0, cls := .none } ]

/-- Entries from AL B000 on (R238). -/
def dictB000 : List Entry := [
  -- CIPHER_SHARE
  { s0 := 0x01, s1 := 0x01, ty := .u16, acc := .rws, dflt := 0, cls := .live, ok := [(0, 4096)] },
  -- CIPHER_CEIL
  { s0 := 0x02, s1 := 0x02, ty := .u16, acc := .rws, dflt := 4096, cls := .live, ok := [(0, 4096)] },
  -- HASH_SHARE
  { s0 := 0x03, s1 := 0x03, ty := .u16, acc := .rws, dflt := 0, cls := .live, ok := [(0, 4096)] },
  -- HASH_CEIL
  { s0 := 0x04, s1 := 0x04, ty := .u16, acc := .rws, dflt := 4096, cls := .live, ok := [(0, 4096)] },
  -- PKA_SHARE
  { s0 := 0x05, s1 := 0x05, ty := .u16, acc := .rws, dflt := 0, cls := .live, ok := [(0, 4096)] },
  -- PKA_CEIL
  { s0 := 0x06, s1 := 0x06, ty := .u16, acc := .rws, dflt := 4096, cls := .live, ok := [(0, 4096)] },
  -- PORT_SHARE
  { s0 := 0x07, s1 := 0x07, ty := .u16, acc := .rws, dflt := 0, cls := .live, ok := [(0, 4096)] },
  -- PORT_CEIL
  { s0 := 0x08, s1 := 0x08, ty := .u16, acc := .rws, dflt := 4096, cls := .live, ok := [(0, 4096)] },
  -- BAND
  { s0 := 0x09, s1 := 0x09, ty := .u8, acc := .rws, dflt := 3, cls := .live, ok := [(0, 3)] },
  -- CIPHER_USED
  { s0 := 0x0A, s1 := 0x0A, ty := .u64, acc := .ro, dflt := 0, cls := .none },
  -- HASH_USED
  { s0 := 0x0B, s1 := 0x0B, ty := .u64, acc := .ro, dflt := 0, cls := .none },
  -- PKA_USED
  { s0 := 0x0C, s1 := 0x0C, ty := .u64, acc := .ro, dflt := 0, cls := .none },
  -- PORT_USED
  { s0 := 0x0D, s1 := 0x0D, ty := .u64, acc := .ro, dflt := 0, cls := .none } ]

/-- Entries from AL BF00 on (R238). -/
def dictBF00 : List Entry := [
  -- EPOCH_NS
  { s0 := 0x01, s1 := 0x01, ty := .timeNs, acc := .ro, dflt := 10000, cls := .none },
  -- SHARE_SUMS
  { s0 := 0x02, s1 := 0x02, ty := (.oct 8), acc := .ro, dflt := 0, cls := .none } ]

/-- Entries from AL C000 on (R299). -/
def dictC000 : List Entry := [
  -- REQ_OK
  { s0 := 0x01, s1 := 0x01, ty := .u64, acc := .ro, dflt := 0, cls := .none },
  -- REQ_FAILED
  { s0 := 0x02, s1 := 0x02, ty := .u64, acc := .ro, dflt := 0, cls := .none },
  -- CIPHER_UNITS
  { s0 := 0x03, s1 := 0x03, ty := .u64, acc := .ro, dflt := 0, cls := .none },
  -- HASH_UNITS
  { s0 := 0x04, s1 := 0x04, ty := .u64, acc := .ro, dflt := 0, cls := .none },
  -- PKA_OPS
  { s0 := 0x05, s1 := 0x05, ty := .u64, acc := .ro, dflt := 0, cls := .none },
  -- RUNS
  { s0 := 0x06, s1 := 0x06, ty := .u64, acc := .ro, dflt := 0, cls := .none },
  -- UPTIME
  { s0 := 0x07, s1 := 0x07, ty := .timeNs, acc := .ro, dflt := 0, cls := .none },
  -- SINCE_RESET
  { s0 := 0x08, s1 := 0x08, ty := .timeNs, acc := .ro, dflt := 0, cls := .none } ]

/-- Entries from AL C100 on (R299). -/
def dictC100 : List Entry := [
  -- FN_REQ_OK
  { s0 := 0x01, s1 := 0x01, ty := .u64, acc := .ro, dflt := 0, cls := .none },
  -- FN_REQ_FAILED
  { s0 := 0x02, s1 := 0x02, ty := .u64, acc := .ro, dflt := 0, cls := .none },
  -- FN_CIPHER_UNITS
  { s0 := 0x03, s1 := 0x03, ty := .u64, acc := .ro, dflt := 0, cls := .none },
  -- FN_HASH_UNITS
  { s0 := 0x04, s1 := 0x04, ty := .u64, acc := .ro, dflt := 0, cls := .none },
  -- FN_QUOTA_FAILS
  { s0 := 0x05, s1 := 0x05, ty := .u32, acc := .ro, dflt := 0, cls := .none },
  -- FN_INTERVAL_REQ
  { s0 := 0x06, s1 := 0x06, ty := .u64, acc := .rc, dflt := 0, cls := .none },
  -- FN_INTERVAL_UNITS
  { s0 := 0x07, s1 := 0x07, ty := .u64, acc := .rc, dflt := 0, cls := .none } ]

/-- The directory of R290 by index: every entry of the Almanac that lies on index `i`. -/
def entriesAt (i : Nat) : List Entry :=
  if i = 0x1000 then dict1000 else
  if i = 0x1001 then dict1001 else
  if i = 0x2000 then dict2000 else
  if i = 0x2001 then dict2001 else
  if i = 0x2010 then dict2010 else
  if i = 0x2020 then dict2020 else
  if i = 0x2030 then dict2030 else
  if i = 0x2031 then dict2031 else
  if i = 0x2040 then dict2040 else
  if i = 0x2041 then dict2041 else
  if i = 0x3000 then dict3000 else
  if 0x3100 ≤ i ∧ i ≤ 0x3102 then dict3100 else
  if i = 0x3200 then dict3200 else
  if i = 0x3300 then dict3300 else
  if i = 0x3301 then dict3301 else
  if i = 0x3302 then dict3302 else
  if 0x4000 ≤ i ∧ i ≤ 0x4400 then dict4000 else
  if 0x5000 ≤ i ∧ i ≤ 0x5FFF then dict5000 else
  if i = 0x6000 then dict6000 else
  if i = 0x6010 then dict6010 else
  if i = 0x6020 then dict6020 else
  if i = 0x7000 then dict7000 else
  if i = 0x8000 then dict8000 else
  if i = 0x9000 then dict9000 else
  if i = 0x9001 then dict9001 else
  if i = 0x9002 then dict9002 else
  if i = 0x9003 then dict9003 else
  if 0xA000 ≤ i ∧ i ≤ 0xA0FF then dictA000 else
  if 0xA100 ≤ i ∧ i ≤ 0xA10F then dictA100 else
  if i = 0xA200 then dictA200 else
  if 0xB000 ≤ i ∧ i ≤ 0xB400 then dictB000 else
  if i = 0xBF00 then dictBF00 else
  if i = 0xC000 then dictC000 else
  if 0xC100 ≤ i ∧ i ≤ 0xC500 then dictC100 else
  []

/-- The entry at an address, if the address names one (R270). EVENT_VECTOR is an entry of AL 4000 alone, where VE_CMD can only
be 01h (R237). -/
def entryAt (i sub : Nat) : Option Entry :=
  if i ≠ 0x4000 ∧ 0x4000 ≤ i ∧ i ≤ 0x4400 ∧ sub = 0x19 then none
  else ((entriesAt i).find? fun e => decide (e.s0 ≤ sub ∧ sub ≤ e.s1)).map fun e =>
    if i = 0x4000 ∧ sub = 1 then { e with ok := [(1, 1)] } else e

/-- Default severity of a source (R316): 0 LOG, 1 NOTIFY, 2 FENCE, 3 SAFE. -/
def sevDflt (src : Nat) : Nat :=
  if src < 128 then (if src % 2 = 0 then 0 else 2)
  else if src < 256 then (if src % 4 = 0 then 0 else if src % 4 = 1 then 2 else 1)
  else if src < 352 then (if src % 2 = 0 then 0 else 2)
  else if src < 416 then (if src % 4 = 0 then 0 else if src % 4 = 2 then 1 else 2)
  else if src < 432 then 2
  else if src < 448 then (if src % 2 = 0 then 0 else 2)
  else if src < 480 then (if src % 4 = 0 then 0 else 2)
  else if src < 488 then (if src % 2 = 0 then 0 else 2)
  else if src = 490 then 3 else if src = 492 then 2
  else if src = 495 ∨ src = 499 ∨ src = 500 ∨ src = 509 ∨ src = 519 then 0
  else if src = 508 ∨ (510 ≤ src ∧ src ≤ 517) ∨ src = 520 then 3
  else if src < 521 then 1 else 0

/-- Sources whose severity is locked at SAFE (R316). -/
def sevLocked (src : Nat) : Bool := decide (src = 508 ∨ (512 ≤ src ∧ src ≤ 517) ∨ src = 520)

/-- Sources on which FENCE is allowed (R316): every unit source, and ALARM_PARITY. -/
def sevFence (src : Nat) : Bool := decide (src < 488 ∨ src = 492)

/-- Default of an entry, with the ones that a table gives per record. -/
def entryDflt (i sub : Nat) : Nat :=
  if 0x3100 ≤ i ∧ i ≤ 0x3102 then sevDflt (256 * (i - 0x3100) + sub)
  else if i = 0x4000 ∧ sub = 1 then 1
  else if i = 0xB000 ∧ sub = 9 then 0
  else match entryAt i sub with
    | some e => e.dflt
    | none => 0

/-- Committed value of an RW or RWS entry of scalar type. -/
def cfgGet (s : State) (i sub : Nat) : Nat := tget (entryDflt i sub) s.cfg (256 * i + sub)

/-- Commit a value. -/
def cfgSet (s : State) (i sub v : Nat) : State := { s with cfg := tput (entryDflt i sub) s.cfg (256 * i + sub) v }

/-- A value legal for an entry under R271, R10 and the range that its table states. -/
def legalValue (e : Entry) (v : Nat) : Bool :=
  (match e.ty with
    | .bool => decide (v ≤ 1)
    | .oct _ => true
    | t => decide (v < 256 ^ t.len)) &&
  (e.ok.isEmpty || e.ok.any fun r => decide (r.1 ≤ v ∧ v ≤ r.2)) &&
  decide (v % e.step = 0) && decide (v &&& e.rsvd = 0)

/-! ### Entries by name -/

def ringCfg (s : State) (n sub : Nat) : Nat := cfgGet s (0x5000 + n) sub
def chanCfg (s : State) (c sub : Nat) : Nat := cfgGet s (0xA000 + c) sub
def fnCfg (s : State) (f sub : Nat) : Nat := cfgGet s (0x4000 + f) sub
def qosCfg (s : State) (f sub : Nat) : Nat := cfgGet s (0xB000 + f) sub
def timerCfg (s : State) (t sub : Nat) : Nat := cfgGet s (0xA100 + t) sub
def severity (s : State) (src : Nat) : Nat := cfgGet s (0x3100 + src / 256) (src % 256)
def unitCmd (s : State) (u : Nat) : Nat := cfgGet s 0x3302 u
def eventVector (s : State) : Nat := cfgGet s 0x4000 0x19
def vaultBase (s : State) : Nat := cfgGet s 0x7000 1
def vaultPasid (s : State) : Nat := cfgGet s 0x7000 2

/-- RWS sub-indices of an index, ascending. -/
def rwsSubs (i : Nat) : List Nat :=
  (List.range 256).filter fun sub => match entryAt i sub with | some e => decide (e.acc = .rws) | none => false

end Sys2Proof.Machine
end

