-- ==== Sys2Proof/Machine/Units.lean ====
section
/-!
DEFINITION. Units, groups and regions (R6, R13, R296): numbering, which are active (R25, R323, R415), home banks (R18),
readiness (R292, R307) and the interrupt port (R250, R383).
-/
namespace Sys2Proof.Machine

open Sys2Proof

/-- Kinds of unit, in the order of R296. -/
inductive Kind where
  | seq | lane | hash | pka | kc | port | ns | mov | grp | reg
  deriving DecidableEq, Repr

/-- First sub-index of a kind (R296). -/
def Kind.base : Kind → Nat
  | .seq => 0 | .lane => 0x40 | .hash => 0x60 | .pka => 0x70 | .kc => 0x80 | .port => 0x90 | .ns => 0xA0 | .mov => 0xA8
  | .grp => 0xB0 | .reg => 0xB8

/-- How many units of a kind the block has (R13). -/
def Kind.count : Kind → Nat
  | .seq => 64 | .lane => 32 | .hash => 16 | .pka => 16 | .kc => 16 | .port => 16 | .ns => 8 | .mov => 8 | .grp => 8
  | .reg => 4

/-- Units of a kind in one group (R13). -/
def Kind.perGroup : Kind → Nat
  | .seq => 8 | .lane => 4 | .hash => 2 | .pka => 2 | .kc => 2 | .mov => 1 | _ => 0

def kindOf (u : Nat) : Kind :=
  if u < 0x40 then .seq else if u < 0x60 then .lane else if u < 0x70 then .hash else if u < 0x80 then .pka
  else if u < 0x90 then .kc else if u < 0xA0 then .port else if u < 0xA8 then .ns else if u < 0xB0 then .mov
  else if u < 0xB8 then .grp else .reg

/-- Number of units with entries in AL 3300 to AL 3302. -/
def unitCount : Nat := 0xBC

/-- Unit number within its kind. -/
def unitNo (u : Nat) : Nat := u - (kindOf u).base

def unitAt (k : Kind) (n : Nat) : Nat := k.base + n

/-- Group that contains a cell (R6, R13). -/
def groupOf (u : Nat) : Option Nat :=
  match kindOf u with
  | .grp => some (unitNo u)
  | .port | .ns | .reg => none
  | k => some (unitNo u / k.perGroup)

/-- Region that contains a unit (R6, R13). -/
def regionOf (u : Nat) : Option Nat :=
  match kindOf u with
  | .reg => some (unitNo u)
  | .port => some (unitNo u / 4)
  | .ns => none
  | _ => (groupOf u).map (· / 2)

/-- Units of a kind in a group, ascending. -/
def cellsOf (k : Kind) (g : Nat) : List Nat := (List.range k.perGroup).map fun i => k.base + g * k.perGroup + i

/-- Every unit, in the order of R296. -/
def allUnits : List Nat := List.range unitCount

/-- Own state of a unit is ACTIVE. -/
def ownActive (s : State) (u : Nat) : Bool := decide ((getUnit s u).state = .active)

/-- Derived fence of a group: none of its sequencers is active (R415). -/
def groupDerived (s : State) (g : Nat) : Bool := !((cellsOf .seq g).any (ownActive s))

/-- Active but for its region. -/
def groupUp (s : State) (g : Nat) : Bool := ownActive s (unitAt .grp g) && !groupDerived s g

/-- Derived fence of a region: no group, no port or no mover of it is active (R415). -/
def regionDerived (s : State) (m : Nat) : Bool :=
  !(groupUp s (2 * m) || groupUp s (2 * m + 1)) ||
  !((List.range 4).any fun i => ownActive s (unitAt .port (4 * m + i))) ||
  !((List.range 2).any fun i => ownActive s (unitAt .mov (2 * m + i)))

def regionUp (s : State) (m : Nat) : Bool := ownActive s (unitAt .reg m) && !regionDerived s m

/-- A unit takes work (R25, R323, R415): it is ACTIVE and no container of it is fenced. -/
def active (s : State) (u : Nat) : Bool :=
  ownActive s u &&
  (match groupOf u with | some g => groupUp s g | none => true) &&
  (match regionOf u with | some m => regionUp s m | none => true)

/-- UNIT_STATE of a unit (R297): a container with a derived fence reads FENCED (R415). -/
def unitState (s : State) (u : Nat) : UnitState :=
  let st := (getUnit s u).state
  if st = .active ∧ ((kindOf u = .grp ∧ groupDerived s (unitNo u)) ∨ (kindOf u = .reg ∧ regionDerived s (unitNo u)))
  then .fenced else st

def UnitState.code : UnitState → Nat
  | .active => 0 | .fenced => 1 | .vigil => 2 | .selfTest => 3 | .retired => 4 | .outOfService => 5

/-- Active units of a kind in the block (R25). -/
def activeCount (s : State) (k : Kind) : Nat := ((List.range k.count).filter fun n => active s (k.base + n)).length

/-- Active units of a kind in one group. -/
def activeCells (s : State) (k : Kind) (g : Nat) : List Nat := (cellsOf k g).filter (active s)

/-- Active ports of a region in ascending order (R19). -/
def activePorts (s : State) (m : Nat) : List Nat :=
  ((List.range 4).map (4 * m + ·)).filter fun p => active s (unitAt .port p)

/-- Bits `n` of a mask over units that meet a test. -/
def maskOf (n : Nat) (p : Nat → Bool) : Nat := (List.range n).foldl (fun a i => if p i then a + 2 ^ i else a) 0

/-- Bank that serves a slot: its home bank, or the other bank of the group while that is not active, or none (R18). -/
def bankOf (s : State) (slot : Nat) : Option Nat :=
  let b := slot % 16
  let o := if b % 2 = 0 then b + 1 else b - 1
  if active s (unitAt .kc b) then some b else if active s (unitAt .kc o) then some o else none

/-! ### Sources (R315, R316) -/

/-- Unit of a source. -/
def sourceUnit (src : Nat) : Option Nat :=
  if src < 128 then some (src / 2)
  else if src < 256 then some (0x40 + (src - 128) / 4)
  else if src < 288 then some (0x60 + (src - 256) / 2)
  else if src < 320 then some (0x70 + (src - 288) / 2)
  else if src < 352 then some (0x80 + (src - 320) / 2)
  else if src < 416 then some (0x90 + (src - 352) / 4)
  else if src < 432 then some (0xA0 + (src - 416) / 2)
  else if src < 448 then some (0xA8 + (src - 432) / 2)
  else if src < 480 then some (0xB0 + (src - 448) / 4)
  else if src < 488 then some (0xB8 + (src - 480) / 2)
  else none

/-- Source `k` of a unit. -/
def unitSource (u k : Nat) : Nat :=
  let n := unitNo u
  match kindOf u with
  | .seq => 2 * n + k
  | .lane => 128 + 4 * n + k
  | .hash => 256 + 2 * n + k
  | .pka => 288 + 2 * n + k
  | .kc => 320 + 2 * n + k
  | .port => 352 + 4 * n + k
  | .ns => 416 + 2 * n + k
  | .mov => 432 + 2 * n + k
  | .grp => 448 + 4 * n + k
  | .reg => 480 + 2 * n + k

/-- Source of a unit that a fault of it sets: the uncorrectable one, and for a noise source its health test. -/
def mainSource (u : Nat) : Nat := unitSource u (if kindOf u = .ns then 0 else 1)

/-- Fixed classes of R316: 0 CORRECTED, 1 CONTAINED, 2 FATAL. -/
def fixedClass (src : Nat) : Nat :=
  if src < 488 then
    (if 416 ≤ src ∧ src < 432 then 1 else if src = unitSource ((sourceUnit src).getD 0) 0 then 0 else 1)
  else if src = 490 ∨ src = 508 ∨ (510 ≤ src ∧ src ≤ 517) ∨ src = 520 then 2
  else if src = 495 ∨ src = 498 ∨ src = 499 ∨ src = 509 ∨ src = 519 then 0
  else 1

/-! ### The regime (R319) -/

/-- ACTION_STATUS is BUSY for an action that fixes the regime. -/
def ActKind.fixes : ActKind → Bool
  | .save | .restore | .release | .commit | .abandon => true
  | _ => false

/-- AL 3000.1A reads FIXED. -/
def fixedRegime (s : State) : Bool :=
  s.bring.fixed || s.fns.any fun e => decide (e.2.state = .freezing) || (match e.2.act with | some a => a.kind.fixes | none => false)

/-- Reactions of R320. -/
inductive React where
  | log | notify | fence | safe
  deriving DecidableEq, Repr

def inTest (s : State) (u : Nat) : Bool := decide ((getUnit s u).state = .vigil ∨ (getUnit s u).state = .selfTest)

/-- The reaction of a source (R319, R320). -/
def reactionOf (s : State) (src : Nat) : React :=
  if fixedRegime s || (match sourceUnit src with | some u => inTest s u | none => false) then
    (match fixedClass src with
      | 0 => .log
      | 1 => if (sourceUnit src).isSome then .fence else .notify
      | _ => .safe)
  else match severity s src with
    | 0 => .log
    | 1 => .notify
    | 2 => .fence
    | _ => .safe

/-- The safe state follows from a source (R320): it takes precedence over every other end of work in the command (R410). -/
def leadsSafe (s : State) (src : Nat) : Bool := s.safe || decide (reactionOf s src = .safe)

/-- A source set in this command leads to the safe state. -/
def safeComes (s : State) : Bool := s.raised.any (leadsSafe s)

/-- Work ends with what sets fault sources, unless the safe state follows from one of them: that ends it with all others, and no entry is
written (R410). -/
def failWith (s : State) (srcs : List Nat) (f : State → State) : State :=
  let t := srcs.foldl raiseSrc s
  if safeComes t then t else f t

/-! ### Readiness (R292, R307) -/

/-- Generator numbers: lanes 0 to 31, the vault walker, the CTR_DRBG pipeline (R103, R118). -/
def walkerGen : Nat := 32
def drbgGen : Nat := 33

/-- A transition stays pending after a failed write of a mark (R345): the write waits for its retry, or is tried again. -/
def lcPending (s : State) : Bool := s.nv.retry.isSome || s.nv.jobs.any NvJob.again

/-- No function reports ready while a resume is pending (R305) or a transition has met a failed write (R345), after LIFECYCLE failed its
check (R306) or in SCRAPPED. -/
def mayServe (s : State) : Bool :=
  !s.bring.resume && !lcPending s && !s.bring.lcFailed && s.bring.lcRead && decide (s.life.state ≠ 4)

/-- A unit that passed its tests and takes work (R292). A lane also needs its generator (R103, R105), and the units of R109 stay
not ready from step 2 to step 8. -/
def unitReady (s : State) (u : Nat) : Bool :=
  (getUnit s u).tested && active s u &&
  (match kindOf u with
    | .lane => (getGen s (unitNo u)).seeded && !(getGen s (unitNo u)).stopped && !(getGen s (unitNo u)).watch && !s.alarms.blocked
    | .pka => !s.alarms.blocked
    | _ => true)

def anyReady (s : State) (k : Kind) (g : Option Nat) : Bool :=
  match g with
  | some g => (cellsOf k g).any (unitReady s)
  | none => (List.range k.count).any fun n => unitReady s (k.base + n)

/-- READY bit 4 (R307): step 12, a base address, the walker's generator. -/
def vaultReady (s : State) : Bool :=
  mayServe s && s.vault.ready && !s.vault.testShut && decide (vaultBase s ≠ 0) &&
  (getGen s walkerGen).seeded && !(getGen s walkerGen).stopped && !(getGen s walkerGen).watch

/-- The CTR_DRBG pipeline takes blocks: its mask generator has neither stopped nor failed its watch (R103, R105, R189). Before the first
seed of that generator has arrived it serves, too (DESIGN CHOICE, log 179). -/
def drbgUp (s : State) : Bool := !(getGen s drbgGen).stopped && !(getGen s drbgGen).watch

def rngReady (s : State) : Bool := mayServe s && decide (s.rng.state = .running)

def peerReady (s : State) : Bool := mayServe s && s.peer.present && decide (s.peer.caps ≠ 0)

def lookupReady (s : State) : Bool := mayServe s && s.lookup.present

/-- Bits 7 to 0 of READY, for a group or for the block (R292, R32). A ring also needs a ready port of its region (R307). -/
def readyBit (s : State) (g : Option Nat) : Nat → Bool
  | 0 => mayServe s && s.bring.almanacUp && anyReady s .seq g &&
         (match g with
          | some g => (activePorts s (g / 2)).any fun p => unitReady s (unitAt .port p)
          | none => true)
  | 1 => mayServe s && anyReady s .lane g
  | 2 => mayServe s && s.bring.bootRead && anyReady s .hash g
  | 3 => mayServe s && anyReady s .pka g
  | 4 => vaultReady s
  | 5 => rngReady s
  | 6 => peerReady s
  | 7 => lookupReady s
  | _ => false

def readyMask (s : State) (g : Option Nat) : Nat := maskOf 8 (readyBit s g)

/-- AL 2000.01. Bit 9 is set after step 5 while no life-cycle transition is pending. -/
def readyWord (s : State) : Nat :=
  readyMask s none + (if s.bring.nvDone then 256 else 0) +
  (if s.bring.lcRead && s.bring.bootRead && !s.bring.resume && !s.life.busy then 512 else 0)

/-- Core domains run: neither reset is asserted and bring-up has begun. -/
def coreUp (s : State) : Bool := !s.pins.poRstLow && !s.pins.blkRstLow && s.bring.begun

/-! ### Interrupts (R250, R382, R383) -/

/-- A message becomes pending, or merges with the pending pair. -/
def raiseMsg (s : State) (fn vec : Nat) (own : Bool) : State :=
  if s.irq.any fun m => decide (m.fn = fn ∧ m.vec = vec ∧ m.stale = false) then
    { s with irq := s.irq.map fun m =>
        if m.fn = fn ∧ m.vec = vec ∧ m.stale = false then { m with own := m.own || own } else m }
  else { s with irq := s.irq ++ [{ fn := fn, vec := vec, own := own }] }

/-- The block's own message on EVENT_VECTOR of function 0, never held (R250). -/
def raiseOwn (s : State) : State := raiseMsg s 0 (eventVector s) true

/-- An interrupt of a ring or channel: issued, held or suppressed by its function's state (R250, R253). -/
def raiseFn (s : State) (f vec : Nat) : State :=
  match (getFn s f).state with
  | .running => raiseMsg s f vec false
  | .quiesced | .freezing | .frozen | .restored => modFn s f fun r => { r with held := r.held ||| BitVec.ofNat 16 (2 ^ vec) }
  | .absent | .resetting | .destroying => s

/-- The message on offer stays valid; the others that meet the test leave the queue (R383). -/
def withdraw (s : State) (p : IrqMsg → Bool) : State :=
  match s.irq with
  | [] => s
  | m :: t => { s with irq := (if p m then { m with stale := true } else m) :: t.filter fun m => !p m }

/-- A VE reset withdraws the function's queued messages and clears its held bits (R250). -/
def withdrawFn (s : State) (f : Nat) : State :=
  modFn (withdraw s fun m => decide (m.fn = f) && !m.own) f fun r => { r with held := 0 }

/-- Every held bit and queued message of every function is withdrawn (R250, R302). -/
def withdrawAll (s : State) : State :=
  let s := withdraw s fun _ => true
  (s.fns.map Prod.fst).foldl (fun s f => modFn s f fun r => { r with held := 0 }) s

/-- One message per held vector when a function becomes RUNNING (R250). -/
def releaseHeld (s : State) (f : Nat) : State :=
  let h := (getFn s f).held
  let s := modFn s f fun r => { r with held := 0 }
  (List.range 16).foldl (fun s v => if h.getLsbD v then raiseMsg s f v false else s) s

end Sys2Proof.Machine
end

