-- ==== Sys2Proof/Machine/Ports.lean ====
section
/-!
DEFINITION. The calendar's accounts (R246 to R248) and the data ports (R19, R371, R372): bursts, tags, the issue of
transactions.
-/
namespace Sys2Proof.Machine

open Sys2Proof

/-! ### Calendar accounts -/

/-- Number of a container: cipher, hash and PKA time of the eight groups, read and write bandwidth of the four regions. -/
def contNo : Container → Nat
  | .cipher g => g
  | .hash g => 8 + g
  | .pka g => 16 + g
  | .portRead m => 24 + m
  | .portWrite m => 28 + m

/-- Whether a container of the row exists. -/
def contOk : Container → Bool
  | .cipher g | .hash g | .pka g => decide (g < 8)
  | .portRead m | .portWrite m => decide (m < 4)

/-- Sub-index of the share of a container's class in AL B000 + f; the ceiling follows it (R238). -/
def shareSub (k : Nat) : Nat := if k < 8 then 1 else if k < 16 then 3 else if k < 24 then 5 else 7

/-- Units of a container active now. -/
def contUnits (s : State) (k : Nat) : Nat :=
  if k < 8 then (activeCells s .lane k).length
  else if k < 16 then (activeCells s .hash (k - 8)).length
  else if k < 24 then (activeCells s .pka (k - 16)).length
  else (activePorts s (k % 4)).length

/-- Capacity in an epoch of 10 microseconds (R246); kHz / 100 is the cycles of a clock in it. -/
def capNow (s : State) (k : Nat) : Nat :=
  if k < 8 then contUnits s k * (s.bring.coreKhz / 100)
  else if k < 16 then contUnits s k * 8 * (s.bring.coreKhz / 100)
  else if k < 24 then contUnits s k * (s.bring.coreKhz / 100)
  else contUnits s k * (s.bring.portKhz / 100)

/-- Capacity of the present epoch. -/
def capacity (s : State) (k : Nat) : Nat := if s.cal.started then tget 0 s.cal.cap k else capNow s k

def acctKey (k f : Nat) : Nat := k * 2048 + f

/-- A QoS entry of a function as it stood when the epoch began: credits are given then (R247). -/
def bookQos (s : State) (f sub : Nat) : Nat :=
  if s.cal.started then tget (entryDflt (0xB000 + f) sub) s.cal.book (256 * (0xB000 + f) + sub) else qosCfg s f sub

/-- Guaranteed and ceiling credit (R247). -/
def creditG (s : State) (k f : Nat) : Nat :=
  bookQos s f (shareSub k) * capacity s k / 4096 - (getAcct s (acctKey k f)).debt
def creditH (s : State) (k f : Nat) : Nat :=
  bookQos s f (shareSub k + 1) * capacity s k / 4096 - (getAcct s (acctKey k f)).debt

/-- The shares and ceilings committed now, as the epoch that begins takes them. -/
def bookNow (s : State) : Tbl Nat :=
  s.cfg.filter fun e => decide (0xB000 ≤ e.1 / 256 ∧ e.1 / 256 ≤ 0xB400)

/-- Charge of every function in a container. -/
def contCharge (s : State) (k : Nat) : Nat :=
  s.cal.acct.foldl (fun n e => if e.1 / 2048 = k then n + e.2.charge else n) 0

/-- Free capacity, and a function below its ceiling credit (R247). -/
def mayGrant (s : State) (k f : Nat) : Bool :=
  decide (contCharge s k < capacity s k) && decide ((getAcct s (acctKey k f)).charge < creditH s k f)

/-- Charge work to a function, in its account and in its usage counter (R238, R248). -/
def charge (s : State) (k f n : Nat) : State :=
  let a := getAcct s (acctKey k f)
  let s := setAcct s (acctKey k f) { a with charge := a.charge + n }
  modStat s f fun r =>
    if k < 8 then { r with cipherUsed := u64 (r.cipherUsed + n) }
    else if k < 16 then { r with hashUsed := u64 (r.hashUsed + n) }
    else if k < 24 then { r with pkaUsed := u64 (r.pkaUsed + n) }
    else { r with portUsed := u64 (r.portUsed + n) }

/-! ### Transactions -/

/-- Aligned 128-byte lines that a transaction touches (R371). -/
def linesOf (addr len : Nat) : Nat := if len = 0 then 0 else (addr + len - 1) / 128 - addr / 128 + 1

/-- Tags of a port that are in use, quarantined ones included (R371). -/
def tagsUsed (s : State) (port : Nat) : List Nat := (s.txns.filter fun t => decide (t.port = port)).map Txn.tag

/-- Tag window in effect: the override, or the measured value (R295, R312). -/
def tagWindow (s : State) : Nat :=
  let o := cfgGet s 0x2020 0x14
  if o = 0 then s.bring.tagWindow else o

/-- Lowest tag of a port that is not in use, within the window (R371; the manual leaves the choice open). -/
def freeTag (s : State) (port : Nat) : Option Nat :=
  let used := tagsUsed s port
  if used.length < tagWindow s then (List.range 256).find? fun t => !used.contains t else none

/-- Ports of a region that take new work: the active ones, without those that drain toward OUT_OF_SERVICE (R324). -/
def openPorts (s : State) (m : Nat) : List Nat := (activePorts s m).filter fun p => !(getUnit s (unitAt .port p)).draining

/-- Port of an address in a region: active port number (A / 4096) mod N (R19). -/
def portOf (s : State) (m addr : Nat) : Option Nat :=
  let ps := openPorts s m
  ps[(addr / 4096) % ps.length]?

/-- Mover that serves a channel (R199). -/
def chanMover (s : State) (c : Nat) : Nat := (getChan s c).moved.getD (c / 32)

/-- Mover that works on a channel's run, or would: one that drains keeps the run that it has begun (R324). -/
def runMover (s : State) (c : Nat) : Nat := match (getChan s c).run with | some x => x.mover | none => chanMover s c

/-- A channel burst that the power limiter withholds with its mover's group (R407). -/
def burstHeld (s : State) (b : Burst) : Bool :=
  match b.own with
  | .head c | .cdesc c | .cdata c _ _ | .cwrite c _ | .ccb c _ => s.cal.withheld.contains (runMover s c)
  | _ => false

/-- New transactions may leave: not after the safe-state barrier (R329), in a warm reset only those of the vault update
in progress (R302), and no channel burst that is withheld (R407). -/
def mayIssue (s : State) (b : Burst) : Bool := !s.safe && (!s.pins.blkRstLow || b.isUpd) && !burstHeld s b

def burstCont (b : Burst) : Nat := if b.wr then 28 + b.region else 24 + b.region

/-- The port of a burst: a probe has its own port, every other burst the port of its address. -/
def burstPort (s : State) (b : Burst) : Option Nat :=
  match b.own with
  | .probe p _ => some p
  | _ => portOf s b.region b.addr

/-- A write of a request or of a run has left its port (R330): it counts as issued. The round trip of a probe runs from its issue
(R376). -/
def noteWrite (s : State) (o : Own) : State :=
  match o with
  | .out r | .ctx r => modReq s r fun q => { q with wrote := true }
  | .cwrite c _ => modChan s c fun r => { r with run := r.run.map fun x => { x with wrote := true } }
  | .probe p _ => { s with bring := { s.bring with probeAt := tput 0 s.bring.probeAt p s.pins.cycles } }
  | _ => s

/-- Function that a burst is charged to (R248). -/
def Burst.acct (b : Burst) : Nat := b.payer.getD b.fn

/-- A burst leaves its port as a transaction (R371), charged by its beats (R248); the port has work again (R406). A write that leaves in a
warm reset is poisoned (R372). -/
def issueOn (s : State) (b : Burst) (port tag : Nat) : State :=
  let s := modUnit (noteWrite s b.own) (unitAt .port port) fun u => { u with gated := false }
  charge { s with
    txns := s.txns ++ [{ port := port, tag := tag, wr := b.wr, addr := b.addr, len := b.len, fn := b.fn, pasid := b.pasid,
                         data := b.data, own := b.own, vault := b.vault, payer := b.payer, poison := b.wr && !coreUp s }]
    cal := { s.cal with usBytes := s.cal.usBytes + b.len } } (burstCont b) b.acct (linesOf b.addr b.len)

/-- A port's own probe (R312, R325): it goes out on that port, which may be the only one of its region that does not work, whatever the
region's calendar holds. -/
def Burst.isProbe (b : Burst) : Bool := match b.own with | .probe _ _ => true | _ => false

/-- Bandwidth is free for a burst. The update that a warm reset lets run on and a probe do not wait for a calendar (R302, R325). -/
def bandwidth (s : State) (b : Burst) : Bool := (b.isUpd && !coreUp s) || b.isProbe || mayGrant s (burstCont b) b.acct

/-- The transaction that a burst becomes now, if a port, a tag and bandwidth are free. -/
def tryIssue (s : State) (b : Burst) : Option State :=
  if mayIssue s b && bandwidth s b then
    match burstPort s b with
    | none => none
    | some p =>
      match freeTag s p with
      | none => none
      | some t => some (issueOn s b p t)
  else none

/-- A burst is granted at once where nothing of its direction waits in its region, and otherwise waits for CALENDAR_GRANT. -/
def submit (s : State) (b : Burst) : State :=
  if !b.isProbe && s.bursts.any fun w => decide (burstCont w = burstCont b) then { s with bursts := s.bursts ++ [b] }
  else match tryIssue s b with
    | some s' => s'
    | none => { s with bursts := s.bursts ++ [b] }

/-- A byte range cut at 4 KiB boundaries (R19): offset, address and length of each piece. -/
def pieces : Nat → Nat → Nat → Nat → List (Nat × Nat × Nat)
  | 0, _, _, _ => []
  | fuel + 1, off, addr, len =>
    if len = 0 then []
    else
      let n := min len (4096 - addr % 4096)
      (off, addr, n) :: pieces fuel (off + n) (addr + n) (len - n)

def piecesOf (addr len : Nat) : List (Nat × Nat × Nat) := pieces (len / 4096 + 2) 0 addr len

/-- An element list as pieces of one continuous stream (R48). -/
def streamPieces : Nat → List (Nat × Nat) → List (Nat × Nat × Nat)
  | _, [] => []
  | off, (a, n) :: t => (piecesOf a n).map (fun p => (off + p.1, p.2)) ++ streamPieces (off + n) t

/-- Who an access speaks for: function, PASID entry, region of its ports. -/
structure Who where
  region : Nat
  fn     : Nat
  pasid  : Nat
  payer  : Option Nat := none
  deriving DecidableEq, Repr

/-- Issue the reads of a stream; `own` names each piece by its offset. -/
def readPieces (s : State) (w : Who) (ps : List (Nat × Nat × Nat)) (own : Nat → Own) (vault : Bool) : State :=
  ps.foldl (fun s p => submit s { region := w.region, wr := false, addr := p.2.1, len := p.2.2, fn := w.fn,
                                  pasid := w.pasid, own := own p.1, vault := vault, payer := w.payer }) s

/-- Issue the writes of a stream with its bytes; `own` names each piece by its offset. -/
def writePieces (s : State) (w : Who) (ps : List (Nat × Nat × Nat)) (data : Bytes) (own : Nat → Own) (vault : Bool) : State :=
  ps.foldl (fun s p => submit s { region := w.region, wr := true, addr := p.2.1, len := p.2.2, fn := w.fn,
                                  pasid := w.pasid, data := slice data p.1 p.2.2, own := own p.1, vault := vault, payer := w.payer }) s

/-- The elements of a list cut to its first `n` bytes. -/
def cutList : Nat → List (Nat × Nat) → List (Nat × Nat)
  | _, [] => []
  | n, (a, l) :: t => if n = 0 then [] else (a, min n l) :: cutList (n - min n l) t

/-- Status of a response code (R374). -/
def respStatus (r : BitVec 2) : Option Status :=
  if r = 0 then none else if r = 1 then some .memError else if r = 2 then some .memDecode else some .memPoison

/-- Transactions and waiting bursts lose their purpose: their answers are discarded. -/
def disown (s : State) (p : Own → Bool) : State :=
  { s with
    txns := s.txns.map fun t => if p t.own then { t with own := .none } else t
    bursts := s.bursts.filter fun b => !p b.own }

/-- A transaction of the purpose is outstanding or waiting. -/
def busyWith (s : State) (p : Own → Bool) : Bool := s.txns.any (fun t => p t.own && !t.quar) || s.bursts.any fun b => p b.own

/-- The pieces that arrived, in stream order. -/
def joinChunks (l : List (Nat × Bytes)) : Bytes :=
  (l.foldl (fun (acc : List (Nat × Bytes)) c => (acc.filter fun d => decide (d.1 < c.1)) ++ [c] ++
    acc.filter fun d => decide (c.1 ≤ d.1)) []).flatMap Prod.snd

end Sys2Proof.Machine
end

