-- ==== Sys2Proof/Machine/Operands.lean ====
section
/-!
DEFINITION. Operand forms of requests: descriptors of the three ring protocol versions (R41 to R44), opcodes (R49, R70,
R121, R163, R196, R361, R365), parameter blocks (R46), scatter lists (R47, R48) and checks 1 to 6 of R45.
-/
namespace Sys2Proof.Machine

open Sys2Proof

/-! ### Opcodes -/

/-- What an opcode does; its mode code, where it has one, is `modeOf`. -/
inductive Op where
  | nop | nopSignal | encrypt | decrypt | aeadEnc | aeadDec | gmacGen | gmacVer | hash | macGen | macVer
  | decVer | reencVer | digVer | ctxInfo | ctxClose
  | sign | verify | rsaEnc | rsaDec | keyAgree | kemEnc | kemDec | keyGen | pubKey
  | genSym | derive | impWrap | impKem | expWrap | expKem | replace | commit | cancel | erase | eraseUrg | keyInfo
  | random | veAttest | certInstall
  deriving DecidableEq, Repr

/-- Mode code M of an opcode of groups 01xxh to 04xxh (R69, R70). -/
def modeOf (opcode : Nat) : Nat := opcode % 0x80

def isHashMode (m : Nat) : Bool := decide ((0x10 ≤ m ∧ m ≤ 0x14) ∨ (0x18 ≤ m ∧ m ≤ 0x1A) ∨ m = 0x1C ∨ m = 0x1D)
def isHmac (m : Nat) : Bool := decide (0x20 ≤ m ∧ m ≤ 0x24)
def isKmac (m : Nat) : Bool := decide (m = 0x28 ∨ m = 0x29)
def isMacMode (m : Nat) : Bool := decide (m = 0x08) || isHmac m || isKmac m
def isAead (m : Nat) : Bool := decide (m = 5 ∨ m = 7 ∨ m = 9)

/-- Opcodes of groups 01xxh to 04xxh (R70). -/
def symOp (opcode : Nat) : Option Op :=
  let m := modeOf opcode
  let high := decide (opcode % 0x100 ≥ 0x80)
  match opcode / 0x100 with
  | 1 => if 1 ≤ m ∧ m ≤ 4 then some (if high then .decrypt else .encrypt) else none
  | 2 => if isAead m then some (if high then .aeadDec else .aeadEnc)
         else if m = 6 then some (if high then .gmacVer else .gmacGen) else none
  | 3 => if isMacMode m then some (if high then .macVer else .macGen)
         else if isHashMode m && !high then some .hash else none
  | 4 => if (1 ≤ m ∧ m ≤ 5) ∨ m = 7 ∨ m = 9 then some (if high then .reencVer else .decVer)
         else if (isMacMode m || isHashMode m) && !high then some .digVer else none
  | _ => none

/-- The operation of an opcode on a ring of function `fn` (check 2 of R45). -/
def opOf (fn opcode : Nat) : Option Op :=
  if opcode / 0x100 = 0 then (if opcode = 0 then some .nop else if opcode = 1 then some .nopSignal else none)
  else if opcode / 0x100 ≤ 4 then symOp opcode
  else match opcode with
    | 0x501 => some .sign | 0x502 => some .verify | 0x503 => some .rsaEnc | 0x504 => some .rsaDec
    | 0x505 => some .keyAgree | 0x506 => some .kemEnc | 0x507 => some .kemDec | 0x508 => some .keyGen
    | 0x509 => some .pubKey
    | 0x601 => some .genSym | 0x602 => some .derive | 0x603 => some .impWrap | 0x604 => some .impKem
    | 0x605 => some .expWrap | 0x606 => some .expKem | 0x607 => some .replace | 0x608 => some .commit
    | 0x609 => some .cancel | 0x60A => some .erase | 0x60B => some .eraseUrg | 0x60C => some .keyInfo
    | 0x701 => some .random
    | 0x801 => some .ctxInfo | 0x802 => some .ctxClose
    | 0x901 => some .veAttest
    | 0x902 => if fn = 0 then some .certInstall else none
    | _ => none

/-- Opcode groups permitted under a ring version (R49, check 1 of R45). -/
def groupPermitted (ver opcode : Nat) : Bool :=
  let g := opcode / 0x100
  if g ≤ 3 ∨ g = 7 then true else if 4 ≤ g ∧ g ≤ 8 then decide (2 ≤ ver) else if g = 9 then decide (ver = 3) else false

/-! ### Descriptors -/

/-- Bits of the FLAGS field (R42). -/
def fChain : Nat := 0
def fEcho : Nat := 1
def fTagHandle : Nat := 2
def fDeviceIv : Nat := 3
def fCtxIn : Nat := 4
def fCtxOut : Nat := 5
def fWrap : Nat := 6
def fSrcPeer : Nat := 7
def fDstPeer : Nat := 8
def fSrcSgl : Nat := 9
def fDstSgl : Nat := 10
def fFence : Nat := 11
def fNoInt : Nat := 12

def Desc.flag (d : Desc) (i : Nat) : Bool := d.flags.testBit i

/-- Bytes of a descriptor (R35). -/
def descSize (ver : Nat) : Nat := if ver = 1 then 32 else 64

/-- An RP2 or RP3 descriptor (R41, R42). -/
def parseRp3 (b : Bytes) : Desc :=
  { opcode := fld b 0 2, flags := fld b 2 2 % 8192, key := fld b 4 4, src := fld b 8 8, dst := fld b 16 8
    srcLen := fld b 24 4, dstCap := fld b 28 4, aadLen := fld b 32 4, mode := fld b 36 4, param := fld b 40 8
    ctx := fld b 48 8, tag := fld b 56 8, hdr := false, rsvd := fld b 2 2 / 8192 }

/-- An RP1 descriptor in RP3 terms (R44). Its destination capacity is set by `rp1Cap`. -/
def parseRp1 (b : Bytes) : Desc :=
  let f := fld b 2 1
  let bit (i j : Nat) : Nat := if f.testBit i then 2 ^ j else 0
  { opcode := fld b 0 2, flags := bit 0 fEcho + bit 1 fDeviceIv + bit 2 fFence + bit 3 fNoInt
    mode := fld b 3 1, key := fld b 4 4, src := fld b 8 8, dst := fld b 16 8, srcLen := fld b 24 4, tag := fld b 28 4
    hdr := f.testBit 4, rsvd := f / 32 }

/-- Digest length by mode code of a hash or HMAC (R72). -/
def digestLen (m : Nat) : Nat :=
  match m % 0x10 with
  | 0 => 28 | 1 => 32 | 2 => 48 | 3 => 64 | 4 => 32 | 8 => 32 | 9 => 48 | 0xA => 64 | _ => 0

/-- Length of the tag, digest or output that MODE_PARAM gives (R72). -/
def tagLen (m mp : Nat) : Nat :=
  if isAead m ∨ m = 6 ∨ m = 8 then mp % 256
  else if isHmac m then (if mp % 256 = 0 then digestLen m else mp % 256)
  else if isKmac m ∨ m = 0x1C ∨ m = 0x1D then mp % 65536
  else digestLen m

/-- COPY_AAD of an AEAD opcode (R41, R72). -/
def Desc.copyAad (d : Desc) : Bool := d.mode.testBit 31

/-- Data bytes of a request (R72). -/
def Desc.dataLen (d : Desc) : Nat := d.srcLen - d.aadLen

/-- Public-key sizes of R123: public key, signature or ciphertext, shared secret. -/
def algSizes (alg modW : Nat) : Nat × Nat × Nat :=
  match alg with
  | 0x01 => (8 * modW + 4, 8 * modW, 0)
  | 0x10 => (65, 64, 32) | 0x11 => (97, 96, 48) | 0x12 => (133, 132, 66)
  | 0x20 => (32, 64, 0) | 0x21 => (57, 114, 0) | 0x22 => (32, 0, 32) | 0x23 => (56, 0, 56)
  | 0x30 => (800, 768, 32) | 0x31 => (1184, 1088, 32) | 0x32 => (1568, 1568, 32)
  | 0x38 => (1312, 2420, 0) | 0x39 => (1952, 3309, 0) | 0x3A => (2592, 4627, 0)
  | 0x40 => (32, 7856, 0) | 0x41 => (32, 17088, 0) | 0x42 => (48, 16224, 0) | 0x43 => (48, 35664, 0)
  | 0x44 => (64, 29792, 0) | 0x45 => (64, 49856, 0)
  | _ => (0, 0, 0)

/-- Fields of MODE_PARAM of group 05xxh (R122). -/
def pkAlg (mp : Nat) : Nat := mp % 256
def pkHash (mp : Nat) : Nat := bitsOf mp 11 8
def pkPrehashed (mp : Nat) : Bool := mp.testBit 12
def pkSecretOk (mp : Nat) : Bool := mp.testBit 14
def pkModW (mp : Nat) : Nat := bitsOf mp 23 16
def pkUsage (mp : Nat) : Nat := bitsOf mp 31 24
/-- Digest length of a HASH field (R122). -/
def pkHashLen (h : Nat) : Nat := match h with | 1 => 32 | 2 => 48 | 3 => 64 | _ => 0

/-- Fields of MODE_PARAM of group 06xxh (R164). -/
def kmSub (mp : Nat) : Nat := mp % 256
def kmPartner (mp : Nat) : Nat := bitsOf mp 15 8
def kmLimit (mp : Nat) : Nat := bitsOf mp 23 16

/-! ### What each operation uses -/

def Op.isSym : Op → Bool
  | .encrypt | .decrypt | .aeadEnc | .aeadDec | .gmacGen | .gmacVer | .hash | .macGen | .macVer | .decVer | .reencVer
  | .digVer => true
  | _ => false

def Op.isPka : Op → Bool
  | .sign | .verify | .rsaEnc | .rsaDec | .keyAgree | .kemEnc | .kemDec | .keyGen | .pubKey => true
  | _ => false

def Op.isKm : Op → Bool
  | .genSym | .derive | .impWrap | .impKem | .expWrap | .expKem | .replace | .commit | .cancel | .erase | .eraseUrg
  | .keyInfo => true
  | _ => false

/-- KEY_HANDLE names a key (R71, R96, R121, R163). -/
def keyed (o : Op) (m : Nat) : Bool :=
  match o with
  | .nop | .nopSignal | .hash | .verify | .rsaEnc | .kemEnc | .keyGen | .genSym | .random | .certInstall => false
  | .digVer => !isHashMode m
  | _ => true

/-- The operation reads a source (R76, R121, R163). -/
def hasSrc (o : Op) (mp : Nat) : Bool :=
  match o with
  | .nop | .nopSignal | .ctxInfo | .ctxClose | .keyAgree | .kemEnc | .keyGen | .pubKey | .genSym | .expWrap | .commit
  | .cancel | .erase | .eraseUrg | .keyInfo => false
  | .replace => decide (kmSub mp = 0)
  | _ => true

/-- The operation names a buffer in DST, to write or to read (R76, R97, R121, R163). -/
def hasDst (o : Op) : Bool :=
  match o with
  | .nop | .nopSignal | .gmacVer | .macVer | .ctxClose | .commit | .cancel | .erase | .eraseUrg | .certInstall => false
  | _ => true

/-- DST names a reference that is read (R97, R121). -/
def refersDst (o : Op) : Bool :=
  match o with
  | .decVer | .reencVer | .digVer | .verify => true
  | _ => false

/-- Steps that can feed the next step (R62, R97, R138, R163, R196, R224, R365). -/
def canFeed (o : Op) (d : Desc) : Bool :=
  if d.flag fSrcPeer || d.flag fDstPeer then false
  else match o with
    | .encrypt | .decrypt | .aeadEnc | .aeadDec | .gmacGen | .hash | .macGen | .ctxInfo | .sign | .rsaEnc | .pubKey
    | .gmacVer | .macVer | .nop | .nopSignal | .ctxClose => true
    | _ => false

/-- Steps that can consume an intermediate: those with a source, but RANDOM, VE_ATTEST and CERT_INSTALL never do. -/
def mayConsume (o : Op) (mp : Nat) : Bool :=
  hasSrc o mp && (match o with | .random | .veAttest | .certInstall => false | _ => true)

/-- Runs on a cipher lane (R69, R113). -/
def onLane (o : Op) (m : Nat) : Bool :=
  match o with
  | .encrypt | .decrypt | .aeadEnc | .aeadDec | .gmacGen | .gmacVer | .decVer | .reencVer => true
  | .macGen | .macVer | .digVer => decide (m = 8)
  | _ => false

/-- The unit that a request is granted (R16, R118): its kind, or none for work of sequencers alone. Wrapping, derivation
under CMAC and key check values run on cipher lanes, derivation under HMAC on a hash lane. -/
def unitKind (o : Op) (d : Desc) : Option Kind :=
  let m := modeOf d.opcode
  if onLane o m then some .lane
  else match o with
    | .hash | .macGen | .macVer | .digVer => some .hash
    | .genSym | .impWrap | .expWrap => some .lane
    | .derive => some (if kmSub d.mode = 1 then .hash else .lane)
    | .replace => some .lane
    | .impKem | .expKem | .veAttest | .certInstall => some .pka
    | _ => if o.isPka then some .pka else none

/-- A caller IV is taken from the parameter block (R71, R72, R98, R99). -/
def usesIv (o : Op) (d : Desc) : Bool :=
  let m := modeOf d.opcode
  if d.flag fCtxIn then false
  else match o with
    | .encrypt | .decrypt => decide (m = 2 ∨ m = 3)
    | .aeadEnc | .gmacGen => !d.flag fDeviceIv
    | .aeadDec | .gmacVer => true
    | .decVer | .reencVer => decide (m ≠ 1 ∧ m ≠ 4)
    | _ => false

/-- XTS takes its data-unit number from the parameter block: under TAG_HANDLE and under RP1 (R72). -/
def xtsInBlock (ver : Nat) (o : Op) (d : Desc) : Bool :=
  (match o with | .encrypt | .decrypt | .decVer | .reencVer => true | _ => false) &&
  decide (modeOf d.opcode = 4) && (d.flag fTagHandle || decide (ver = 1))

/-- XTS with its data-unit number inline in PARAM. -/
def xtsInline (ver : Nat) (o : Op) (d : Desc) : Bool :=
  (match o with | .encrypt | .decrypt | .decVer | .reencVer => true | _ => false) &&
  decide (modeOf d.opcode = 4) && !xtsInBlock ver o d

/-- An expected tag is taken from the parameter block (R76, R87, R98). -/
def usesTag (o : Op) (d : Desc) : Bool :=
  match o with
  | .aeadDec | .gmacVer | .macVer => !d.flag fCtxOut
  | .decVer => isAead (modeOf d.opcode)
  | _ => false

def isKmacOp (o : Op) (d : Desc) : Bool :=
  (match o with | .macGen | .macVer | .digVer => true | _ => false) && isKmac (modeOf d.opcode) && !d.flag fCtxIn

/-- The opcode creates a slot, whose object tag the parameter block may carry (R129, R163). A package import takes the tag
from the package. -/
def usesTagOut (o : Op) (d : Desc) : Bool :=
  match o with
  | .keyAgree | .kemEnc | .kemDec | .keyGen | .genSym | .derive => true
  | .impWrap => decide (kmSub d.mode = 1)
  | _ => false

/-- The opcode uses the KCV of the parameter block (R163, R170, R174). -/
def usesKcv (o : Op) (d : Desc) : Bool :=
  match o with
  | .impWrap => decide (kmSub d.mode = 1)
  | .replace => decide (kmSub d.mode = 0)
  | _ => false

/-- A parameter block is required (R46, R72). The key check value that REPLACE with SUB 00h requires of a symmetric key is missed once the
key is known (R174; `kcvMissing`). -/
def prmRequired (ver : Nat) (o : Op) (d : Desc) : Bool :=
  usesIv o d || usesTag o d || xtsInBlock ver o d || d.flag fTagHandle

/-- A parameter block may be named. -/
def prmAllowed (ver : Nat) (o : Op) (d : Desc) : Bool :=
  prmRequired ver o d || isKmacOp o d || o.isPka || o.isKm

/-- The request reads a parameter block or an RP1 parameter header. -/
def readsPrm (ver : Nat) (o : Op) (d : Desc) : Bool :=
  if ver = 1 then d.hdr else prmAllowed ver o d && decide (d.param ≠ 0) && !xtsInline ver o d

/-- Public input read through OPERAND (R121): its length. -/
def operandLen (o : Op) (d : Desc) : Nat :=
  match o with
  | .verify | .rsaEnc | .keyAgree | .kemEnc => (algSizes (pkAlg d.mode) (pkModW d.mode)).1
  | _ => 0

/-- Segments with a streaming context (R87). -/
def ctxModes (o : Op) (m : Nat) : Bool :=
  match o with
  | .hash | .macGen | .macVer => true
  | .encrypt | .decrypt => decide (m = 2 ∨ m = 3)
  | .aeadEnc | .aeadDec => decide (m = 5 ∨ m = 9)
  | .gmacGen | .gmacVer => true
  | _ => false

/-- Flags that an opcode uses (check 4 of R45). R121 lists TAG_HANDLE for the whole of group 05xxh: it is used by the opcodes of the group
that name no key, too, whose tag nothing resolves (DESIGN CHOICE, log 15). -/
def flagUsed (ver : Nat) (o : Op) (d : Desc) (i : Nat) : Bool :=
  let m := modeOf d.opcode
  if i = fFence ∨ i = fNoInt then true
  else if i = fChain then decide (o ≠ .certInstall)
  else if i = fEcho then onLane o m
  else if i = fTagHandle then
    (if o.isSym then true else if o.isPka then true else match o with
      | .ctxInfo | .ctxClose | .veAttest => true
      | _ => o.isKm && decide (o ≠ .genSym))
  else if i = fDeviceIv then
    (match o with | .aeadEnc => decide (m ≠ 7) | .gmacGen => true | _ => false) && !d.flag fCtxIn
  else if i = fCtxIn then ctxModes o m || decide (o = .digVer)
  else if i = fCtxOut then ctxModes o m
  else if i = fWrap then d.flag fCtxOut
  else if i = fSrcPeer then decide (o = .aeadEnc)
  else if i = fDstPeer then decide (o = .aeadDec)
  else if i = fSrcSgl then o.isSym || o.isPka || decide (o = .certInstall) || (o.isKm && hasSrc o d.mode)
  else if i = fDstSgl then
    (if o.isPka then true else match o with
      | .ctxInfo | .random | .veAttest => true
      | .gmacVer | .macVer => false
      | _ => (o.isSym || o.isKm) && hasDst o)
  else decide (ver = 0)

/-- Output length before the tag is known to fit (R76, R86, R121, R163, R365). `stored` is the stored form or material length
that decides a package or a REPLACE output. -/
def outLen (o : Op) (d : Desc) (stored : Nat) : Nat :=
  let m := modeOf d.opcode
  let data := d.dataLen
  let fin := !d.flag fCtxOut
  match o with
  | .encrypt | .decrypt => d.srcLen
  | .aeadEnc => (if d.flag fDeviceIv then 12 else 0) + (if d.copyAad then d.aadLen else 0) + data +
      (if fin then tagLen m d.mode else 0)
  | .aeadDec => (if d.copyAad then d.aadLen else 0) + data
  | .gmacGen => (if d.flag fDeviceIv then 12 else 0) + (if fin then tagLen m d.mode else 0)
  | .hash | .macGen => if fin then tagLen m d.mode else 0
  | .ctxInfo => 32
  | .sign | .rsaEnc => (algSizes (pkAlg d.mode) (pkModW d.mode)).2.1
  | .rsaDec => 8 * pkModW d.mode - 2 * pkHashLen (pkHash d.mode) - 2
  | .keyAgree | .kemDec => 8
  | .kemEnc => 8 + (algSizes (pkAlg d.mode) 0).2.1
  | .keyGen => 8 + (algSizes (pkAlg d.mode) (pkModW d.mode)).1
  | .pubKey => (algSizes (pkAlg d.mode) (pkModW d.mode)).1
  | .genSym => 16
  | .derive | .impWrap | .impKem => 8
  | .expWrap => 8 * ceilDiv (32 + stored) 8 + 8
  | .expKem => (algSizes (kmSub d.mode) 0).2.1 + (algSizes (kmPartner d.mode) 0).1 + 8 * ceilDiv (32 + stored) 8 + 8
  | .replace => stored
  | .keyInfo => 64
  | .random => d.dstCap
  | _ => 0

/-- Capacity of an RP1 request: the largest output its opcode can produce from SRC_LEN (R44); RANDOM takes its length from
SRC_LEN and reads no source (R197). -/
def rp1Cap (d : Desc) : Desc :=
  match opOf 0 d.opcode with
  | some .random => { d with dstCap := d.srcLen, srcLen := 0 }
  | some .aeadEnc => { d with dstCap := d.srcLen + 28 }
  | some .gmacGen => { d with dstCap := 28 }
  | some o => if hasDst o then { d with dstCap := max d.srcLen (outLen o d 0) } else d
  | none => d

def parseDesc (ver : Nat) (b : Bytes) : Desc := if ver = 1 then rp1Cap (parseRp1 b) else parseRp3 b

/-! ### Checks 1 to 5 -/

/-- A failed check: status and RESULT. -/
abbrev Bad := Option (Status × Nat)

/-- The first rule that is broken. -/
def firstBad : List (Bool × Status × Nat) → Bad
  | [] => none
  | (b, e) :: t => if b then some e else firstBad t

/-- Flags of RP3 alone (R42, R43). -/
def rp3Flags (d : Desc) : Bool := d.flag fChain || d.flag fTagHandle || d.flag fSrcPeer || d.flag fDstPeer

/-- Some flag is set that the opcode does not use. -/
def strayFlag (ver : Nat) (o : Op) (d : Desc) : Bool := (List.range 13).any fun i => d.flag i && !flagUsed ver o d i

/-- Checks 1 to 4 of R45. PARAM_HEADER of an RP1 request whose opcode needs no parameter block passes here, and the header must then
be zero (R44; DESIGN CHOICE, log 134). -/
def checkHead (fn ver idx : Nat) (d : Desc) : Bad :=
  if !groupPermitted ver d.opcode then some (.descVersion, 0)
  else match opOf fn d.opcode with
    | none => some (.descOpcode, 0)
    | some o => firstBad
      [ (decide (ver = 2) && rp3Flags d, .descVersion, 2),
        (decide (d.rsvd ≠ 0) || (d.flag fSrcSgl && d.flag fSrcPeer) || (d.flag fDstSgl && d.flag fDstPeer) ||
          (d.flag fFence && decide (idx ≠ 0)) || strayFlag ver o d ||
          (d.hdr && !(o.isSym && decide (ver = 1))), .descFlags, 2) ]

/-! ### Check 6: fields -/

/-- The step consumes the intermediate of its predecessor (R62). -/
def consumes (d : Desc) : Bool := decide (d.src = 0 ∧ 0 < d.srcLen) && !d.flag fSrcSgl && !d.flag fSrcPeer

/-- MODE_PARAM legal for a symmetric mode (R72). -/
def symModeOk (m mp : Nat) : Bool :=
  let low := mp % 2 ^ 31
  if m = 1 ∨ m = 2 then decide (mp = 0)
  else if m = 3 then decide (32 ≤ mp ∧ mp ≤ 128 ∧ mp % 8 = 0)
  else if m = 4 then decide (16 ≤ mp ∧ mp ≤ 16777216)
  else if m = 5 then decide (12 ≤ low ∧ low ≤ 16)
  else if m = 6 then decide (12 ≤ mp ∧ mp ≤ 16)
  else if m = 7 then decide (4 ≤ low ∧ low ≤ 16 ∧ low % 2 = 0)
  else if m = 9 then decide (low = 16)
  else if m = 8 then decide (8 ≤ mp ∧ mp ≤ 16)
  else if m = 0x1C ∨ m = 0x1D then decide (1 ≤ mp ∧ mp ≤ 65535)
  else if isHmac m then decide (mp = 0 ∨ (16 ≤ mp ∧ mp ≤ digestLen m))
  else if isKmac m then decide (4 ≤ mp ∧ mp ≤ 1024)
  else decide (mp = 0)

/-- Algorithms of R123 that an opcode of group 05xxh serves. -/
def pkAlgOk (o : Op) (alg : Nat) : Bool :=
  let rsa := decide (alg = 1)
  let nist := decide (0x10 ≤ alg ∧ alg ≤ 0x12)
  let ed := decide (alg = 0x20 ∨ alg = 0x21)
  let x := decide (alg = 0x22 ∨ alg = 0x23)
  let kem := decide (0x30 ≤ alg ∧ alg ≤ 0x32)
  let pq := decide ((0x38 ≤ alg ∧ alg ≤ 0x3A) ∨ (0x40 ≤ alg ∧ alg ≤ 0x45))
  match o with
  | .sign | .verify => rsa || nist || ed || pq
  | .rsaEnc | .rsaDec => rsa
  | .keyAgree => nist || x
  | .kemEnc | .kemDec => kem
  | _ => rsa || nist || ed || x || kem || pq

/-- Usages that a key may carry (R125), in the bit order of USAGE; export-wrapped is bit 7. -/
def usagesOk (alg usage : Nat) : Bool :=
  let bad (mask : Nat) : Bool := decide (usage % 128 &&& (127 - mask) ≠ 0)
  if usage = 0 then false
  else if alg = 1 then !bad 0b1000110
  else if 0x10 ≤ alg ∧ alg ≤ 0x12 then !bad 0b1010100 && !(usage.testBit 2 && (usage.testBit 4 || usage.testBit 6))
  else if alg = 0x22 ∨ alg = 0x23 then !bad 0b1010000
  else if 0x30 ≤ alg ∧ alg ≤ 0x32 then !bad 0b1000010
  else !bad 0b0000100

/-- MODE_PARAM legal for group 05xxh (R122, R123). -/
def pkModeOk (o : Op) (mp : Nat) : Bool :=
  let alg := pkAlg mp
  let signs := match o with | .sign | .verify => true | _ => false
  -- HASH is required for RSA under every opcode, and for ECDSA, which is the NIST curves under SIGN and VERIFY
  let hashed := decide (alg = 1) || (decide (0x10 ≤ alg ∧ alg ≤ 0x12) && signs)
  pkAlgOk o alg && decide (bitsOf mp 15 15 = 0 ∧ bitsOf mp 13 13 = 0) &&
  (if o = .keyGen then usagesOk alg (pkUsage mp) else decide (pkUsage mp = 0)) &&
  (if alg = 1 then decide (32 ≤ pkModW mp ∧ pkModW mp ≤ 128) &&
      (decide (o ≠ .keyGen) || decide (pkModW mp = 32 ∨ pkModW mp = 48 ∨ pkModW mp = 64))
    else decide (pkModW mp = 0)) &&
  (!pkPrehashed mp || (hashed && signs)) &&
  (!pkSecretOk mp || (match o with | .keyAgree | .kemEnc | .kemDec => true | _ => false)) &&
  (if hashed then decide (1 ≤ pkHash mp ∧ pkHash mp ≤ 3) else decide (pkHash mp = 0))

/-- MODE_PARAM legal for group 06xxh (R164). -/
def kmModeOk (o : Op) (mp : Nat) : Bool :=
  let sub := kmSub mp
  let lim := kmLimit mp
  let takesLim := match o with | .genSym | .derive => true | .impWrap => decide (sub = 1) | _ => false
  decide (mp < 2 ^ 24) &&
  (decide (lim = 0) || (takesLim && decide (0x14 ≤ lim ∧ lim ≤ 0x3F))) &&
  (match o with
    | .impKem | .expKem => decide (kmPartner mp = 0x10 ∨ kmPartner mp = 0x11 ∨ kmPartner mp = 0x12 ∨ kmPartner mp = 0x22 ∨
        kmPartner mp = 0x23) && decide (0x30 ≤ sub ∧ sub ≤ 0x32)
    | .derive => decide (kmPartner mp = 0 ∧ (sub = 1 ∨ sub = 2))
    | .impWrap | .replace => decide (kmPartner mp = 0 ∧ sub ≤ 1)
    | _ => decide (kmPartner mp = 0 ∧ sub = 0))

/-- MODE_PARAM legal for the opcode. -/
def modeOk (o : Op) (d : Desc) : Bool :=
  if o.isSym then
    symModeOk (modeOf d.opcode) d.mode &&
    (match o with
      | .macVer => decide (tagLen (modeOf d.opcode) d.mode ≤ 16)
      | .decVer | .reencVer | .gmacGen | .gmacVer | .digVer | .macGen | .hash | .encrypt | .decrypt => !d.copyAad
      | _ => true)
  else if o.isPka then pkModeOk o d.mode
  else if o.isKm then kmModeOk o d.mode
  else match o with
    | .random => decide (d.mode ≤ 1)
    | _ => decide (d.mode = 0)

/-- AAD_LEN must be zero for every mode and opcode without AAD (R73, R124, R165). -/
def takesAad (o : Op) (d : Desc) : Bool :=
  let m := modeOf d.opcode
  match o with
  | .aeadEnc | .aeadDec | .gmacGen | .gmacVer => true
  | .decVer | .reencVer => isAead m
  | .sign | .verify => decide (pkAlg d.mode = 0x21 ∨ (0x38 ≤ pkAlg d.mode ∧ pkAlg d.mode ≤ 0x45))
  | .rsaEnc | .rsaDec | .derive | .impKem | .expKem => true
  | _ => false

/-- Policy bits of R150. -/
def polAlgs (p : Nat) : Nat := p / 2 ^ 32
def polLen (p : Nat) : Nat := bitsOf p 31 24
def polKind (p : Nat) : Nat := bitsOf p 23 16
def polHas (p i : Nat) : Bool := p.testBit i
def pHashOk : Nat := 11
def pCtxClear : Nat := 10
def pCallerIv : Nat := 9
def pDeviceIv : Nat := 8
def pExport : Nat := 7
def pUnwrap : Nat := 6
def pWrap : Nat := 5
def pDerive : Nat := 4
def pVerify : Nat := 3
def pSign : Nat := 2
def pDecrypt : Nat := 1
def pEncrypt : Nat := 0

/-- KEY_LEN allowed by one use of ALG_SET (R151). -/
def algLenOk (bit len : Nat) : Bool :=
  if bit = 3 then decide (len = 32 ∨ len = 64)
  else if bit ≤ 7 ∨ bit = 18 then decide (len = 16 ∨ len = 24 ∨ len = 32)
  else if bit = 8 ∨ bit = 17 then decide (len = 32)
  else if bit = 14 ∨ bit = 15 then decide (16 ≤ len ∧ len ≤ 64)
  else decide (1 ≤ len ∧ len ≤ 64)

/-- A policy legal for a new key (R152). `symOnly` marks opcodes that allow KIND 00h only. -/
def policyOk (p : Nat) (symOnly : Bool) : Bool :=
  decide (bitsOf p 15 12 = 0 ∧ polAlgs p < 2 ^ 19 ∧ p < 2 ^ 64) && !(polHas p pDeviceIv && polHas p pCallerIv) &&
  (if polKind p = 0 then
    decide (polAlgs p ≠ 0) && decide (1 ≤ polLen p ∧ polLen p ≤ 64) &&
      (List.range 19).all fun i => !(polAlgs p).testBit i || algLenOk i (polLen p)
  else
    !symOnly && pkAlgOk .keyGen (polKind p) && decide (polAlgs p = 0) &&
      (if polKind p = 1 then decide (32 ≤ polLen p ∧ polLen p ≤ 128) else decide (polLen p = 0)) &&
      usagesOk (polKind p) (p % 256))

/-- Bytes 48 to 55 by opcode: POLICY, a second handle in 48 to 51, OPERAND, or nothing (R121, R163, R365). -/
def ctxFieldBad (o : Op) (d : Desc) : Bool :=
  match o with
  | .genSym => !policyOk d.ctx true
  | .derive => !policyOk d.ctx true
  | .impWrap => if kmSub d.mode = 1 then !policyOk d.ctx false else decide (d.ctx ≠ 0)
  | .impKem | .expWrap => decide (d.ctx ≥ 2 ^ 32)
  | .replace => decide (d.ctx ≥ 2 ^ 32) || (decide (kmSub d.mode = 1) && decide (d.ctx ≠ 0))
  | .veAttest => decide (d.ctx ≥ 2 ^ 32)
  | .ctxInfo | .ctxClose => decide (d.ctx = 0 ∨ d.ctx % 64 ≠ 0)
  | .verify | .rsaEnc | .keyAgree | .kemEnc => decide (d.ctx = 0)
  | _ =>
    if o.isSym && (d.flag fCtxIn || d.flag fCtxOut) then decide (d.ctx = 0 ∨ d.ctx % 64 ≠ 0)
    else decide (d.ctx ≠ 0)

/-- SRC_LEN ranges that the opcode fixes (R123, R124, R172, R196, R227, R361, R365). -/
def srcLenBad (o : Op) (d : Desc) : Bool :=
  match o with
  | .kemDec => decide (d.srcLen ≠ (algSizes (pkAlg d.mode) 0).2.1)
  | .rsaDec => decide (d.aadLen ≤ d.srcLen ∧ d.dataLen ≠ 8 * pkModW d.mode)
  | .random => decide (48 < d.srcLen)
  | .veAttest => decide (d.srcLen ≠ 32)
  | .certInstall => decide (d.srcLen < 2704 ∨ 16384 < d.srcLen)
  | .impKem => decide (d.aadLen ≤ d.srcLen ∧ d.dataLen < (algSizes (kmSub d.mode) 0).2.1 + (algSizes (kmPartner d.mode) 0).1)
  | .expKem => decide (d.aadLen ≤ d.srcLen ∧ d.srcLen ≠ d.aadLen + (algSizes (kmSub d.mode) 0).1 + (algSizes (kmPartner d.mode) 0).1)
  | _ => (d.flag fSrcPeer || d.flag fDstPeer) && decide (d.srcLen < 17 ∨ 16 + 1048576 < d.srcLen)

/-- DST_CAP values that the opcode fixes (R98 to R100, R123, R196, R227), and R86 for a step that feeds. -/
def dstCapBad (o : Op) (d : Desc) (feeds : Bool) : Bool :=
  let m := modeOf d.opcode
  (match o with
    | .decVer => decide (d.dstCap ≠ d.dataLen)
    | .reencVer => decide (d.dstCap ≠ d.dataLen + (if isAead m then tagLen m d.mode else 0))
    | .digVer => decide (d.dstCap ≠ tagLen m d.mode)
    | .verify => decide (d.dstCap ≠ (algSizes (pkAlg d.mode) (pkModW d.mode)).2.1)
    | .random => decide (d.dstCap < 1 ∨ 65536 < d.dstCap)
    | _ => d.flag fDstPeer && decide (d.dstCap ≠ d.srcLen - 16)) ||
  (!hasDst o && decide (d.dstCap ≠ 0)) ||
  (feeds && decide (outLen o d 0 ≠ d.dstCap))

/-- The lowest offset among the broken field rules. -/
def lowestOf : List (Bool × Nat) → Option Nat
  | [] => none
  | (b, o) :: t =>
    match b, lowestOf t with
    | true, some p => some (min o p)
    | true, none => some o
    | false, r => r

/-- Offsets of descriptor fields: RP3, and RP1 where the field lies elsewhere (R41, R44). -/
def fieldOfs (ver rp3 : Nat) : Nat :=
  if ver = 1 then (if rp3 = 0x24 then 3 else if rp3 = 0x28 then 2 else if rp3 = 0x20 then 0x7C else rp3) else rp3

/-- Field rules of check 6 that need no memory (R41, R46, R62, R71 to R73, R76, R86, R121, R163, R196, R227): the offset of
the first offending field. `pred` is the preceding step and `eaten` says that the next step consumes this one; where this step cannot feed
it, DST 0 is the fault of the next step (R62). DESIGN CHOICE (log 174): an RP1 request that lacks the parameter block it needs has 02h. -/
def fieldBad (fn ver idx : Nat) (pred : Option Desc) (eaten : Bool) (o : Op) (d : Desc) : Option Nat :=
  let feeds := eaten && canFeed o d
  let m := modeOf d.opcode
  let eats := consumes d && mayConsume o d.mode
  let src := hasSrc o d.mode
  let predBad := match pred with
    | none => true
    | some p => match opOf fn p.opcode with
      | some po => !canFeed po p
      | none => true
  lowestOf
    [ (o.isSym && !keyed o m && d.flag fTagHandle, 2),
      (decide (d.srcLen = 0) && (d.flag fSrcSgl || d.flag fSrcPeer), 2),
      (feeds && (d.flag fDstSgl || d.flag fDstPeer), 2),
      (decide (ver = 1) && prmRequired ver o d && !d.hdr, 2),
      ((!keyed o m || d.flag fTagHandle) && decide (o ≠ .veAttest) && decide (d.key ≠ 0), 4),
      (d.flag fTagHandle && decide (d.key ≠ 0), 4),
      (!src && decide (d.src ≠ 0), 8),
      (decide (d.srcLen = 0) && decide (d.src ≠ 0) && !d.hdr, 8),
      (src && decide (0 < d.srcLen ∧ d.src = 0) && (!eats || decide (idx = 0) || predBad), 8),
      (d.hdr && decide (d.src = 0), 8),
      (d.flag fSrcSgl && decide (d.src % 16 ≠ 0), 8),
      (!hasDst o && decide (d.dst ≠ 0), 0x10),
      (hasDst o && decide (d.dst = 0) && !(eaten && !refersDst o), 0x10),
      (d.flag fDstSgl && decide (d.dst % 16 ≠ 0), 0x10),
      (!src && decide (d.srcLen ≠ 0), 0x18),
      (srcLenBad o d, 0x18),
      (eats && (match pred with | some p => decide (p.dstCap ≠ d.srcLen) | none => false), 0x18),
      (dstCapBad o d feeds, if ver = 1 then 0x18 else 0x1C),
      (!takesAad o d && decide (d.aadLen ≠ 0), 0x20),
      ((d.flag fSrcPeer || d.flag fDstPeer) && decide (d.aadLen ≠ 16), 0x20),
      (!modeOk o d, fieldOfs ver 0x24),
      (d.copyAad && (feeds || d.flag fDstPeer) && o.isSym, fieldOfs ver 0x24),
      (decide (ver ≠ 1) && !xtsInline ver o d &&
        ((prmRequired ver o d && decide (d.param = 0)) || (!prmAllowed ver o d && decide (d.param ≠ 0)) ||
          (decide (d.param ≠ 0) && decide (d.param % 64 ≠ 0))), 0x28),
      (ctxFieldBad o d, 0x30) ]

/-- Checks 1 to 4 and the field rules of check 6 (R45). -/
def staticBad (fn ver idx : Nat) (pred : Option Desc) (eaten : Bool) (d : Desc) : Bad :=
  match checkHead fn ver idx d with
  | some e => some e
  | none => match opOf fn d.opcode with
    | none => some (.descOpcode, 0)
    | some o => (fieldBad fn ver idx pred eaten o d).map fun x => (.descField, x)

/-! ### Check 6: parameter block and scatter lists -/

def prmIvLen (p : Bytes) : Nat := fld p 56 1
def prmIv (p : Bytes) : Bytes := slice p 0 (prmIvLen p)
def prmTag (p : Bytes) : Bytes := slice p 16 16
def prmObj (p : Bytes) : Bytes := slice p 32 16
def prmKcv (p : Bytes) : Bytes := slice p 48 8

def allZero (b : Bytes) : Bool := b.all fun x => decide (x = 0)

/-- IV_LEN legal for the request (R72, R87). -/
def ivLenOk (ver : Nat) (o : Op) (d : Desc) (n : Nat) : Bool :=
  let m := modeOf d.opcode
  if xtsInBlock ver o d then decide (n = 8)
  else if isKmacOp o d then decide (n ≤ 16)
  else if usesIv o d then
    (if m = 2 ∨ m = 3 then decide (n = 16)
     else if m = 5 ∨ m = 6 then decide (1 ≤ n ∧ n ≤ 16)
     else if m = 7 then decide (7 ≤ n ∧ n ≤ 13)
     else decide (n = 12))
  else decide (n = 0)

/-- Reserved bytes and illegal values of a parameter block (R46): RESULT of the first. -/
def prmBad (ver : Nat) (o : Op) (d : Desc) (p : Bytes) : Option Nat :=
  let t := if usesTag o d then tagLen (modeOf d.opcode) d.mode else 0
  let n := if usesIv o d || xtsInBlock ver o d || isKmacOp o d then prmIvLen p else 0
  lowestOf
    [ (!allZero (slice p n (16 - n)), 0x40),
      (!allZero (slice (prmTag p) t 16), 0x50),
      (!(d.flag fTagHandle || usesTagOut o d) && !allZero (prmObj p), 0x60),
      (!usesKcv o d && !allZero (prmKcv p), 0x70),
      (!ivLenOk ver o d (prmIvLen p), 0x78),
      (decide (fld p 57 3 ≠ 0), 0x79),
      ((decide (ver ≠ 1) || !takesAad o d) && decide (fld p 60 4 ≠ 0), 0x7C) ]

/-- What one entry of a scatter list does (R47): element, link to the next segment, or broken. -/
inductive SglEntry where
  | elem (addr len : Nat) (last : Bool)
  | link (addr : Nat)
  | bad
  deriving DecidableEq, Repr

def sglEntry (e : Bytes) : SglEntry :=
  let addr := fld e 0 8
  let len := fld e 8 4
  let fl := fld e 12 1
  if 4 ≤ fl ∨ fld e 13 3 ≠ 0 ∨ fl = 3 then .bad
  else if fl = 2 then (if len = 0 ∧ addr % 16 = 0 then .link addr else .bad)
  else if len = 0 then .bad
  else .elem addr len (decide (fl = 1))

end Sys2Proof.Machine
end

