-- ==== Sys2Proof/Machine/Crypto.lean ====
section
/-!
DEFINITION. The modes of R69 over the primitives of the standards (R72, R87 to R90): a message as segments whose chaining
state is the STATE of a streaming context (R89), and derivation and wrapping on cipher lanes (R168).
-/
namespace Sys2Proof.Machine

open Sys2Proof

/-! ### Blocks -/

/-- Cut a string into pieces of `n` bytes, the last one possibly shorter. -/
def chunksOf : Nat → Nat → Bytes → List Bytes
  | 0, _, _ => []
  | fuel + 1, n, b => if b.isEmpty then [] else b.take n :: chunksOf fuel n (b.drop n)

def blocksOf (n : Nat) (b : Bytes) : List Bytes := chunksOf (b.length + 1) n b

def aesEnc (key blk : Bytes) : Bytes := primBytes .aesEnc [key, blk] 16
def aesDec (key blk : Bytes) : Bytes := primBytes .aesDec [key, blk] 16

/-- AES-ECB over whole blocks. -/
def ecb (dec : Bool) (key data : Bytes) : Bytes := (blocksOf 16 data).flatMap fun b => if dec then aesDec key b else aesEnc key b

/-- AES-CBC over whole blocks: output and last chaining value (SP 800-38A). -/
def cbc (dec : Bool) (key : Bytes) : Bytes → List Bytes → Bytes × Bytes
  | cv, [] => ([], cv)
  | cv, b :: t =>
    let o := if dec then xorB (aesDec key b) cv else aesEnc key (xorB b cv)
    let r := cbc dec key (if dec then b else o) t
    (o ++ r.1, r.2)

/-- Counter block advanced by `i` in its low `w` bits, big-endian (R72). -/
def ctrAdd (blk : Bytes) (w i : Nat) : Bytes :=
  let v := ofBe blk
  be 16 (v - v % 2 ^ w + (v % 2 ^ w + i) % 2 ^ w)

/-- Data under a keystream of 16-byte blocks from a counter block. -/
def ctrData (key blk : Bytes) (w : Nat) (data : Bytes) : Bytes :=
  ((blocksOf 16 data).zipIdx).flatMap fun e => xorB e.1 (aesEnc key (ctrAdd blk w e.2))

/-- XTS over whole data units, numbered from `num` (IEEE 1619). -/
def xtsData (dec : Bool) (key : Bytes) (unit num : Nat) (data : Bytes) : Bytes :=
  ((blocksOf unit data).zipIdx).flatMap fun e => primBytes (.xts dec) [key, le 16 (num + e.2), e.1] e.1.length

/-- ChaCha20 keystream from a block counter (RFC 8439). -/
def chachaData (key nonce : Bytes) (ctr : Nat) (data : Bytes) : Bytes :=
  ((blocksOf 64 data).zipIdx).flatMap fun e => xorB e.1 (primBytes .chachaBlock [key, nonce, le 4 (ctr + e.2)] 64)

/-- J0 of GCM (R72). -/
def gcmJ0 (key iv : Bytes) : Bytes := if iv.length = 12 then iv ++ [0, 0, 0, 1] else primBytes .gcmJ0 [key, iv] 16

/-! ### Segments (R87, R89) -/

/-- Length of the unit that a non-final segment is made of (R87). -/
def segUnit (m : Nat) : Nat :=
  if m = 9 then 64 else if m < 0x10 then 16
  else match m with
    | 0x10 | 0x11 | 0x20 | 0x21 => 64
    | 0x12 | 0x13 | 0x14 | 0x22 | 0x23 | 0x24 => 128
    | 0x18 => 136 | 0x19 => 104 | 0x1A => 72 | 0x1C => 168 | 0x1D => 136 | 0x28 => 168 | 0x29 => 136
    | _ => 1

/-- Chaining value length of the hash of a mode: 32 or 64 for SHA-2, 200 for Keccak. -/
def cvLen (m : Nat) : Nat :=
  match m with
  | 0x10 | 0x11 | 0x20 | 0x21 => 32
  | 0x12 | 0x13 | 0x14 | 0x22 | 0x23 | 0x24 => 64
  | _ => 200

/-- Where a hash state keeps its byte count, and the count's width (R89). -/
def cntAt (m : Nat) : Nat := cvLen m
def cntLen (m : Nat) : Nat := if cvLen m = 32 then 8 else if cvLen m = 64 then 16 else 0
/-- Where an HMAC state keeps its outer chaining value. -/
def outerAt (m : Nat) : Nat := if cvLen m = 32 then 40 else 80

/-- Listed bytes of STATE by mode (R89): offset and length of each field. -/
def stateFields (m : Nat) : List (Nat × Nat) :=
  if m = 2 ∨ m = 3 then (if m = 2 then [(0, 17), (24, 8)] else [(0, 18), (24, 8)])
  else if m = 5 ∨ m = 6 then [(0, 66), (68, 4), (72, 8)]
  else if m = 9 then [(0, 49), (52, 33), (88, 4), (92, 8)]
  else if m = 8 then [(0, 16), (24, 8)]
  else if isHmac m then [(0, cntAt m + cntLen m), (outerAt m, cvLen m)]
  else [(0, cntAt m + cntLen m)]

/-- Every byte of STATE that its mode does not list is zero (R91). -/
def unlistedZero (m : Nat) (st : Bytes) : Bool :=
  (List.range 200).all fun i => (stateFields m).any (fun f => decide (f.1 ≤ i ∧ i < f.1 + f.2)) || decide (st[i]? = some 0)

/-- Place fields into a STATE of zeros. -/
def putFields (fs : List (Nat × Bytes)) : Bytes :=
  fs.foldl (fun st f => st.take f.1 ++ f.2 ++ st.drop (f.1 + f.2.length)) (zeros 200)

/-- IVAL of a caller IV (R89). -/
def allOnes : Nat := 2 ^ 64 - 1

/-- What STATE says of a message: AAD and data bytes so far, DIR, tag length, w, SEG and IVAL. -/
structure Prior where
  aad  : Nat := 0
  data : Nat := 0
  dir  : Option Nat := none
  tag  : Option Nat := none
  w    : Option Nat := none
  seg  : Nat := 0
  ival : Nat := allOnes
  deriving DecidableEq, Repr

def priorOf (m : Nat) (st : Bytes) : Prior :=
  if m = 2 then { data := fld st 24 8, dir := some (fld st 16 1) }
  else if m = 3 then { data := fld st 24 8, dir := some (fld st 17 1), w := some (fld st 16 1) }
  else if m = 5 ∨ m = 6 then
    { aad := fld st 48 8, data := fld st 56 8, dir := some (fld st 65 1), tag := some (fld st 64 1), seg := fld st 68 4, ival := fld st 72 8 }
  else if m = 9 then { aad := fld st 68 8, data := fld st 76 8, dir := some (fld st 84 1), seg := fld st 88 4, ival := fld st 92 8 }
  else if m = 8 then { data := fld st 24 8 }
  else { data := fld st (cntAt m) (cntLen m) }

/-- Counts within the limits of R73. -/
def countsOk (m : Nat) (p : Prior) : Bool :=
  if m = 5 then decide (p.data ≤ 2 ^ 36 - 32 ∧ p.aad ≤ 2 ^ 61 - 1)
  else if m = 6 then decide (p.data = 0 ∧ p.aad ≤ 2 ^ 61 - 1)
  else if m = 9 then decide (p.data ≤ 2 ^ 38 - 64)
  else if m = 3 then decide (ceilDiv p.data 16 ≤ 2 ^ p.w.getD 0)
  else if cntLen m = 8 then decide (p.data < 2 ^ 61)
  else if cntLen m = 16 then decide (p.data < 2 ^ 125)
  else true

/-- Inputs of one segment. `st` is the STATE restored, none for a new message; `iv` the IV in force. -/
structure Seg where
  m     : Nat
  mp    : Nat
  dec   : Bool
  key   : Bytes
  st    : Option Bytes
  iv    : Bytes
  aad   : Bytes
  data  : Bytes
  final : Bool
  num   : Nat := 0
  /-- Stream mark that a saved context carries. -/
  seg   : Nat := 0
  ival  : Nat := allOnes
  deriving DecidableEq, Repr

/-- What a segment yields: output stream, the STATE to save, the tag or digest of a final one. -/
structure SegOut where
  out : Bytes
  st  : Bytes := zeros 200
  tag : Bytes := []
  deriving DecidableEq, Repr

def dirByte (dec : Bool) : Bytes := [if dec then 1 else 0]

def segCbc (x : Seg) : SegOut :=
  let cv := match x.st with | some st => slice st 0 16 | none => x.iv
  let n := match x.st with | some st => fld st 24 8 | none => 0
  let r := cbc x.dec x.key cv (blocksOf 16 x.data)
  { out := r.1, st := putFields [(0, r.2), (16, dirByte x.dec), (24, le 8 (n + x.data.length))] }

def segCtr (x : Seg) : SegOut :=
  let cb := match x.st with | some st => slice st 0 16 | none => x.iv
  let n := match x.st with | some st => fld st 24 8 | none => 0
  { out := ctrData x.key cb x.mp x.data
    st := putFields [(0, ctrAdd cb x.mp (ceilDiv x.data.length 16)), (16, le 1 x.mp), (17, dirByte x.dec),
                     (24, le 8 (n + x.data.length))] }

/-- GCM and GMAC. -/
def segGcm (x : Seg) : SegOut :=
  let j0 := match x.st with | some st => slice st 16 16 | none => gcmJ0 x.key x.iv
  let cb := match x.st with | some st => slice st 0 16 | none => ctrAdd j0 32 1
  let acc := match x.st with | some st => slice st 32 16 | none => zeros 16
  let na := (match x.st with | some st => fld st 48 8 | none => 0) + x.aad.length
  let nd := (match x.st with | some st => fld st 56 8 | none => 0) + x.data.length
  let o := ctrData x.key cb 32 x.data
  let acc := primBytes .ghash [x.key, acc, x.aad, if x.dec then x.data else o] 16
  { out := o
    st := putFields [(0, ctrAdd cb 32 (ceilDiv x.data.length 16)), (16, j0), (32, acc), (48, le 8 na), (56, le 8 nd),
                     (64, le 1 (tagLen x.m x.mp)), (65, dirByte x.dec), (68, le 4 x.seg), (72, le 8 x.ival)]
    tag := (primBytes .gcmTag [x.key, j0, acc, be 8 (8 * na) ++ be 8 (8 * nd)] 16).take (tagLen x.m x.mp) }

def segChacha (x : Seg) : SegOut :=
  let nonce := match x.st with | some st => slice st 56 12 | none => x.iv
  let ctr := match x.st with | some st => fld st 52 4 | none => 1
  let otk := match x.st with | some st => slice st 0 32 | none => primBytes .polyKey [x.key, x.iv] 32
  let acc := match x.st with | some st => slice st 32 17 | none => zeros 17
  let na := (match x.st with | some st => fld st 68 8 | none => 0) + x.aad.length
  let nd := (match x.st with | some st => fld st 76 8 | none => 0) + x.data.length
  let o := chachaData x.key nonce ctr x.data
  let acc := primBytes .poly [otk, acc, x.aad, if x.dec then x.data else o] 17
  { out := o
    st := putFields [(0, otk), (32, acc), (52, le 4 (ctr + ceilDiv x.data.length 64)), (56, nonce), (68, le 8 na), (76, le 8 nd),
                     (84, dirByte x.dec), (88, le 4 x.seg), (92, le 8 x.ival)]
    tag := primBytes .polyTag [otk, acc, le 8 na ++ le 8 nd] 16 }

/-- CCM, within one request: the tag is that of the plaintext. -/
def segCcm (x : Seg) : SegOut :=
  let t := tagLen x.m x.mp
  let o := primBytes (.ccm x.dec) [x.key, x.iv, x.aad, x.data, le 1 t] x.data.length
  { out := o, tag := primBytes .ccmTag [x.key, x.iv, x.aad, if x.dec then o else x.data, le 1 t] t }

def segCmac (x : Seg) : SegOut :=
  let cv := match x.st with | some st => slice st 0 16 | none => zeros 16
  let n := match x.st with | some st => fld st 24 8 | none => 0
  { out := []
    st := putFields [(0, primBytes .cmacStep [x.key, cv, x.data] 16), (24, le 8 (n + x.data.length))]
    tag := (primBytes .cmacEnd [x.key, cv, x.data] 16).take (tagLen x.m x.mp) }

/-- SHA-2, SHA3, SHAKE, HMAC and KMAC. An empty value stands for the standard's initial value. A truncated HMAC tag is the head of the full
one; the output length is an input of KMAC (R72, R86). -/
def segHash (x : Seg) : SegOut :=
  let h := if isHmac x.m then x.m - 0x10 else x.m
  let keyed := isHmac x.m || isKmac x.m
  let new := primBytes (.macInit x.m) [x.key, x.iv] (cvLen x.m + (if isHmac x.m then cvLen x.m else 0))
  let cv := match x.st with | some st => slice st 0 (cvLen x.m) | none => if keyed then new.take (cvLen x.m) else []
  let outer := match x.st with | some st => slice st (outerAt x.m) (cvLen x.m) | none => new.drop (cvLen x.m)
  let n := match x.st with | some st => fld st (cntAt x.m) (cntLen x.m) | none => if isHmac x.m then segUnit x.m else 0
  let t := tagLen x.m x.mp
  let cnt := le (cntLen x.m) (n + x.data.length)
  { out := []
    st := putFields ([(0, primBytes (.hashStep h) [cv, x.data] (cvLen x.m)), (cntAt x.m, cnt)] ++
      (if isHmac x.m then [(outerAt x.m, outer)] else []))
    tag :=
      if isHmac x.m then primBytes (.macEnd x.m) [cv ++ outer, x.data, le 16 n] t
      else if isKmac x.m then primBytes (.macEnd x.m) [cv, x.data, le 16 n, le 4 t] t
      else primBytes (.hashEnd x.m) [cv, x.data, le 16 n] t }

/-- One segment under its mode. -/
def runSeg (x : Seg) : SegOut :=
  if x.m = 1 then { out := ecb x.dec x.key x.data }
  else if x.m = 2 then segCbc x
  else if x.m = 3 then segCtr x
  else if x.m = 4 then { out := xtsData x.dec x.key (x.mp % 2 ^ 25) x.num x.data }
  else if x.m = 5 ∨ x.m = 6 then segGcm x
  else if x.m = 7 then segCcm x
  else if x.m = 9 then segChacha x
  else if x.m = 8 then segCmac x
  else segHash x

/-! ### Whole messages -/

/-- CMAC of a message, 16 bytes. -/
def cmac (key data : Bytes) : Bytes := primBytes .cmacEnd [key, zeros 16, data] 16

/-- HMAC of a message in full, by mode code. -/
def hmac (m : Nat) (key data : Bytes) : Bytes :=
  (segHash { m := m, mp := 0, dec := false, key := key, st := none, iv := [], aad := [], data := data, final := true }).tag

/-- SP 800-108 counter mode: 32-bit counter from 1, label, zero byte, context, 32-bit length in bits (R168). -/
def kdfCounter (prf : Bytes → Bytes) (prfLen len : Nat) (label context : Bytes) : Bytes :=
  ((List.range (ceilDiv len prfLen)).flatMap fun i =>
    prf (be 4 (i + 1) ++ label ++ [0] ++ context ++ be 4 (8 * len))).take len

def kdfCmac (key label context : Bytes) (len : Nat) : Bytes := kdfCounter (cmac key) 16 len label context
def kdfHmac384 (key label context : Bytes) (len : Nat) : Bytes := kdfCounter (hmac 0x22 key) 48 len label context

/-- SHA-384 of a string (R294, R336). -/
def sha384 (b : Bytes) : Bytes := primBytes .sha384 [b] 48

/-- KWP of SP 800-38F. -/
def kwpWrap (key b : Bytes) : Bytes := primBytes .kwpWrap [key, b] (8 * ceilDiv b.length 8 + 8)
def kwpOk (key b : Bytes) : Bool := Config.test .kwp [key, b]
def kwpOpen (key b : Bytes) : Bytes := primBytes .kwpUnwrap [key, b] (Config.primLen .kwpUnwrap [key, b])

/-- AES-256-GCM of one object: ciphertext and tag. -/
def gcmSeal (key iv aad text : Bytes) : Bytes × Bytes :=
  let o := primBytes .gcmSeal [key, iv, aad, text] (text.length + 16)
  (o.take text.length, o.drop text.length)
def gcmOpenOk (key iv aad text tag : Bytes) : Bool := Config.test .gcmOpen [key, iv, aad, text, tag]
def gcmOpen (key iv aad text : Bytes) : Bytes := primBytes .gcmOpen [key, iv, aad, text] text.length

end Sys2Proof.Machine
end

