-- ==== Sys2Proof/Machine/Flags.lean ====
section
/-!
DEFINITION. Status codes (R411, R414, R267), the PHASE_FLAGS byte (R51) and completion entries (R39, R50, R53), and the
counters that a completion moves (R299).
-/
namespace Sys2Proof.Machine

open Sys2Proof

/-- Request status codes (R411). -/
def Status.code : Status → Nat
  | .ok => 0x0000 | .verifyMismatch => 0x0001
  | .descOpcode => 0x0101 | .descFlags => 0x0102 | .descVersion => 0x0103 | .chainTooLong => 0x0104 | .descField => 0x0105
  | .keyInvalidHandle => 0x0201 | .keyStale => 0x0202 | .keyPolicy => 0x0203 | .keyRevoked => 0x0204 | .keyErased => 0x0205
  | .keyExhausted => 0x0206 | .keyAmbiguous => 0x0207 | .keyNotFound => 0x0208 | .replacePending => 0x0209
  | .keyFrozen => 0x020A
  | .lenAlign => 0x0301 | .lenLimit => 0x0302 | .lenAad => 0x0303 | .destOverflow => 0x0304 | .counterWrap => 0x0305
  | .memDecode => 0x0401 | .memError => 0x0402 | .memTimeout => 0x0403 | .chainLoop => 0x0404 | .memPoison => 0x0405
  | .authFail => 0x0501 | .faultDetected => 0x0502 | .notReady => 0x0503 | .safeState => 0x0504 | .abortedReset => 0x0505
  | .quota => 0x0506
  | .rngHalted => 0x0601 | .rngAdvent => 0x0602
  | .lifecycleDenied => 0x0701 | .peerFailed => 0x0801 | .contextInvalid => 0x0901 | .contextVersion => 0x0902

/-- The operation ran to its end (R409). -/
def Status.ran (s : Status) : Bool := decide (s = .ok ∨ s = .verifyMismatch)

/-- AAP codes (R414). -/
def AapCode.code : AapCode → Nat
  | .ok => 0 | .noEntry => 1 | .access => 2 | .type => 3 | .range => 4 | .busy => 5 | .inconsistent => 6 | .lifecycle => 7
  | .version => 8

/-- VE_STATE (R253), MIG_STATE (R237), RING_STATE (R32), CHAN_STATE (R201), RNG_STATE (R198), LC_PHASE (R298). -/
def VeState.code : VeState → Nat
  | .absent => 0 | .running => 1 | .quiesced => 2 | .resetting => 3 | .freezing => 4 | .frozen => 5 | .restored => 6
  | .destroying => 7
def MigState.code : MigState → Nat
  | .none => 0 | .opened => 1 | .saved => 2 | .restored => 3 | .released => 4
def RingState.code : RingState → Nat
  | .disabled => 0 | .running => 1 | .draining => 2 | .error => 3 | .frozen => 4
def ChanState.code : ChanState → Nat
  | .disabled => 0 | .idle => 1 | .running => 2 | .stopping => 3 | .frozen => 4 | .error => 5
def RngState.code : RngState → Nat
  | .advent => 0 | .running => 1 | .halted => 2
def LcPhase.code : LcPhase → Nat
  | .none => 0 | .verified => 1 | .keysDestroyed => 2 | .stateWritten => 3 | .done => 4
def SlotState.code : SlotState → Nat
  | .free => 0 | .active => 1 | .replacing => 2 | .erasing => 3 | .retired => 4

/-- Phase bit of completion entry `n` in a ring of 2^k entries (R39). -/
def phaseBit (n : U32) (k : Nat) : Bool := decide (n.toNat / 2 ^ k % 2 = 0)

/-- The PHASE_FLAGS byte (R51). Bits 4 and 5 are zero under RP1 (R53). No entry is written after the safe-state barrier
(R412), so POISONED is never set in one. -/
def phaseFlags (ver : Nat) (phase notRun discard spilled flip fetchFail : Bool) : Nat :=
  ofBool phase + 2 * ofBool notRun + 4 * ofBool discard +
  (if ver = 1 then 0 else 16 * ofBool spilled + 32 * ofBool flip) + 64 * ofBool fetchFail

/-- A completion entry of 16 bytes (R50, R53). -/
def cqEntry (ver tag status flags idx result : Nat) : Bytes :=
  if ver = 1 then le 4 tag ++ le 2 status ++ le 1 flags ++ zeros 1 ++ le 4 result ++ zeros 4
  else le 8 tag ++ le 2 status ++ le 1 flags ++ le 1 (if ver = 2 then 0 else min idx 255) ++ le 4 result

/-- A completion counts for the block and for its function (R299). -/
def countEnd (s : State) (f : Nat) (st : Status) : State :=
  let s := { s with cnt := if st.ran then { s.cnt with reqOk := u64 (s.cnt.reqOk + 1) }
                            else { s.cnt with reqFailed := u64 (s.cnt.reqFailed + 1) } }
  modStat s f fun r =>
    { r with
      reqOk := if st.ran then u64 (r.reqOk + 1) else r.reqOk
      reqFailed := if st.ran then r.reqFailed else u64 (r.reqFailed + 1)
      quotaFails := if st = .quota then r.quotaFails + 1 else r.quotaFails
      intReq := u64 (r.intReq + 1) }

/-- Source units of 256 bytes, rounded up (R299). -/
def units256 (n : Nat) : Nat := ceilDiv n 256

/-- Source units through a cipher lane or a hash lane. -/
def countUnits (s : State) (f : Nat) (lane : Bool) (n : Nat) : State :=
  let u := units256 n
  let s := { s with cnt := if lane then { s.cnt with cipherUnits := u64 (s.cnt.cipherUnits + u) }
                            else { s.cnt with hashUnits := u64 (s.cnt.hashUnits + u) } }
  modStat s f fun r =>
    { r with
      cipher := if lane then u64 (r.cipher + u) else r.cipher
      hash := if lane then r.hash else u64 (r.hash + u)
      intUnits := u64 (r.intUnits + u) }

end Sys2Proof.Machine
end

