-- ==== Sys2Proof/Machine/Vault.lean ====
section
/-!
DEFINITION. The key vault (R141 to R162): tree leaves and paths, updates and their effect points, allocation, the key cache
and its references, erasure of slots.
-/
namespace Sys2Proof.Machine

open Sys2Proof

/-! ### Secrets of the unit (R337, R346, R349) -/

/-- Fuse words as bytes, byte `i` from bits 8i + 7 to 8i (R388, R389). -/
def fuseBytes (s : State) (from_ n : Nat) : Bytes :=
  (List.range n).map fun i => BitVec.ofNat 8 (tget 0 s.bring.fuse ((from_ + i) / 4) / 256 ^ ((from_ + i) % 4))

/-- UNIT_SECRET and MAKER_AUTH_HASH (R337). -/
def unitSecret (s : State) : Bytes := fuseBytes s 0 32
def makerHash (s : State) : Bytes := fuseBytes s 32 24

def ascii (t : String) : Bytes := t.toList.map fun c => BitVec.ofNat 8 c.toNat

/-- The NV key (R349), the vault root key (R346), and the vault record key (R144). -/
def nvKey (s : State) : Bytes := kdfCmac (unitSecret s) (ascii "NH1600 NVKEY") [] 32
def vaultRoot (s : State) : Bytes :=
  kdfCmac (unitSecret s) (ascii "NH1600 VAULTROOT") (be 1 s.life.state ++ be 4 s.life.count) 32
def recordKey (s : State) : Bytes := primBytes .vaultKey [vaultRoot s, le 8 s.vault.inc] 32

/-! ### Lines and paths (R141, R145) -/

/-- Leaves of the tree: slot lines, shadow lines, large-key records, lines of function records. -/
def leafSlot (i : Nat) : Nat := i / 8
def leafShadow (i : Nat) : Nat := 2 ^ 21 + i / 8
def leafLarge (i : Nat) : Nat := 2 ^ 21 + 2 ^ 13 + i
def leafFn (f : Nat) : Nat := 2 ^ 21 + 2 ^ 13 + 2 ^ 16 + f / 8

/-- Bytes of a line: 8 records of 128 bytes, or the first part of the frame of a large-key record, which leaves the 448 bytes of
vault metadata behind it alone (R141). -/
def leafBytes (leaf : Nat) : Nat :=
  if leafLarge 0 ≤ leaf ∧ leaf < leafFn 0 then 3648 else 1024

/-- The five stored levels above a leaf: level and node. -/
def pathOf (leaf : Nat) : List TreePos := (List.range 5).map fun k => (k + 1, leaf / 8 ^ (k + 1))

/-- Where a line (level 0) or a node lies in the region; the arrangement is opaque (R142). -/
def posAddr (s : State) (p : TreePos) : Nat := vaultBase s + Config.vaultOffset p.1 p.2 % 2415919104

/-- Bytes of a line or a node. -/
def posLen (p : TreePos) : Nat := if p.1 = 0 then leafBytes p.2 else 64

/-- Insert a number into a list without repeats. -/
def addNew (l : List Nat) (x : Nat) : List Nat := if l.contains x then l else l ++ [x]

/-- Verified nodes, most recent first, at most 8,192 (R145). Outside bring-up and service the cache is held zero (R180). -/
def cacheNodes (s : State) (ns : List (TreePos × Bytes)) : State :=
  if !coreUp s then s
  else { s with vault := { s.vault with
    nodes := (ns ++ s.vault.nodes.filter fun n => !(ns.map Prod.fst).contains n.1).take 8192 } }

/-! ### Records as written (R144, R149) -/

/-- One record under the record key: the IV is its kind and index with its write count, the AAD its kind, index and generation. -/
def sealRec (s : State) (kind i count gen len : Nat) (contents : Bytes) : Bytes :=
  let head := be 1 kind ++ be 3 i
  primBytes .vaultRec [recordKey s, head ++ be 8 count, head ++ le 4 gen, contents] len

def markBytes (m : Option (Nat × Nat)) : Bytes :=
  match m with | none => zeros 13 | some p => le 1 1 ++ le 8 p.1 ++ le 4 p.2

/-- What a slot record holds (R149); the pointers name records by number plus one. -/
def slotBytes (r : SlotRec) : Bytes :=
  le 1 r.state.code ++ le 1 r.epoch ++ le 4 r.gen ++ le 2 r.owner ++ le 8 r.policy ++ fit 16 r.tag ++ le 4 r.fixed ++ le 9 r.invRes ++
  le 9 r.blkRes ++ le 8 r.blkLim ++ markBytes r.mark ++ le 3 (r.shadow.elim 0 fun h => h.idx + 1) ++ le 3 (r.large.elim 0 (· + 1)) ++
  le 8 r.wc ++ (if r.large.isSome then [] else r.mat)

/-- A line as the block last wrote it. -/
def lineBytes (s : State) (leaf : Nat) : Bytes :=
  if leaf < leafShadow 0 then
    (List.range 8).flatMap fun k =>
      let r := getSlot s (8 * leaf + k)
      sealRec s 1 (8 * leaf + k) r.wc r.gen 128 (slotBytes r)
  else if leaf < leafLarge 0 then
    (List.range 8).flatMap fun k =>
      let i := 8 * (leaf - leafShadow 0) + k
      match s.vault.slots.findSome? fun e => e.2.shadow.bind fun h => if h.idx = i then some h else none with
      | some h => sealRec s 2 i h.wc h.gen 128 (le 3 h.slot ++ le 4 h.gen ++ fit 8 h.kcv ++ h.mat)
      | none => sealRec s 2 i (tget 0 s.vault.scrubbed (2 * 2 ^ 24 + i)) 0 128 []
  else if leaf < leafFn 0 then
    let i := leaf - leafLarge 0
    match s.vault.slots.find? fun e => decide (e.2.large = some i) with
    | some e => sealRec s 3 i e.2.lwc 0 3648 e.2.mat
    | none => sealRec s 3 i (tget 0 s.vault.scrubbed (3 * 2 ^ 24 + i)) 0 3648 []
  else
    (List.range 8).flatMap fun k =>
      let i := 8 * (leaf - leafFn 0) + k
      let r := getFn s i
      sealRec s 4 i r.wc 0 128 (r.ctxKey ++ le 9 r.ctxRes ++ le 1 (ofBool r.frozenMark))

/-! ### The tree (R145) -/

/-- Key of a node held on die. -/
def dieKey (p : TreePos) : Nat := p.1 * 2 ^ 24 + p.2

/-- A node at hand: on die, from level 6 up, or in the node cache. -/
def nodeHeld (s : State) (p : TreePos) : Option Bytes :=
  if 6 ≤ p.1 then some (tget (zeros 64) s.vault.die (dieKey p)) else (s.vault.nodes.find? fun n => decide (n.1 = p)).map Prod.snd

/-- MAC of a child in its node, by the child's index. -/
def childMac (node : Bytes) (i : Nat) : Bytes := slice node (8 * (i % 8)) 8
def setMac (node : Bytes) (i : Nat) (m : Bytes) : Bytes := node.take (8 * (i % 8)) ++ m ++ node.drop (8 * (i % 8) + 8)

/-- MAC over a child's contents and position; a computed zero is stored as 1. -/
def treeMac (s : State) (p : TreePos) (contents : Bytes) : Bytes :=
  let m := primBytes .vaultMac [recordKey s, le 1 p.1 ++ le 4 p.2, contents] 8
  if allZero m then le 8 1 else m

/-- A node at hand says that the subtree of the line is empty. -/
def lineEmpty (s : State) (leaf : Nat) : Bool :=
  (List.range 8).any fun k =>
    match nodeHeld s (k + 1, leaf / 8 ^ (k + 1)) with
    | some n => allZero (childMac n (leaf / 8 ^ k))
    | none => false

/-- Stored nodes of a line's path that are not at hand. -/
def missing (s : State) (leaf : Nat) : List TreePos := (pathOf leaf).filter fun p => (nodeHeld s p).isNone

/-- What the walker reads for some lines, all at once: each line and the nodes missing above it (R146). -/
def walkItems (s : State) (leaves : List Nat) : List TreePos := (leaves.flatMap fun l => (0, l) :: missing s l).eraseDups

/-- The reads of some lines and nodes, named by their addresses. -/
def itemPieces (s : State) (items : List TreePos) : List (Nat × Nat × Nat) :=
  items.flatMap fun p => (piecesOf (posAddr s p) (posLen p)).map fun x => (x.2.1, x.2)

/-- Bytes of a line or a node: at hand, or as read. -/
def gotAt (s : State) (chunks : List (Nat × Bytes)) (p : TreePos) : Bytes :=
  match (if p.1 = 0 then none else nodeHeld s p) with
  | some b => b
  | none => joinChunks (chunks.filter fun c => decide (posAddr s p ≤ c.1 ∧ c.1 < posAddr s p + posLen p))

/-- Outcome of the check of a line: its subtree is empty, its MACs match up to the first node on die, or one does not. -/
inductive Verdict where
  | empty | good | bad
  deriving DecidableEq, Repr

/-- The check from a node at level `k` down to the line. -/
def verifyFrom (s : State) (got : TreePos → Bytes) (leaf : Nat) : Nat → Bytes → Verdict
  | 0, _ => .good
  | k + 1, node =>
    let m := childMac node (leaf / 8 ^ k)
    if allZero m then .empty
    else
      let child := got (k, leaf / 8 ^ k)
      if m = treeMac s (k, leaf / 8 ^ k) child then verifyFrom s got leaf k child else .bad

def verifyLine (s : State) (chunks : List (Nat × Bytes)) (leaf : Nat) : Verdict :=
  if s.vault.damaged.contains leaf then .bad
  else verifyFrom s (gotAt s chunks) leaf 6 ((nodeHeld s (6, leaf / 8 ^ 6)).getD [])

/-- Contents of the path of a verified line, from level 6 down; below a MAC of zero every node is zero. -/
def pathFrom (got : TreePos → Bytes) (leaf : Nat) : Nat → Bytes → List (TreePos × Bytes)
  | 0, _ => []
  | k + 1, node =>
    ((k + 1, leaf / 8 ^ (k + 1)), node) ::
      pathFrom got leaf k (if allZero (childMac node (leaf / 8 ^ k)) then zeros 64 else got (k, leaf / 8 ^ k))

def pathNodes (s : State) (chunks : List (Nat × Bytes)) (leaf : Nat) : List (TreePos × Bytes) :=
  let die (k : Nat) : TreePos × Bytes := ((k, leaf / 8 ^ k), (nodeHeld s (k, leaf / 8 ^ k)).getD [])
  die 8 :: die 7 :: pathFrom (gotAt s chunks) leaf 6 (die 6).2

/-- Verified nodes of a line's path that exist. -/
def verifiedNodes (s : State) (chunks : List (Nat × Bytes)) (leaf : Nat) : List (TreePos × Bytes) :=
  (pathNodes s chunks leaf).filter fun n => decide (n.1.1 < 6) && !allZero n.2

def nodeOf (w : List (TreePos × Bytes)) (p : TreePos) : Bytes := ((w.find? fun n => decide (n.1 = p)).map Prod.snd).getD (zeros 64)
def putNode (w : List (TreePos × Bytes)) (p : TreePos) (b : Bytes) : List (TreePos × Bytes) :=
  (p, b) :: w.filter fun n => decide (n.1 ≠ p)

/-- New MACs from a changed line or node up to the root. -/
def climb (s : State) (leaf : Nat) : Nat → Nat → Bytes → List (TreePos × Bytes) → List (TreePos × Bytes)
  | 0, _, _, w => w
  | fuel + 1, k, contents, w =>
    let p : TreePos := (k + 1, leaf / 8 ^ (k + 1))
    let n := setMac (nodeOf w p) (leaf / 8 ^ k) (treeMac s (k, leaf / 8 ^ k) contents)
    climb s leaf fuel (k + 1) n (putNode w p n)

/-! ### Slots -/

/-- Effective state of a slot: 0 to 5 as R153 codes them; ERASING holds from step 1 of the erase, and FROZEN while the
owner's record carries the freeze mark (R154). -/
def slotCode (s : State) (i : Nat) : Nat :=
  let r := getSlot s i
  if r.state = .free then 0
  else if r.state = .erasing ∨ s.vault.erasing.contains i ∨ s.vault.noted.contains i then 3
  else if (getFn s r.owner).frozenMark then 5
  else r.state.code

/-- The smallest number not in a list, from `n`. -/
def mex : Nat → Nat → List Nat → Nat
  | 0, n, _ => n
  | fuel + 1, n, l => if l.contains n then mex fuel (n + 1) l else n

/-- Records that updates not yet in effect will put. -/
def puttingLarge (s : State) : List Nat :=
  s.vault.updates.flatMap fun u => u.ops.filterMap fun o => match o with | .put _ r => r.large | _ => none
def puttingShadow (s : State) : List Nat :=
  s.vault.updates.flatMap fun u => u.ops.filterMap fun o => match o with | .toReplacing _ h => some h.idx | _ => none

/-- A free large-key record and a free shadow record: the lowest-numbered that nothing holds (DESIGN CHOICE, log 158), `also` taken among
those held. -/
def freeLargeBut (s : State) (also : List Nat) : Nat :=
  let used := also ++ s.vault.slots.filterMap (fun e => e.2.large) ++ puttingLarge s ++
    (s.vault.damaged.filter fun l => decide (leafLarge 0 ≤ l ∧ l < leafFn 0)).map fun l => l - leafLarge 0
  mex (used.length + 1) 0 used
def freeLarge (s : State) : Nat := freeLargeBut s []
def freeShadow (s : State) : Nat :=
  let used := s.vault.slots.filterMap (fun e => e.2.shadow.map Shadow.idx) ++ puttingShadow s ++
    (s.vault.damaged.filter fun l => decide (leafShadow 0 ≤ l ∧ l < leafLarge 0)).flatMap fun l =>
      (List.range 8).map fun k => 8 * (l - leafShadow 0) + k
  mex (used.length + 1) 0 used

/-- The lowest slot from `h` on that lies in no damaged line. -/
def skipDamaged (s : State) : Nat → Nat → Nat
  | 0, h => h
  | fuel + 1, h => if s.vault.damaged.contains (leafSlot h) then skipDamaged s fuel (h + 1) else h

/-- Insert a number into an ascending list. -/
def insertUp (x : Nat) : List Nat → List Nat
  | [] => [x]
  | y :: t => if x < y then x :: y :: t else if x = y then y :: t else y :: insertUp x t

/-- The next candidate of the allocator (R159): the head of the free list, or else the lowest slot never used. -/
def pickSlot (s : State) : Option (Nat × State) :=
  match s.vault.freeList, s.vault.unused with
  | i :: t, _ => some (i, { s with vault := { s.vault with freeList := t } })
  | [], i :: t => some (i, { s with vault := { s.vault with unused := t } })
  | [], [] =>
    let h := skipDamaged s (8 * s.vault.damaged.length) s.vault.high
    if h < 2 ^ 24 then some (h, { s with vault := { s.vault with high := h + 1 } }) else none

/-- A candidate that no key was put in goes back: to the slots never used, or to the front of the free list. One of a damaged line is
withdrawn. -/
def unpickSlot (s : State) (i : Nat) : State :=
  if s.vault.damaged.contains (leafSlot i) then s
  else if (getSlot s i).epoch = 0 then { s with vault := { s.vault with unused := insertUp i s.vault.unused } }
  else { s with vault := { s.vault with freeList := i :: s.vault.freeList } }

/-- Slots that an update puts a key in. -/
def VUpd.puts (u : VUpd) : List Nat := u.ops.filterMap fun o => match o with | .put i _ => some i | _ => none

/-- Slots that updates not yet in effect will put a key in, of those that meet a test. -/
def puttingSlots (s : State) (p : VUpd → Bool) : List Nat := (s.vault.updates.filter p).flatMap VUpd.puts

/-- The creations that are given up give back their slots (R159, R180). -/
def unpickAll (s : State) (p : VUpd → Bool) : State := (puttingSlots s p).foldl unpickSlot s

/-- Default block-usage limit of a policy (R83). -/
def defaultLimit (p : Nat) : Nat := if polKind p = 0 && (polAlgs p).testBit 3 then 2 ^ 44 else 2 ^ 64 - 1

/-- Limit of LIMIT_LOG2 (R164). -/
def limitOf (p log2 : Nat) : Nat := if log2 = 0 then defaultLimit p else 2 ^ log2

/-! ### Cache and references (R158, R161) -/

/-- Bank number of entries held in the walker's unwrap staging while a slot is served uncached (R158). -/
def stagingBank : Nat := 16

def setOf (slot : Nat) : Nat := slot / 16 % 256

/-- Entry of the current generation. -/
def cacheFind (s : State) (slot : Nat) : Option CacheEnt := s.cache.find? fun e => decide (e.slot = slot) && !e.old

/-- Change the entry of one generation of a slot. -/
def cacheMod (s : State) (slot gen : Nat) (g : CacheEnt → CacheEnt) : State :=
  { s with cache := s.cache.map fun e => if e.slot = slot ∧ e.gen = gen then g e else e }

/-- References held on every generation of a slot. -/
def refsOf (s : State) (slot : Nat) : Nat := s.cache.foldl (fun n e => if e.slot = slot then n + e.refs else n) 0

/-- The entry becomes the most recently resolved, with one more reference. -/
def takeRef (s : State) (slot : Nat) : State :=
  match cacheFind s slot with
  | none => s
  | some e => { s with cache := { e with refs := e.refs + 1 } ::
      (s.cache.filter fun x => !(decide (x.slot = slot) && !x.old)) }

/-- An entry may leave its bank: nothing refers to it, and it does not hold a slot pinned as ERASING (R161, R177). -/
def CacheEnt.mayLeave (e : CacheEnt) : Bool := decide (e.refs = 0 ∧ e.st ≠ .erasing)

/-- A bank's set has a way for another entry: fewer than 16, or one that may leave (R161). -/
def hasWay (s : State) (bank slot : Nat) : Bool :=
  let ws := s.cache.filter fun e => decide (e.bank = bank ∧ setOf e.slot = setOf slot)
  decide (ws.length < 16) || ws.any CacheEnt.mayLeave

/-- Leave out the least recently resolved entry of a set that may leave: the last in the list. -/
def evictLast (bank set : Nat) : List CacheEnt → Option (List CacheEnt)
  | [] => none
  | e :: t =>
    match evictLast bank set t with
    | some t' => some (e :: t')
    | none => if (decide (e.bank = bank ∧ setOf e.slot = set) && e.mayLeave) = true then some t else none

/-- A raise of an invocation reservation, so that it lies above a value (R81). -/
def raisedRes (res v : Nat) : Nat := if v < res then res else min (res + 4096 * ((v - res) / 4096 + 1)) (2 ^ 64)

/-- Changes that wait at the walker. -/
def queuedOps (s : State) : List VOp := s.vault.updates.flatMap VUpd.ops

/-- Reservation at which a slot's invocation counter resumes: the record's, with the raises under way, so that no value that a
waiting request holds is issued again (R81, R85). -/
def resumeInv (s : State) (slot : Nat) : Nat :=
  (queuedOps s).foldl (fun n o => match o with | .raiseInv i v => if i = slot then raisedRes n v else n | _ => n) (getSlot s slot).invRes

/-- The same for its block-usage counter (R83): of the raises under way, those of the count that the record holds (R85). -/
def resumeBlk (s : State) (slot : Nat) : Nat :=
  (queuedOps s).foldl (fun n o => match o with
    | .setBlk i v g => if i = slot ∧ g = (getSlot s slot).blkGen then max n v else n
    | _ => n) (getSlot s slot).blkRes

/-- Stream mark at which a slot resumes: the last that a request gave it (R93). -/
def resumeMark (s : State) (slot : Nat) : Option (Nat × Nat) :=
  (queuedOps s).foldl (fun m o => match o with | .setMark i x => if i = slot then x else m | _ => m) (getSlot s slot).mark

/-- State of a slot at its home bank: the record's, or ERASING from step 1 of the erase on (R154, R177). -/
def bankState (s : State) (slot : Nat) : SlotState :=
  if (getSlot s slot).state ≠ .free ∧ (s.vault.erasing.contains slot || s.vault.noted.contains slot) = true then .erasing
  else (getSlot s slot).state

/-- A slot's record as a cache entry: live counters resume at their reservations (R81, R83, R161). -/
def entryOf (s : State) (slot bank : Nat) : CacheEnt :=
  let r := getSlot s slot
  { slot := slot, bank := bank, gen := r.gen, inv := resumeInv s slot, blk := resumeBlk s slot, mark := resumeMark s slot, mat := r.mat
    pol := r.policy, owner := r.owner, st := bankState s slot, epoch := r.epoch }

/-- Entries of a bank's set. -/
def waysOf (s : State) (bank slot : Nat) : List CacheEnt :=
  s.cache.filter fun e => decide (e.bank = bank ∧ setOf e.slot = setOf slot)

/-- Make room for one more entry in the set of a slot: the least recently resolved entry that may leave does. -/
def makeRoom (s : State) (bank slot : Nat) : State :=
  if (waysOf s bank slot).length < 16 then s else { s with cache := (evictLast bank (setOf slot) s.cache).getD s.cache }

/-- Install the record of a slot: in the bank that serves it, if a way is free, or in the walker's staging while it is served
uncached. -/
def cacheInstall (s : State) (slot : Nat) : State :=
  match bankOf s slot with
  | none => { s with cache := entryOf s slot stagingBank :: s.cache }
  | some b =>
    if hasWay s b slot then let s := makeRoom s b slot; { s with cache := entryOf s slot b :: s.cache } else s

/-- The home bank follows the record at an effect point (R154). -/
def cacheSync (s : State) (slot : Nat) : State :=
  let r := getSlot s slot
  { s with cache := s.cache.map fun e =>
      if e.slot = slot ∧ e.old = false then { e with pol := r.policy, owner := r.owner, st := bankState s slot, epoch := r.epoch } else e }

/-- A generation that is superseded, or held in staging, goes with its last reference. -/
def releaseRef (s : State) (slot gen : Nat) : State :=
  let s := cacheMod s slot gen fun e => { e with refs := e.refs - 1 }
  { s with cache := s.cache.filter fun e => !(decide (e.slot = slot ∧ e.refs = 0) && (e.old || decide (e.bank = stagingBank))) }

/-- Material of the generation that a request holds (R158). -/
def entMat (s : State) (slot : Option Nat) (gen : Nat) : Bytes :=
  match slot with
  | none => []
  | some i => match s.cache.find? fun e => decide (e.slot = i ∧ e.gen = gen) with
    | some e => e.mat
    | none => (getSlot s i).mat

/-- Every entry of a slot leaves the cache. -/
def cacheDrop (s : State) (slot : Nat) : State := { s with cache := s.cache.filter fun e => decide (e.slot ≠ slot) }

/-- Step 5 of R177: every entry of a slot is zeroised. Its home bank holds the slot as ERASING, pinned, until it is FREE. -/
def cacheZero (s : State) (slot : Nat) : State :=
  { s with cache := (s.cache.filter fun e => !(decide (e.slot = slot) && (e.old || decide (e.bank = stagingBank)))).map fun e =>
      if e.slot = slot then { e with mat := [], st := .erasing } else e }

/-! ### Effects of an update (R147, R154, R160) -/

/-- The frame of a large-key record is empty (R162). -/
def dropFrame (s : State) (large : Option Nat) : State :=
  { s with vault := { s.vault with frames := s.vault.frames.filter fun l => decide (some l ≠ large) } }

/-- A slot becomes FREE (R160, R241). -/
def freeSlot (s : State) (i : Nat) : State :=
  let r := getSlot s i
  let s := dropFrame s r.large
  let spent := decide (r.epoch + 1 = 255)
  let s := setSlot s i { epoch := r.epoch + 1, wc := r.wc }
  let s := cacheDrop s i
  let s := modFn s r.owner fun f =>
    { f with
      slotsUsed := if spent then f.slotsUsed else f.slotsUsed - 1
      lostSlots := if spent then f.lostSlots + 1 else f.lostSlots
      largeUsed := f.largeUsed - ofBool (r.large.any fun l => !s.vault.damaged.contains (leafLarge l))
      shadUsed := f.shadUsed - ofBool (r.shadow.any fun h => !s.vault.damaged.contains (leafShadow h.idx)) }
  { s with vault := { s.vault with
      freeList := if spent then s.vault.freeList else s.vault.freeList ++ [i]
      epochSpent := s.vault.epochSpent + ofBool spent
      erasing := s.vault.erasing.filter (· ≠ i)
      noted := s.vault.noted.filter (· ≠ i) } }

/-- The shadow of a slot is scrubbed and freed. -/
def dropShadow (s : State) (i : Nat) : State :=
  let r := getSlot s i
  modFn (setSlot s i { r with shadow := none }) r.owner fun f =>
    { f with shadUsed := f.shadUsed - ofBool (r.shadow.any fun h => !s.vault.damaged.contains (leafShadow h.idx)) }

/-- Committed values of one index return to their defaults. -/
def clearCfg (s : State) (i : Nat) : State := { s with cfg := s.cfg.filter fun e => decide (e.1 / 256 ≠ i) }

/-- The pending copy of a group ends (R277). -/
def dropPend (s : State) (g : Nat) : State :=
  { s with mgmt := { s.mgmt with pend := s.mgmt.pend.filter fun p => decide (p.group ≠ g) } }

/-- A released ring returns to its defaults with OWNER FFFFh (R242); its pending copy ends (R277). -/
def releaseRing (s : State) (n : Nat) : State := dropPend (clearCfg (setRing s n {}) (0x5000 + n)) (0x5000 + n)
def releaseChan (s : State) (c : Nat) : State :=
  dropPend (clearCfg (setChan s c { moved := (getChan s c).moved }) (0xA000 + c)) (0xA000 + c)

/-- A function's statistics return to zero (R299); its calendar usage counts on (R238). -/
def clearStat (s : State) (f : Nat) : State :=
  modStat s f fun r => { cipherUsed := r.cipherUsed, hashUsed := r.hashUsed, pkaUsed := r.pkaUsed, portUsed := r.portUsed }

/-- Rings and channels of a function, ascending. -/
def ringsOf (s : State) (f : Nat) : List Nat := (s.rings.filter fun e => decide (e.2.owner = some f)).map Prod.fst
def chansOf (s : State) (f : Nat) : List Nat := (s.chans.filter fun e => decide (e.2.owner = some f)).map Prod.fst

/-- The records of a function that lie in damaged lines lose their owner with it. -/
def buryDamaged (s : State) (f : Nat) : State :=
  { s with vault := { s.vault with slots := s.vault.slots.map fun e =>
      if e.2.owner = f ∧ e.2.state ≠ SlotState.free ∧ s.vault.damaged.contains (leafSlot e.1) = true then (e.1, { epoch := 255 })
      else e } }

/-- A function becomes ABSENT (R241, R243, R264): rings and channels released, quotas and shares zero, context key scrubbed,
the records charged to it because they are lost moved to the LOST counts. -/
def makeAbsent (s : State) (f : Nat) (released : Bool) : State :=
  let r := getFn s f
  let s := (ringsOf s f).foldl releaseRing s
  let s := (chansOf s f).foldl releaseChan s
  let s := [4, 5, 6, 7, 8].foldl (fun s k => cfgSet s (0x4000 + f) k 0) s
  let s := [1, 3, 5, 7].foldl (fun s k => cfgSet s (0xB000 + f) k 0) s
  let s := dropPend (clearStat (cfgSet s (0x4000 + f) 1 0) f) (0x4000 + f)
  -- what lies in a damaged line can never be used again
  let s := buryDamaged s f
  let s := { s with vault := { s.vault with
    lostSlots := s.vault.lostSlots + r.lostSlots, lostLarge := s.vault.lostLarge + r.lostLarge
    lostShad := s.vault.lostShad + r.lostShad } }
  setFn s f { r with
    state := .absent, slotsUsed := 0, largeUsed := 0, shadUsed := 0, lostSlots := 0, lostLarge := 0, lostShad := 0
    ctxKey := [], ctxCtr := 0, ctxRes := 0, frozenMark := false, held := 0, skew := false, session := none, image := none
    resetHeld := false, restart := false
    mig := if released then .released else .none
    receipt := if released then r.image else none }

/-- The state that a change finds in the slot record: the transitions of R154 are exactly those of its table. -/
def fromState (s : State) (i : Nat) (l : List SlotState) : Bool := l.contains (getSlot s i).state

/-- A new key is installed in its home bank with its record (R154); while key loads are blocked none is (R109). -/
def installNow (s : State) (i : Nat) : State := if s.alarms.blocked || !coreUp s then s else cacheInstall s i

/-- COMMIT at its effect point (R175): the shadow's material, the next generation, the counters of R85. A block-usage count that is
carried is the live one, or, with no entry at hand, that at which a fetch resumes (R83). -/
def flipSlot (s : State) (i : Nat) (keep : Bool) (h : Shadow) : State :=
  let r := getSlot s i
  let live := ((cacheFind s i).map CacheEnt.blk).getD (resumeBlk s i)
  let s := dropShadow s i
  let s := setSlot s i { getSlot s i with
    state := .active, gen := r.gen + 1, mat := h.mat, mark := none, blkRes := if keep then r.blkRes else 0
    blkGen := if keep then r.blkGen else r.gen + 1 }
  -- the home bank installs the new generation in the same cycle; the old one stays while referenced
  let s := { s with cache := (s.cache.map fun e => if e.slot = i then { e with old := true } else e).filter fun e =>
    !(decide (e.slot = i ∧ e.refs = 0)) }
  cacheMod (installNow s i) i (r.gen + 1) fun e => { e with mark := none, blk := if keep then live else 0 }

/-- Committed values that a failed RESTORE gives back. -/
def putBackCfg (s : State) (f : Nat) (l : List (Nat × Nat)) : State :=
  l.foldl (fun s e => cfgSet s (e.1 / 256) (e.1 % 256) e.2) (clearCfg (clearCfg s (0x4000 + f)) (0xB000 + f))

/-- A RESTORE takes effect (R263): the function stands, frozen, and its session holds the image. -/
def restoreFn (s : State) (f : Nat) (r : Restoral) : State :=
  modFn s f fun x => { x with
    state := .restored, mig := .restored, frozenMark := true, held := r.held, ctxKey := r.key, ctxRes := r.res, ctxCtr := r.res
    session := some r.ses, atHand := true }

/-- A RESTORE has failed, and a failed action changes no state (R259): the function is ABSENT and its session open, as they were. -/
def unrestoreFn (s : State) (f : Nat) (r : Restoral) : State :=
  modFn (putBackCfg (makeAbsent s f false) f r.cfg) f fun x => { x with mig := .opened, session := some r.was }

/-- A slot that a failed RESTORE had put is FREE again, with the epoch that it had. -/
def unputSlot (s : State) (i epoch : Nat) : State :=
  let r := getSlot s i
  let s := cacheDrop (setSlot (dropFrame s r.large) i { epoch := epoch, wc := r.wc }) i
  let s := modFn s r.owner fun f => { f with
    slotsUsed := f.slotsUsed - 1, largeUsed := f.largeUsed - ofBool (r.large.any fun l => !s.vault.damaged.contains (leafLarge l)) }
  unpickSlot { s with vault := { s.vault with
    erasing := s.vault.erasing.filter (· ≠ i), noted := s.vault.noted.filter (· ≠ i) } } i

/-- One change of an update at its effect point. -/
def applyOp (s : State) (o : VOp) : State :=
  match o with
  | .put i r => installNow (cacheDrop (modFn (setSlot (dropFrame s r.large) i r) r.owner fun f =>
      { f with slotsUsed := f.slotsUsed + 1, largeUsed := f.largeUsed + ofBool r.large.isSome }) i) i
  | .raiseInv i v => let r := getSlot s i; setSlot s i { r with invRes := raisedRes r.invRes v }
  | .setBlk i n g => let r := getSlot s i; if g = r.blkGen then setSlot s i { r with blkRes := max r.blkRes n } else s
  | .setMark i m => let r := getSlot s i; setSlot s i { r with mark := m }
  | .retire i =>
    if fromState s i [.active, .replacing] then
      let s := dropShadow s i
      cacheSync (setSlot s i { getSlot s i with state := .retired }) i
    else s
  | .toReplacing i h =>
    if fromState s i [.active] then
      let r := getSlot s i
      cacheSync (modFn (setSlot s i { r with state := .replacing, shadow := some h }) r.owner fun f =>
        { f with shadUsed := f.shadUsed + 1 }) i
    else s
  | .flip i keep =>
    (match (getSlot s i).shadow with
      | none => s
      | some h => if fromState s i [.replacing] then flipSlot s i keep h else s)
  | .cancel i =>
    if fromState s i [.replacing] then
      let s := dropShadow s i
      cacheSync (setSlot s i { getSlot s i with state := .active }) i
    else s
  | .erasing i =>
    if fromState s i [.active, .replacing, .retired] then
      let r := getSlot s i
      cacheSync (setSlot s i { r with state := .erasing }) i
    else s
  | .free i => if fromState s i [.free] then s else freeSlot s i
  | .ctxRes f v k => modFn s f fun r => if r.ctxKey = k then { r with ctxRes := raisedRes r.ctxRes v } else r
  | .ctxKey f k => modFn s f fun r => { r with ctxKey := k, ctxCtr := 0, ctxRes := 0, ctxSerial := r.ctxSerial + 1, atHand := true }
  | .freeze f on => modFn s f fun r => { r with frozenMark := on }
  | .absent f rel => makeAbsent s f rel
  | .restore f r => restoreFn s f r
  | .unrestore f r => unrestoreFn s f r
  | .unput i e => if fromState s i [.free] then s else unputSlot s i e

/-- Slots and functions whose records a change writes. -/
def opSlot (o : VOp) : Option Nat :=
  match o with
  | .put i _ | .raiseInv i _ | .setBlk i _ _ | .setMark i _ | .retire i | .toReplacing i _ | .flip i _ | .cancel i | .erasing i | .free i
  | .unput i _ => some i
  | .ctxRes _ _ _ | .ctxKey _ _ | .freeze _ _ | .absent _ _ | .restore _ _ | .unrestore _ _ => none
def opFn (o : VOp) : Option Nat :=
  match o with
  | .ctxRes f _ _ | .ctxKey f _ | .freeze f _ | .absent f _ | .restore f _ | .unrestore f _ => some f
  | _ => none

/-- A record that is written carries the update's write count (R144). -/
def stampOp (n : Nat) (s : State) (o : VOp) : State :=
  let s := match opSlot o with
    | some i =>
      let r := getSlot s i
      setSlot s i { r with wc := n, lwc := if r.large.isSome then n else 0, shadow := r.shadow.map fun h => { h with wc := n } }
    | none => s
  match opFn o with
  | some f => modFn s f fun r => { r with wc := n }
  | none => s

/-- The shadow and large-key records that a change may scrub, as keys of their write counts (R144). -/
def scrubKeys (s : State) (o : VOp) : List Nat :=
  match opSlot o with
  | none => []
  | some i => ((getSlot s i).shadow.toList.map fun h => 2 * 2 ^ 24 + h.idx) ++ ((getSlot s i).large.toList.map fun l => 3 * 2 ^ 24 + l)

/-- The records after an update's changes, as its lines are written; those that it scrubs carry its write count, too. -/
def afterOps (s : State) (ops : List VOp) (n : Nat) : State :=
  let t := ops.foldl (stampOp n) (ops.foldl applyOp s)
  { t with vault := { t.vault with scrubbed := (ops.flatMap (scrubKeys s)).foldl (fun m k => tput 0 m k n) t.vault.scrubbed } }

/-- Leaves that a change writes. A shadow or large-key record of a damaged line is never used again (R146, R241), so a change that only
gives it up leaves that line alone, and so does a change of a function that lies in one: its record in the retention store is the one that
counts from then on (DESIGN CHOICE, log 168). -/
def opLeaves (s : State) (o : VOp) : List Nat :=
  let sh (i : Nat) : List Nat := match (getSlot s i).shadow with | some h => [leafShadow h.idx] | none => []
  let lg (i : Nat) : List Nat := match (getSlot s i).large with | some l => [leafLarge l] | none => []
  let sound (l : List Nat) : List Nat := l.filter fun x => !s.vault.damaged.contains x
  match o with
  | .put i r => leafSlot i :: (match r.large with | some l => [leafLarge l] | none => [])
  | .raiseInv i _ | .setBlk i _ _ | .setMark i _ | .erasing i => [leafSlot i]
  | .toReplacing i h => [leafSlot i, leafShadow h.idx]
  | .retire i | .cancel i => leafSlot i :: sound (sh i)
  | .flip i _ => leafSlot i :: (sh i ++ lg i)
  | .free i => leafSlot i :: sound (sh i ++ lg i)
  | .unput i _ => leafSlot i :: sound (lg i)
  | .ctxRes f _ _ | .ctxKey f _ | .restore f _ => [leafFn f]
  | .freeze f _ | .absent f _ | .unrestore f _ => sound [leafFn f]

/-- Lowest region with an active port, for vault accesses that no region's request causes. -/
def anyRegion (s : State) : Nat := ((List.range 4).find? fun m => !(activePorts s m).isEmpty).getD 0

/-- Region whose ports carry a group's traffic (R19): the group's own, or one that is left once that is fenced (R24). -/
def groupRegion (s : State) (g : Nat) : Nat := if regionUp s (g / 2) then g / 2 else anyRegion s

/-- Group of a request: that of its chain, which is the group that fetched the chain's first descriptor (R16). -/
def groupOfReq (s : State) (q : Req) : Nat :=
  match getChain s q.chain with
  | some c => c.group
  | none => q.group

/-- Region over whose ports, query identifiers and turn at the walker a request works (R19, R23, R395). -/
def reqRegion (s : State) (q : Req) : Nat := groupRegion s (groupOfReq s q)

/-- Issue vault writes; their count is that of the pieces. The region is function 0's (R141); the function whose request caused the
access is charged (R248). -/
def vaultWrites (s : State) (region f : Nat) (ws : List (Nat × Bytes)) : State × Nat :=
  let w : Who := { region := region, fn := 0, pasid := vaultPasid s, payer := some f }
  ws.foldl (fun (a : State × Nat) e =>
    let ps := piecesOf e.1 e.2.length
    (writePieces a.1 w ps e.2 (fun _ => .vupd) true, a.2 + ps.length)) (s, 0)

/-- Function that pays for an update: the owner of its request's ring. -/
def updFn (s : State) (u : VUpd) : Nat := match u.req with | some r => ((getReq s r).map Req.fn).getD 0 | none => 0

/-- Previous contents of the locations that an update writes (R331): a line as read, or what the record calls for in an empty
subtree, whose stored bytes nothing has read (free bytes). -/
def oldContents (s : State) (u : VUpd) (nodes : List (TreePos × Bytes)) : List (Nat × Nat × Bytes) :=
  let free (i n : Nat) : Bytes := (List.range n).map fun k => Config.freeByte (s.free + 4096 * i + k)
  let at_ (i : Nat) (p : TreePos) : Bytes :=
    if p.1 = 0 then (if u.items.contains p then gotAt s u.chunks p else free i (posLen p))
    else if allZero (nodeOf nodes p) then free i (posLen p) else nodeOf nodes p
  let under (p : TreePos) : Nat := if p.1 = 0 then p.2 else (u.lines.find? fun l => decide (l / 8 ^ p.1 = p.2)).getD 0
  ((u.lines.map fun l => ((0, l) : TreePos)) ++ (u.lines.flatMap pathOf).eraseDups).zipIdx.map fun e =>
    (under e.1, posAddr s e.1, at_ e.2 e.1)

/-- The update in front begins its writes: the previous contents of its locations are recorded (R331), and its lines and the stored
levels of their paths are written (R144 to R147). -/
def writeUpd (s : State) (u : VUpd) (t : List VUpd) : State :=
  let n := s.vault.wcount + 1
  let s' := afterOps s u.ops n
  let old := u.lines.flatMap (pathNodes s u.chunks)
  let new := u.lines.foldl (fun w l => climb s l 8 0 (lineBytes s' l) w) old
  let prev := oldContents s u old
  let ws := u.lines.map (fun l => (posAddr s (0, l), lineBytes s' l)) ++
    ((u.lines.flatMap pathOf).eraseDups).map fun p => (posAddr s p, nodeOf new p)
  let r := vaultWrites (useFree s (4096 * prev.length)) (anyRegion s) (updFn s u) ws
  { r.1 with vault := { r.1.vault with
      wcount := n, writeBack := prev
      updates := { u with begun := true, reading := false, chunks := [], items := [], err := none, outst := r.2, count := n, nodes := new } :: t } }

/-- What the walker reads before an update: its lines that are not empty, and the stored nodes above them that are not at hand
(R145, R146, R175). A damaged line is read too, and fails its check. -/
def updReads (s : State) (lines : List Nat) : List TreePos :=
  walkItems s (lines.filter fun l => s.vault.damaged.contains l || !lineEmpty s l)

/-- The home bank holds the slot's entry. -/
def banked (s : State) (i : Nat) : Bool := (cacheFind s i).any fun e => decide (e.bank ≠ stagingBank)

/-- An update raises reservations alone, of slots that their home banks hold: its lines are sealed from what the block holds of them, so
that it reads none (R404). -/
def raisesOnly (s : State) (u : VUpd) : Bool :=
  u.ops.all (fun o => match o with | .raiseInv i _ | .setBlk i _ _ => banked s i | _ => false) &&
  !u.lines.any s.vault.damaged.contains

/-- Lines that an update need not read, with their bytes. -/
def knownLines (s : State) (u : VUpd) : List (TreePos × Bytes) :=
  if raisesOnly s u then (u.lines.filter fun l => !lineEmpty s l).map fun l => ((0, l), lineBytes s l) else []

/-- Issue the reads of the update in front, beside the lines that it knows. -/
def readUpd (s : State) (u : VUpd) (t : List VUpd) (items : List TreePos) : State :=
  let w : Who := { region := anyRegion s, fn := 0, pasid := vaultPasid s, payer := some (updFn s u) }
  let known := knownLines s u
  let reads := items.filter fun p => !(known.map Prod.fst).contains p
  let ps := itemPieces s reads
  let u := { u with
    items := items, chunks := known.map fun k => (posAddr s k.1, k.2), err := none, outst := ps.length }
  if ps.isEmpty then writeUpd s u t
  else readPieces { s with vault := { s.vault with updates := { u with begun := true, reading := true } :: t } } w ps (fun off => .vupdR off) true

/-- Two updates change one slot or one function record: they are served in the order of their arrival (R155). -/
def sameRecord (u v : VUpd) : Bool :=
  u.ops.any fun o => v.ops.any fun p => ((opSlot o).isSome && decide (opSlot o = opSlot p)) || ((opFn o).isSome && decide (opFn o = opFn p))

/-- A destruction ends when every slot of the function is FREE, but for those of damaged lines (R243, R264). -/
def slotsLeft (s : State) (u : VUpd) (f : Nat) : Bool :=
  s.vault.slots.any fun e => decide (e.2.owner = f ∧ e.2.state ≠ .free) && !s.vault.damaged.contains (leafSlot e.1) && !u.ops.contains (.free e.1)

/-- A change writes the record of a slot, or from 2^24 on of a function. -/
def opWrites (i : Nat) (o : VOp) : Bool := decide (opSlot o = some i) || decide (opFn o = some (i - 2 ^ 24) ∧ 2 ^ 24 ≤ i)

/-- A fetch in progress reads a record that the update changes, or one of its lines: it is served first (R155). -/
def readNow (s : State) (u : VUpd) : Bool :=
  let lines := u.ops.flatMap (opLeaves s)
  s.vault.fetches.any fun f => u.ops.any (opWrites f.slot) || f.items.any fun p => decide (p.1 = 0) && lines.contains p.2

/-- The walker may take an update of the queue: nothing before it changes one of its records, no fetch reads them, and what it waits for
has come. -/
def ripe (s : State) (k : Nat) (u : VUpd) : Bool :=
  !((s.vault.updates.take k).any (sameRecord u)) && !readNow s u &&
  u.ops.all fun o => match o with | .absent f _ => !slotsLeft s u f | _ => true

/-- The update that the walker takes next: of the region whose turn it is, or the next one that has something to request, its
oldest that may be taken (R23). The block's own updates take a fifth turn (DESIGN CHOICE, log 125). -/
def nextUpd (s : State) : Option Nat :=
  (List.range 5).findSome? fun k =>
    (s.vault.updates.zipIdx.find? fun e => decide (e.1.region = (s.vault.turn + k) % 5) && ripe s e.2 e.1).map Prod.snd

/-- The walker takes an update: it reads what it must verify, and then writes. One that has no line to write takes effect at once. -/
def takeUpd (s : State) (u : VUpd) (t : List VUpd) : State :=
  let s := { s with vault := { s.vault with turn := (u.region + 1) % 5 } }
  let u := { u with lines := (u.ops.flatMap (opLeaves s)).eraseDups }
  if u.lines.isEmpty then u.ops.foldl applyOp { s with vault := { s.vault with updates := t } }
  else readUpd s u t (updReads s u.lines)

/-- The walker's mask generator has stopped: the walker begins nothing, and what it has begun runs to its end (R105, R189). -/
def walkerStopped (s : State) : Bool := (getGen s walkerGen).stopped || (getGen s walkerGen).watch

/-- With no update in progress the walker takes the next, and goes on with those that have no line to write. -/
def beginFrom : Nat → State → State
  | 0, s => s
  | n + 1, s =>
    if s.vault.updates.any VUpd.begun || walkerStopped s then s
    else match nextUpd s with
      | none => s
      | some i =>
        match s.vault.updates[i]? with
        | none => s
        | some u => beginFrom n (takeUpd s u (s.vault.updates.eraseIdx i))

def beginUpd (s : State) : State := beginFrom (s.vault.updates.length) s

/-- An update joins the queue of its region: updates take effect in the order the walker accepts them (R23, R147). With no vault region
a change of a function's own takes effect on die (log 139). -/
def submitUpd (s : State) (ops : List VOp) (req : Option Nat) : State :=
  let m := match req.bind (getReq s) with | some q => reqRegion s q | none => 4
  if vaultBase s = 0 && req.isNone then ops.foldl applyOp s
  else beginUpd { s with vault := { s.vault with updates := s.vault.updates ++ [{ ops := ops, req := req, region := m }] } }

/-- The effect point of an update (R147): its changes, all at once, and the levels held on die. -/
def effectPoint (s : State) (u : VUpd) : State :=
  let s := afterOps s u.ops u.count
  let s := { s with vault := { s.vault with
    die := (u.nodes.filter fun n => decide (6 ≤ n.1.1)).foldl (fun t n => tput (zeros 64) t (dieKey n.1) n.2) s.vault.die
    writeBack := [] } }
  cacheNodes s (u.nodes.filter fun n => decide (n.1.1 < 6))

/-! ### Damage (R146, R147, R241) -/

/-- A line becomes unusable. Its records stay charged to their owners; those without an owner are lost to the pools. -/
def damageLine (s : State) (leaf : Nat) : State :=
  if s.vault.damaged.contains leaf then s
  else
    let s := { s with vault := { s.vault with damaged := s.vault.damaged ++ [leaf] } }
    if leaf < leafShadow 0 then
      (List.range 8).foldl (fun s k =>
        let i := 8 * leaf + k
        if i = 0 then s
        else
          let r := getSlot s i
          let s := { s with vault := { s.vault with
            freeList := s.vault.freeList.filter (· ≠ i), unused := s.vault.unused.filter (· ≠ i) } }
          if r.state = .free then
            (if r.epoch = 255 then s else { s with vault := { s.vault with lostSlots := s.vault.lostSlots + 1 } })
          else modFn s r.owner fun f => { f with lostSlots := f.lostSlots + 1 }) s
    else if leaf < leafLarge 0 then
      (List.range 8).foldl (fun s k =>
        match s.vault.slots.find? fun e => decide (e.2.shadow.map Shadow.idx = some (8 * (leaf - leafShadow 0) + k)) with
        | some e => modFn s e.2.owner fun f => { f with lostShad := f.lostShad + 1 }
        | none => { s with vault := { s.vault with lostShad := s.vault.lostShad + 1 } }) s
    else if leaf < leafFn 0 then
      match s.vault.slots.find? fun e => decide (e.2.large = some (leaf - leafLarge 0)) with
      | some e => modFn s e.2.owner fun f => { f with lostLarge := f.lostLarge + 1 }
      | none => { s with vault := { s.vault with lostLarge := s.vault.lostLarge + 1 } }
    else s

/-! ### Erasure (R177, R178) -/

/-- A request holds a reference on a slot. -/
def holds (q : Req) (i : Nat) : Bool := q.refHeld && (decide (q.slot = some i) || decide (q.slot2 = some i))

/-- Some erase of the slot waits for it. -/
def erasers (s : State) (i : Nat) : List Nat :=
  s.reqs.filterMap fun e => match e.2 with
    | some q => if q.phase = .erase ∧ q.slot = some i then some e.1 else none
    | none => none

/-- An update that frees the slot is queued. -/
def freeing (s : State) (i : Nat) : Bool := s.vault.updates.any fun u => u.ops.contains (.free i)

/-- Step 5 of R177 begins once no reference remains: entries zeroised, the slot made FREE in one update. -/
def eraseAdvance (s : State) (i : Nat) : State :=
  if s.vault.erasing.contains i && decide (refsOf s i = 0) && !freeing s i then submitUpd (cacheZero s i) [.free i] none
  else s

end Sys2Proof.Machine
end

