-- ==== Sys2Proof/Machine/Complete.lean ====
section
/-!
DEFINITION. The end of requests, chain steps and chains (R26, R39, R50 to R60, R64, R67, R130): completion entries, the
coalescer, what an ended request gives back, and the draining of rings (R40).
-/
namespace Sys2Proof.Machine

open Sys2Proof

/-! ### Rings -/

/-- Who a ring's accesses speak for (R24, R31, R32). -/
def ringWho (s : State) (n : Nat) : Who :=
  { region := (getRing s n).region, fn := (getRing s n).owner.getD 0, pasid := ringCfg s n 6 }

/-- Entries of both rings of a pair. -/
def ringSize (s : State) (n : Nat) : Nat := 2 ^ ringCfg s n 4

/-- The interrupt of a ring on a vector: every counted entry is signalled (R67). -/
def signalOn (s : State) (n vec : Nat) : State :=
  raiseFn (modRing s n fun r => { r with coal := 0 }) ((getRing s n).owner.getD 0) vec

/-- The same on VECTOR as it stands, for a signal that belongs to no request. -/
def signalRing (s : State) (n : Nat) : State := signalOn s n (ringCfg s n 0x12)

/-- The coalescer's count has reached COAL_COUNT (R67). -/
def coalTest (s : State) (n vec : Nat) : State :=
  if 0 < (getRing s n).coal ∧ ringCfg s n 0x10 ≤ (getRing s n).coal then signalOn s n vec else s

/-- Step 3 of R40: the ring is DISABLED and its counts are zero. Its place in the pools stays (R15, R242), and so do the entries that
the coalescer has counted and not yet signalled: COAL_TIME signals them (R67). -/
def ringOff (s : State) (n : Nat) : State :=
  modRing s n fun r =>
    { r with state := .disabled, version := 0, prev := 0, eligible := 0, fetchCnt := 0, complCnt := 0, nextEnt := 0
             waiting := [], fenced := false, dead := false, fetching := false, echoWait := false
             skew := false }

/-- No fetched descriptor of the ring still needs a completion entry, and no entry of R54 is outstanding. -/
def ringQuiet (s : State) (n : Nat) : Bool :=
  (getRing s n).waiting.isEmpty && decide ((getRing s n).open_ = 0) && decide ((getRing s n).ffOpen = 0)

/-- A disable of the ring is under way (R40). One that the failed write of a completion entry met goes on in ERROR (DESIGN CHOICE, log 122:
R55 puts the ring in ERROR and step 3 of R40 ends the disable). -/
def ringDrains (s : State) (n : Nat) : Bool :=
  decide ((getRing s n).state = .draining ∨ (getRing s n).state = .error ∧ ringCfg s n 9 = 0)

/-- A DRAINING ring becomes DISABLED once every fetched request has ended (R40); the drain of a change of ECHO ends with the
ring's last chain (R275). -/
def ringSettle (s : State) (n : Nat) : State :=
  let s := if (getRing s n).echoWait && !(s.chains.any fun e => match e.2 with | some c => decide (c.ring = n) | none => false)
    then modRing s n fun r => { r with echoWait := false } else s
  if ringDrains s n && ringQuiet s n then ringOff s n else s

/-- One completion entry of a chain is over: written, or dropped under R55. With the chain's last entry its pages are
released and a fence ends (R57, R63). -/
def entryDone (s : State) (n chain : Nat) : State :=
  let s := modRing s n fun r => { r with open_ := r.open_ - 1 }
  let s := match getChain s chain with
    | none => s
    | some c =>
      if 1 < c.left then setChain s chain (some { c with left := c.left - 1 })
      else
        let s := setChain s chain none
        let s := { s with chainUse := tput 0 s.chainUse c.group (tget 0 s.chainUse c.group - c.pages) }
        if c.fence then modRing s n fun r => { r with fenced := false } else s
  ringSettle s n

/-- Place a completion entry (R39, R50, R53), or drop it after a failed completion write (R55). It leaves over the ports of the region
whose group ran the chain (R19). -/
def putEntry (s : State) (n chain : Nat) (st : Status) (fetchFail counted atOnce : Bool) (vec : Nat) (wrote : Bool)
    (entry : Nat → Bool → Bytes) : State :=
  let r := getRing s n
  if r.dead then (if fetchFail then s else entryDone s n chain)
  else
    let s := setRing s n { r with nextEnt := r.nextEnt + 1 }
    let w := ringWho s n
    let m := match getChain s chain with | some c => groupRegion s c.group | none => w.region
    submit s { region := m, wr := true, addr := ringCfg s n 5 + 16 * (r.nextEnt.toNat % ringSize s n), len := 16
               fn := w.fn, pasid := w.pasid, data := entry r.version (phaseBit r.nextEnt (ringCfg s n 4))
               own := .cq n st counted atOnce chain fetchFail vec wrote }

/-- An entry of R54 is over: written, or dropped under R55. -/
def ffDone (s : State) (n : Nat) : State := ringSettle (modRing s n fun r => { r with ffOpen := r.ffOpen - 1 }) n

/-- The entry of R54, which belongs to no request. -/
def putFetchFail (s : State) (n first : Nat) (st : Status) : State :=
  let s := if (getRing s n).dead then s else modRing s n fun r => { r with ffOpen := r.ffOpen + 1 }
  putEntry s n 0 st true true true (ringCfg s n 0x12) false fun ver ph => cqEntry ver first st.code (phaseFlags ver ph false false false false true) 0 0

/-! ### What an ended request gives back -/

/-- A message to the peer is queued; none leaves once the safe state has been entered (R232). -/
def sendPeer (s : State) (m : PeerMsg) : State :=
  if s.safe then s else { s with peer := { s.peer with out := s.peer.out ++ [m] } }

/-- ABANDON for an open token (R229, R232). -/
def abandonToken (s : State) (t : Nat) : State :=
  if s.peer.tokens.any fun k => decide (k.token = t) then
    sendPeer { s with peer := { s.peer with tokens := s.peer.tokens.filter fun k => decide (k.token ≠ t) } }
      { type := 0x30, token := t }
  else s

/-- CORE_CLK cycles that pass in a number of REF_CLK cycles. -/
def coreCycles (s : State) (n : Nat) : Nat := n * refPeriod s * s.bring.coreKhz / 1000000

/-- The PKA unit that a request holds. -/
def pkaOf (q : Req) : Option Nat := (q.unit.toList ++ q.unit2.toList).find? fun u => decide (kindOf u = .pka)

/-- PKA time is charged when the unit is given back, by the cycles it was held (R120, R248). -/
def chargePka (s : State) (q : Req) : State :=
  match pkaOf q with
  | some u => charge s (16 + unitNo u / 2) q.fn (coreCycles s (s.pins.cycles - q.began))
  | none => s

/-- References end with the request (R158); an erase that waited for them goes on (R177). -/
def dropRef (s : State) (slot : Option Nat) (gen : Nat) : State :=
  match slot with
  | none => s
  | some i => eraseAdvance (releaseRef s i gen) i

/-- Who a request's accesses speak for: its function and its ring's PASID (R31, R32), over the ports of its group's region (R19). -/
def reqWho (s : State) (q : Req) : Who := { ringWho s q.ring with region := reqRegion s q }

/-- Purposes of one request's transactions. -/
def ownOf (r : Nat) : Own → Bool
  | .req r' _ _ | .out r' | .ctx r' => decide (r' = r)
  | _ => false

/-- Vault fetches of a request that ends are given up; an update that waited for them may begin. -/
def dropFetches (s : State) (r : Nat) : State :=
  let ids := (s.vault.fetches.filter fun f => decide (f.req = r)).map VFetch.id
  beginUpd <| disown { s with vault := { s.vault with fetches := s.vault.fetches.filter fun f => decide (f.req ≠ r) } } fun o =>
    match o with | .vfetch i => ids.contains i | _ => false

/-- The request leaves the block and gives back all it holds but its chain's pages. -/
def retireReq (s : State) (r : Nat) (q : Req) : State :=
  let g := groupOfReq s q
  let s := setReq s r none
  let s := chargePka s q
  let s := if q.refHeld then dropRef (dropRef s q.slot q.gen) q.slot2 q.gen2 else s
  let s := { s with echoUse := tput 0 s.echoUse g (tget 0 s.echoUse g - q.staged) }
  let s := match q.token with | some t => abandonToken s t | none => s
  let s := { s with rng := { s.rng with wires := s.rng.wires.filter fun w => match w with | .key r' _ => decide (r' ≠ r) | _ => true } }
  disown (dropFetches s r) (ownOf r)

/-! ### The end of a request -/

/-- An opcode whose completion signals at once (R49, R67). -/
def signalsAtOnce (q : Req) : Bool := decide (q.d.opcode = 1)

/-- An intermediate of the chain already lies in a spill buffer (R64). -/
def chainSpilled (s : State) (q : Req) : Bool := match getChain s q.chain with | some c => c.spill | none => false

/-- VECTOR of a request's interrupt: as read when its check 1 began, or as it stands where check 1 never began (R275). -/
def vecOf (s : State) (q : Req) : Nat := if q.phase = .fetched then ringCfg s q.ring 0x12 else q.vector

/-- A request ends with a status and a RESULT: it gives back what it holds and its completion entry is placed
(R50 to R53, R64, R67). SPILLED tells where the output of a step that ran through lies: it is clear for a step that failed (DESIGN CHOICE,
log 154). -/
def endReq (s : State) (r : Nat) (st : Status) (res : Nat) (notRun : Bool) : State :=
  match getReq s r with
  | none => s
  | some q =>
    let discard := !st.ran && !notRun && (q.wrote || q.discard || chainSpilled s q)
    let s := retireReq s r q
    putEntry s q.ring q.chain st false (!(decide (st = .ok) && q.d.flag fNoInt)) (decide (st ≠ .ok) || signalsAtOnce q)
      (vecOf s q) q.wrote fun ver ph => cqEntry ver q.d.tag st.code
        (phaseFlags ver ph notRun discard (q.spilled && st.ran) (q.flip && !notRun) false) q.idx (if notRun then 0 else res)

/-- Entries of steps that never ran, in step order, with the status of the step that ended the chain (R61, R64). -/
def endNotRun (s : State) (steps : List Nat) (st : Status) : State := steps.foldl (fun s r => endReq s r st 0 true) s

/-- A chain rejected before step 0 runs: the failing step has its own status, every other step repeats it (R61). -/
def rejectChain (s : State) (cid r : Nat) (st : Status) (res : Nat) : State :=
  match getChain s cid with
  | none => s
  | some c => c.steps.foldl (fun s x => if x = r then endReq s x st res false else endReq s x st 0 true) s

/-- Steps of a chain after one of its steps. -/
def stepsAfter (c : Chain) (r : Nat) : List Nat := (c.steps.dropWhile (· ≠ r)).drop 1

/-- The entries of a failed step and of the steps after it; the chain's intermediates are scrubbed (R64). -/
def endFailed (s : State) (r : Nat) (st : Status) (res : Nat) : State :=
  match getReq s r with
  | none => s
  | some q =>
    match getChain s q.chain with
    | none => endReq s r st res false
    | some c =>
      let s := modChain s q.chain fun c => { c with inter := [] }
      endNotRun (endReq s r st res false) (stepsAfter c r) st

/-- The creation update of a request, once the walker has begun it. -/
def createBegun (s : State) (r : Nat) : Bool := s.vault.updates.any fun u => decide (u.req = some r) && u.begun

/-- Updates of a request that the walker has not begun are withdrawn. -/
def dropQueued (s : State) (r : Nat) : State :=
  { s with vault := { s.vault with updates := s.vault.updates.filter fun u => u.begun || decide (u.req ≠ some r) } }

/-- A running step ends with a failing status, and the chain with it (R64). A slot that the step created is scrubbed and freed
before the entry is written; a creation in progress is awaited first (R130). -/
def failStep (s : State) (r : Nat) (st : Status) (res : Nat) : State :=
  match getReq s r with
  | none => s
  | some q =>
    if q.phase = .ended then s
    else match q.newSlot with
      | none => endFailed (dropQueued s r) r st res
      | some i =>
        if q.phase = .vault ∧ q.resume = .create then
          if createBegun s r then setReq s r (some { q with phase := .ended, status := st, result := res, regs := [], regs2 := [], regsB := [] })
          else endFailed (unpickSlot (dropQueued s r) i) r st res
        else
          submitUpd (disown (setReq s r (some { q with
            phase := .ended, status := st, result := res, resume := .erase, regs := [], regs2 := [], regsB := [] }))
            (ownOf r)) [.free i] (some r)

/-- A request's PKA unit runs its operation, its reads and draws among it: from the grant until the output is on its way (R120, R140). -/
def onPka (q : Req) : Bool := (pkaOf q).isSome && !q.wrote && decide (q.phase ≠ .ended)

/-- A request fails: its chain whole where that has not started (R61), or at this step. -/
def failWork (s : State) (r : Nat) (st : Status) : State :=
  match (getReq s r).bind fun q => (getChain s q.chain).map fun c => (q, c) with
  | some (q, c) => if c.started then failStep s r st 0 else if q.phase = .ended then s else rejectChain s q.chain r st 0
  | none => failStep s r st 0

/-- A step ended from outside (R120): what runs in a PKA unit is abandoned and counted (R140). -/
def killStep (s : State) (r : Nat) (st : Status) : State :=
  let running : Bool := match getReq s r with | some q => onPka q | none => false
  failStep (if running then { s with cnt := { s.cnt with pkaAband := s.cnt.pkaAband + 1 } } else s) r st 0

/-- A chain ended from outside (R64): at its running step, or whole if step 0 has not started. -/
def killChain (s : State) (cid : Nat) (st : Status) : State :=
  match getChain s cid with
  | none => s
  | some c =>
    if c.started then
      match c.steps[c.cur]? with
      | some r => killStep s r st
      | none => s
    else endNotRun s c.steps st

/-- Chains of a ring, in the order they were taken. -/
def chainsOf (s : State) (n : Nat) : List Nat :=
  s.chains.filterMap fun e => match e.2 with
    | some c => if c.ring = n then some e.1 else none
    | none => none

/-! ### Fetched descriptors that wait for the rest of their chain (R58, R59) -/

/-- The waiting descriptors of a ring that end a chain or request, cut from the part whose chain is not complete. -/
def splitWaiting (s : State) : List Nat → List Nat × List Nat
  | [] => ([], [])
  | r :: t =>
    let p := splitWaiting s t
    let last := match getReq s r with | some q => !(q.d.flag fChain && decide (q.ver = 3)) | none => true
    if last || !p.1.isEmpty then (r :: p.1, p.2) else ([], r :: p.2)

/-- Complete fetched descriptors that never start, in ring order, with NOT_RUN (R59, R60). -/
def endWaiting (s : State) (n : Nat) (rs : List Nat) (st : Status) : State :=
  endNotRun (modRing s n fun r => { r with waiting := r.waiting.filter fun x => !rs.contains x, open_ := r.open_ + rs.length })
    rs st

/-- The part of a chain that waits under R58 never runs (R59). -/
def endIncomplete (s : State) (n : Nat) (st : Status) : State :=
  endWaiting s n (splitWaiting s (getRing s n).waiting).2 st

/-- Every request of a ring that has not completed ends with the status (step 2 of R40, step 5 of R251). -/
def killRing (s : State) (n : Nat) (st : Status) : State :=
  let s := (chainsOf s n).foldl (fun s c => killChain s c st) s
  endWaiting s n (getRing s n).waiting st

/-- A descriptor read of a ring is given up: its descriptors were not fetched. -/
def dropFetch (s : State) (n : Nat) : State :=
  modRing (disown s fun o => match o with | .desc n' _ _ => decide (n' = n) | _ => false) n fun r => { r with fetching := false }

/-- A completion-entry write failed (R55): the ring enters ERROR, its interrupt is sent, and no further entry is written. DESIGN
CHOICE (log 122): each further failing write of an entry already issued sends one interrupt more. -/
def cqFailed (s : State) (n chain : Nat) (fetchFail : Bool) (vec : Nat) : State :=
  let s := modRing s n fun r =>
    { r with errors := r.errors ||| 4, dead := true, state := if r.state = .running ∨ r.state = .draining then .error else r.state }
  let s := dropFetch s n
  let s := signalOn s n vec
  -- entries placed behind it are not written; the outcome of their requests is unknown
  let lost := s.bursts.filterMap fun b => match b.own with
    | .cq n' _ _ _ c f _ _ => if n' = n then some (c, f) else none
    | _ => none
  let s := { s with bursts := s.bursts.filter fun b => match b.own with | .cq n' _ _ _ _ _ _ _ => decide (n' ≠ n) | _ => true }
  let s := lost.foldl (fun s e => if e.2 then ffDone s n else entryDone s n e.1) s
  if fetchFail then ffDone s n else entryDone s n chain

/-- The write response of a completion entry came back good (R26, R67, R299). -/
def cqWritten (s : State) (n : Nat) (st : Status) (counted atOnce : Bool) (chain : Nat) (fetchFail : Bool) (vec : Nat) : State :=
  let s := modRing s n fun r => { r with complCnt := r.complCnt + 1, coal := r.coal + ofBool counted }
  let s := if fetchFail then s else countEnd s ((getRing s n).owner.getD 0) st
  let s := if atOnce then signalOn s n vec else coalTest s n vec
  if fetchFail then ffDone s n else entryDone s n chain

end Sys2Proof.Machine
end

