-- ==== Sys2Proof/Machine/Start.lean ====
section
/-!
DEFINITION. Requests from fetch to the moment a unit may take them: checks 5 and 6 of R45 (R46 to R48, R58 to R62), chain
buffer space (R63), the start of steps, readiness (check 7) and the resolution of keys (check 8, R156 to R158, R233).
-/
namespace Sys2Proof.Machine

open Sys2Proof

/-! ### What a request needs -/

/-- The operation of a request. -/
def Req.op (q : Req) : Op := (opOf q.fn q.d.opcode).getD .nop

/-- Echo mode applies (R49, R113). -/
def echoed (s : State) (q : Req) : Bool :=
  (q.d.flag fEcho || decide (ringCfg s q.ring 0x0F ≠ 0)) && onLane q.op (modeOf q.d.opcode)

/-- Opcodes that create a slot (R157). -/
def creates : Op → Bool
  | .keyAgree | .kemEnc | .kemDec | .keyGen | .genSym | .derive | .impWrap | .impKem => true
  | _ => false

/-- KEY_HANDLE names a key in this request: context operations and VE_ATTEST may name none (R96, R365). -/
def namesKey (q : Req) : Bool :=
  keyed q.op (modeOf q.d.opcode) &&
  (match q.op with
    | .ctxInfo | .ctxClose | .veAttest => decide (q.d.key ≠ 0) || q.d.flag fTagHandle
    | _ => true)

/-- The second handle of a request, in bytes 48 to 51 (R163, R365). -/
def secondHandle (q : Req) : Option Nat :=
  match q.op with
  | .expWrap | .impKem => some (q.d.ctx % 2 ^ 32)
  | .replace => if kmSub q.d.mode = 0 then some (q.d.ctx % 2 ^ 32) else none
  | .veAttest => if q.d.ctx % 2 ^ 32 = 0 then none else some (q.d.ctx % 2 ^ 32)
  | _ => none

/-- The request restores or inspects a streaming context (R87, R96). -/
def readsCtx (q : Req) : Bool :=
  q.d.flag fCtxIn || (match q.op with | .ctxInfo | .ctxClose => true | _ => false)

/-! ### Check 6: reads (R46 to R48, R121) -/

/-- Issue the reads of one stage of a request. -/
def issueReads (s : State) (r : Nat) (ph : Phase) (stream : Nat) (ps : List (Nat × Nat × Nat)) (vault : Bool) : State :=
  match getReq s r with
  | none => s
  | some q =>
    let s := setReq s r (some { q with phase := ph, chunks := [], outst := ps.length, err := none })
    readPieces s (reqWho s q) ps (fun off => .req r stream off) vault

/-- Read a scatter list from an entry to the end of its 128-byte line; the piece is named by its address. -/
def readList (s : State) (r : Nat) (ph : Phase) (addr : Nat) : State :=
  issueReads s r ph 0 [(addr, addr, 128 - addr % 128)] false

/-- The reads of check 6, in their order. -/
inductive Look where
  | param | srcList | dstList | operand | over
  deriving DecidableEq, Repr

/-- The first read that a request still needs, from one of them on. -/
def nextLook (q : Req) (from_ : Look) : Look :=
  let p := readsPrm q.ver q.op q.d
  let a := q.d.flag fSrcSgl && decide (q.d.src ≠ 0)
  let b := q.d.flag fDstSgl && decide (q.d.dst ≠ 0)
  let c := decide (0 < operandLen q.op q.d)
  match from_ with
  | .param => if p then .param else if a then .srcList else if b then .dstList else if c then .operand else .over
  | .srcList => if a then .srcList else if b then .dstList else if c then .operand else .over
  | .dstList => if b then .dstList else if c then .operand else .over
  | .operand => if c then .operand else .over
  | .over => .over

/-- Begin a read of check 6. -/
def beginLook (s : State) (r : Nat) (q : Req) (l : Look) : State :=
  match l with
  | .param => issueReads s r .param 0 (piecesOf (if q.ver = 1 then q.d.src else q.d.param) 64) false
  | .srcList => readList (setReq s r (some { q with sglN := 0, sglLinks := 0, srcL := [] })) r .srcList q.d.src
  | .dstList => readList (setReq s r (some { q with sglN := 0, sglLinks := 0, dstL := [] })) r .dstList q.d.dst
  | .operand => issueReads s r .operand 0 (piecesOf q.d.ctx (operandLen q.op q.d)) false
  | .over => setReq s r (some { q with phase := .checked })

/-- The step consumes the intermediate of its predecessor (R62). -/
def eats (q : Req) : Bool := consumes q.d && mayConsume q.op q.d.mode && decide (0 < q.idx)

/-- Step `k` of a chain, as a request. -/
def stepReq (s : State) (c : Chain) (k : Nat) : Option Req := (c.steps[k]?).bind (getReq s)

/-- Step `k` feeds step `k + 1` (R62). -/
def feedsStep (s : State) (c : Chain) (k : Nat) : Bool :=
  match stepReq s c k, stepReq s c (k + 1) with
  | some q, some n => eats n && canFeed q.op q.d
  | _, _ => false

/-- Position of a request in its chain. -/
def posOf (c : Chain) (r : Nat) : Nat := c.steps.idxOf r

/-- The request feeds the next step of its chain. -/
def feeds (s : State) (r : Nat) : Bool :=
  match getReq s r with
  | none => false
  | some q => match getChain s q.chain with
    | none => false
    | some c => feedsStep s c (posOf c r)

/-! ### Chain buffer space (R63, R227) -/

/-- Pages of chain buffer that a step's output or job data asks for: none for a step that keeps nothing there, and none
for a step that may spill where such steps are left out. -/
def stepPages (s : State) (c : Chain) (skipSpill : Bool) (k : Nat) : Nat :=
  match stepReq s c k with
  | none => 0
  | some q =>
    if q.d.flag fSrcPeer || q.d.flag fDstPeer then ceilDiv (q.d.srcLen - 16) 4096
    else if feedsStep s c k then (if skipSpill && decide (q.d.dst ≠ 0) then 0 else ceilDiv q.d.dstCap 4096)
    else 0

/-- The largest sum over two consecutive steps. -/
def chainPages (s : State) (c : Chain) (skipSpill : Bool) : Nat :=
  (List.range c.steps.length).foldl
    (fun m k => max m (stepPages s c skipSpill k + stepPages s c skipSpill (k + 1))) 0

/-- A chain of the group waits under rule 3. -/
def bufWaiters (s : State) (g : Nat) : List Nat :=
  s.chains.filterMap fun e => match e.2 with
    | some c => if c.group = g ∧ c.waitBuf = true then some e.1 else none
    | none => none

/-- Where a chain's intermediates go (R63). -/
inductive Place where
  | buffer (pages : Nat)
  | spill
  | wait (pages : Nat)
  | reject (step : Nat)
  deriving DecidableEq, Repr

def placeChain (s : State) (c : Chain) : Place :=
  let full := chainPages s c false
  let free := 256 - tget 0 s.chainUse c.group
  let keep := (List.range c.steps.length).filter fun k => decide (0 < stepPages s c true k)
  if full = 0 then .buffer 0
  else if full ≤ free ∧ (bufWaiters s c.group).isEmpty = true then .buffer full
  else if keep.isEmpty then .spill
  else
    let part := chainPages s c true
    if part ≤ 256 then .wait part else .reject (keep.headD 0)

/-- Steps that feed and name a spill buffer spill. -/
def markSpill (s : State) (c : Chain) : State :=
  (List.range c.steps.length).foldl (fun s k =>
    match c.steps[k]?, stepReq s c k with
    | some r, some q => if feedsStep s c k && decide (q.d.dst ≠ 0) then setReq s r (some { q with spilled := true }) else s
    | _, _ => s) s

/-! ### Check 7: readiness (R45, R134, R165, R193, R225, R227, R307, R365) -/

/-- Requests that are seen at check 7 to draw from the CTR_DRBG: random bytes, and the fixed field of a key that takes device IVs (R80,
R190). -/
def needsDrbg (q : Req) : Bool :=
  match q.op with
  | .random => true
  | .genSym | .derive => polHas q.d.ctx pDeviceIv
  | .impWrap => decide (kmSub q.d.mode = 1) && polHas q.d.ctx pDeviceIv
  | _ => false

/-- The request opens a wrapped context: its CONTEXT_IN, or the one that it inspects or closes, is of form 01h (R88, R90). -/
def opensWrapped (q : Req) : Bool := readsCtx q && decide (fld q.ctxIn 2 1 = 1)

/-- A request of a hash lane that opens or saves a wrapped context: the wrap runs on a cipher lane (R90, R118). -/
def hashWraps (q : Req) : Bool :=
  let m := modeOf q.d.opcode
  opensWrapped q || (q.d.flag fCtxOut && (q.d.flag fWrap || isHmac m || isKmac m))

/-- A raw import of an asymmetric key runs its pairwise test on a PKA unit (R118, R131, R170). -/
def rawAsym (q : Req) : Bool := decide (q.op = .impWrap ∧ kmSub q.d.mode = 1 ∧ polKind q.d.ctx ≠ 0)

/-- The request opens or seals a streaming context under its function's context key (R90, R91). -/
def usesCtxKey (q : Req) : Bool :=
  opensWrapped q || (q.d.flag fCtxOut && (q.d.flag fWrap || !isHashMode (modeOf q.d.opcode)))

/-- Every function but the RNG that the request needs is ready. A context is wrapped under a key of the vault (R90, R256): the vault and the
function's key must be there (DEDUCED, log 86). -/
def functionsReady (s : State) (q : Req) : Bool :=
  let g := groupOfReq s q
  let up (i : Nat) : Bool := readyBit s (some g) i
  let lanes := ((cellsOf .lane g).filter (unitReady s)).length
  up 0 &&
  (match unitKind q.op q.d with
    | some .lane => up 1 && (!q.echo || decide (2 ≤ lanes))
    | some .hash => up 2 && (!hashWraps q || up 1)
    | some .pka => up 3 && (match q.op with | .impKem | .expKem => up 1 | _ => true)
    | _ => !opensWrapped q || up 1) &&
  (!rawAsym q || up 3) &&
  (!(namesKey q || creates q.op || (secondHandle q).isSome || usesCtxKey q) || up 4) &&
  (!usesCtxKey q || !(getFn s q.fn).ctxKey.isEmpty) &&
  (!q.d.flag fTagHandle || up 7) &&
  (!q.d.flag fSrcPeer || (up 6 && s.peer.caps.getLsbD 0)) &&
  (!q.d.flag fDstPeer || (up 6 && s.peer.caps.getLsbD 1)) &&
  (match q.op with
    | .veAttest => s.bring.identity
    | _ => !needsDrbg q || drbgUp s || decide (s.rng.state ≠ .running))

/-- The request draws randomness, or its IV's policy calls for the RNG. -/
def needsRng (q : Req) : Bool :=
  q.d.flag fDeviceIv ||
  (match q.op with
    | .verify => false
    | .genSym | .expKem | .random | .veAttest => true
    | .replace => decide (kmSub q.d.mode = 1)
    | .derive => polHas q.d.ctx pDeviceIv
    | .impWrap => decide (kmSub q.d.mode = 1) && polHas q.d.ctx pDeviceIv
    | o => o.isPka)

def readiness (s : State) (q : Req) : Bad :=
  if !functionsReady s q then some (.notReady, 0)
  else if needsRng q && decide (s.rng.state = .advent) then some (.rngAdvent, 0)
  else if (q.d.flag fSrcPeer || q.d.flag fDstPeer) && decide (s.peer.maxJob < q.d.srcLen - 16) then some (.descField, 0x18)
  else none

/-! ### Check 8: policy (R71, R125, R163, R168) -/

/-- ALG_SET bit of a mode (R151). -/
def modeBit (m : Nat) : Nat := if m < 0x20 then m - 1 else if m < 0x28 then m - 0x20 + 9 else m - 0x28 + 14

/-- The policy permits a symmetric operation. -/
def symPolicy (o : Op) (d : Desc) (p : Nat) : Bool :=
  let m := modeOf d.opcode
  let bit := modeBit m
  let use (i : Nat) : Bool := polHas p i
  decide (polKind p = 0) && (polAlgs p).testBit bit && algLenOk bit (polLen p) &&
  (match o with
    | .encrypt => use pEncrypt && (decide (m = 1 ∨ m = 4) || use pCallerIv)
    | .aeadEnc => use pEncrypt && (d.flag fCtxIn || use (if d.flag fDeviceIv then pDeviceIv else pCallerIv))
    | .gmacGen => use pSign && (d.flag fCtxIn || use (if d.flag fDeviceIv then pDeviceIv else pCallerIv))
    | .decrypt | .aeadDec | .decVer => use pDecrypt
    | .gmacVer => use pVerify
    | .macGen => use pSign && (decide (m = 8) || use pHashOk)
    | .macVer | .digVer => use pVerify && (decide (m = 8) || use pHashOk)
    | .reencVer => use pEncrypt && use pDecrypt
    | _ => true)

/-- A wrapping or unwrapping key (R163). -/
def kwpPolicy (p use : Nat) : Bool := decide (polKind p = 0) && (polAlgs p).testBit 18 && polHas p use

/-- The policy of the key in KEY_HANDLE permits the operation. -/
def policyFits (o : Op) (d : Desc) (p : Nat) : Bool :=
  if o.isSym then symPolicy o d p
  else if o.isPka then
    decide (polKind p = pkAlg d.mode) && (decide (pkAlg d.mode ≠ 1) || decide (polLen p = pkModW d.mode)) &&
    (match o with
      | .sign => polHas p pSign
      | .rsaDec | .kemDec => polHas p pDecrypt
      | .keyAgree => polHas p pDerive
      | _ => true)
  else match o with
    | .derive =>
      polHas p pDerive && decide (polKind p = 0) &&
      (if kmSub d.mode = 1 then (polAlgs p).testBit 16 && polHas p pHashOk
       else (polAlgs p).testBit 17 && decide (polLen p = 32)) &&
      (!polHas d.ctx pExport || polHas p pExport)
    | .impWrap => kwpPolicy p pUnwrap
    | .impKem => decide (polKind p = kmSub d.mode) && polHas p pUnwrap
    | .expWrap | .expKem => polHas p pExport
    | .veAttest => decide (polKind p ≠ 0)
    | _ => true

/-- The policy of the second key permits the operation. -/
def policyFits2 (o : Op) (d : Desc) (p : Nat) : Bool :=
  match o with
  | .expWrap => kwpPolicy p pWrap
  | .replace => kwpPolicy p pUnwrap
  | .impKem => decide (polKind p = kmPartner d.mode) && polHas p pUnwrap
  | .veAttest => decide (polKind p ≠ 0)
  | _ => true

/-- Step 5 of R156: the state passes for the opcode (R153). -/
def stateFits (s : State) (o : Op) (i : Nat) : Option Status :=
  let late := match o with | .erase | .eraseUrg | .keyInfo => true | _ => false
  match slotCode s i with
  | 0 => some .keyInvalidHandle
  | 3 => if late then none else some .keyRevoked
  | 4 => if late then none else some .keyExhausted
  | 5 => some .keyFrozen
  | _ => none

/-! ### Resolution (R146, R156 to R158, R161, R233) -/

/-- Handle of a slot with its current epoch (R148). -/
def handleOf (s : State) (i : Nat) : Nat := (getSlot s i).epoch * 2 ^ 24 + i

/-- Regions' fetches outstanding (R23). -/
def fetchesOf (s : State) (m : Nat) : Nat := (s.vault.fetches.filter fun f => decide (f.region = m)).length

/-- The slot's large-key record, unless a frame holds it (R162). -/
def unframed (s : State) (i : Nat) : Option Nat := (getSlot s i).large.filter fun l => !s.vault.frames.contains l

/-- Lines that a record needs: its own, unless the home bank holds its entry, and that of a large-key record it points to unless a frame
holds it (R162). From 2^24 on, `i` names a function record (R256). -/
def fetchLeaves (s : State) (i : Nat) : List Nat :=
  if 2 ^ 24 ≤ i then [leafFn (i - 2 ^ 24)]
  else (if banked s i then [] else [leafSlot i]) ++ (unframed s i).toList.map leafLarge

/-- Issue the reads of a fetch: its lines, and the stored nodes of their paths that are not at hand (R145, R146). -/
def issueFetch (s : State) (f : VFetch) : State :=
  let w : Who := { region := f.region, fn := 0, pasid := vaultPasid s, payer := some (((getReq s f.req).map Req.fn).getD 0) }
  let items := walkItems s (fetchLeaves s f.slot)
  let ps := itemPieces s items
  let s := { s with vault := { s.vault with fetches :=
    (s.vault.fetches.filter fun g => decide (g.id ≠ f.id)) ++ [{ f with outst := ps.length, err := none, items := items, chunks := [] }] } }
  readPieces s w ps (fun _ => .vfetch f.id) true

/-- Echo staging that a request asks for (R115): its whole output, or, above 64 KiB, the chunk of 16 KiB that it releases at a time (DESIGN
CHOICE, log 156). -/
def stagingNeed (q : Req) : Nat :=
  let out := outLen q.op q.d 0
  if out ≤ 65536 then out else 16384

/-- Key encapsulation between blocks. -/
def kemOp : Op → Bool
  | .impKem | .expKem => true
  | _ => false

/-- A replacement of an asymmetric key (R174). -/
def asymReplace (s : State) (q : Req) : Bool :=
  decide (q.op = .replace) && q.slot.any fun i => decide (polKind (getSlot s i).policy ≠ 0)

/-- The cell that a request runs on once its key is known: a replacement of an asymmetric key runs on a PKA unit (R174), and a wrapped
context that is inspected or closed is opened on a cipher lane (R118). -/
def firstKind (s : State) (q : Req) : Option Kind :=
  if asymReplace s q then some .pka
  else match q.op with
    | .ctxInfo | .ctxClose => if opensWrapped q then some .lane else none
    | o => unitKind o q.d

/-- The cell that a request takes beside the one that it runs on (R118): a lane for the derivation and the wrap of key encapsulation, for
the unwrap of an asymmetric replacement and for the wrapped contexts of a hash lane; a PKA unit for the pairwise test of an asymmetric
import. -/
def secondKind (s : State) (q : Req) : Option Kind :=
  if kemOp q.op || asymReplace s q && decide (kmSub q.d.mode = 0) then some .lane
  else if rawAsym q || decide (q.resume = .unit2) then some .pka
  else if decide (unitKind q.op q.d = some .hash) && hashWraps q then some .lane
  else none

/-- The request holds the cell that it runs on, and the one beside it is still to be granted. -/
def wantsSecond (s : State) (q : Req) : Bool := (secondKind s q).isSome && q.unit.isSome && q.unit2.isNone

/-- The cell that a request is granted next. -/
def unitFor (s : State) (q : Req) : Option Kind := if wantsSecond s q then secondKind s q else firstKind s q

/-- Grants that a request takes (R248). -/
def grantsOf (s : State) (q : Req) : Nat :=
  (match firstKind s q with
    | some .lane => max 1 (ceilDiv q.d.srcLen 8192)
    | some .hash => max 1 (ceilDiv q.d.srcLen 4096)
    | _ => 1) + ofBool (secondKind s q).isSome

/-- Checks 1 to 8 have passed: on to the peer port, the calendar or the opcode itself. -/
def enqueue (s : State) (r : Nat) : State :=
  modReq s r fun q => { q with
    grants := grantsOf s q
    phase := if q.d.flag fSrcPeer && !q.sent then .waitPeer else if (unitFor s q).isNone then .ready else .waitGrant }

/-- A request in a phase, in the group. -/
def waitersIn (s : State) (g : Nat) (ph : Phase) : List Nat :=
  s.reqs.filterMap fun e => match e.2 with
    | some q => if q.phase = ph ∧ groupOfReq s q = g then some e.1 else none
    | none => none

/-- Echo staging comes first for an echoed request (R115). -/
def enqueueEcho (s : State) (r : Nat) : State :=
  match getReq s r with
  | none => s
  | some q =>
    let need := stagingNeed q
    let g := groupOfReq s q
    if q.echo && decide (0 < need) then
      if (waitersIn s g .waitEcho).isEmpty && decide (tget 0 s.echoUse g + need ≤ 262144) then
        enqueue (modReq { s with echoUse := tput 0 s.echoUse g (tget 0 s.echoUse g + need) } r fun q => { q with staged := need }) r
      else modReq s r fun q => { q with phase := .waitEcho }
    else enqueue s r

/-- A resolution succeeded: a reference on the generation, and KEY_GEN_FLIP if an earlier step of the chain had another
(R65, R158). -/
def bindKey (s : State) (r i : Nat) (second : Bool) : State :=
  match getReq s r with
  | none => s
  | some q =>
    let gen := (getSlot s i).gen
    let earlier := match getChain s q.chain with | some c => c.gens | none => []
    let flip := earlier.any fun g => decide (g.1 = i ∧ g.2 ≠ gen)
    let s := takeRef s i
    let s := match bankOf s i with | some b => modUnit s (unitAt .kc b) fun u => { u with gated := false } | none => s
    let s := modChain s q.chain fun c => { c with gens := c.gens ++ [(i, gen)] }
    let s := match (getSlot s i).large with
      | some l => { s with vault := { s.vault with frames := (l :: s.vault.frames.filter (· ≠ l)).take 64 } }
      | none => s
    setReq s r (some (if second then { q with slot2 := some i, gen2 := gen, refHeld := true, flip := q.flip || flip, fresh := none }
                      else { q with slot := some i, gen := gen, refHeld := true, flip := q.flip || flip, fresh := none }))

/-- Steps 3 to 6 of R156 on a slot whose record is at hand. -/
def judgeKey (s : State) (q : Req) (i : Nat) (epoch : Option Nat) (second : Bool) : Option Status :=
  let r := getSlot s i
  if r.state ≠ .free ∧ r.owner ≠ q.fn then some .keyInvalidHandle
  else if epoch.any fun e => decide (e ≠ r.epoch) then some .keyStale
  else match stateFits s q.op i with
    | some e => some e
    | none =>
      if (if second then policyFits2 q.op q.d r.policy else policyFits q.op q.d r.policy) then none else some .keyPolicy

/-- Item 4 of R233: the slot that an object tag found is not FREE, carries the tag and belongs to the function. -/
def tagFits (s : State) (q : Req) (i : Nat) : Bool :=
  let r := getSlot s i
  decide (i ≠ 0 ∧ r.state ≠ .free ∧ r.tag = prmObj q.prm ∧ r.owner = q.fn)

/-- A false hit (R233). -/
def falseHit (s : State) (r : Nat) : State :=
  failWith { s with lookup := { s.lookup with falseHits := s.lookup.falseHits + 1 } } [499] fun s => failStep s r .keyNotFound 0

/-- What a request must resolve next: a handle in KEY_HANDLE, an object tag, the second handle, or nothing. -/
inductive Need where
  | tag
  | handle (h : Nat) (second : Bool)
  | nothing
  deriving DecidableEq, Repr

def nextNeed (q : Req) : Need :=
  if namesKey q && q.slot.isNone then (if q.d.flag fTagHandle then .tag else .handle q.d.key false)
  else match secondHandle q with
    | some h => if q.slot2.isNone then .handle h true else .nothing
    | none => .nothing

/-- Whether the record of a slot is at hand, must be waited for, can never be had, or is to be fetched (step 2 of R156). -/
inductive Got where
  | here (install : Bool) | wait | lost | fetch
  deriving DecidableEq, Repr

/-- An update that was accepted before changes the record of a slot, or from 2^24 on of a function, or one in progress changes one of its
lines: the walker serves it first (R155). -/
def locked (s : State) (i : Nat) : Bool :=
  s.vault.updates.any fun u => u.ops.any (opWrites i) || u.begun && u.lines.any (fetchLeaves s i).contains

/-- The home bank holds the slot as ERASING: there is no record to fetch (R177). -/
def pinned (s : State) (i : Nat) : Bool := banked s i && decide (bankState s i = .erasing)

/-- The walker takes no further fetch for a request: the alarm blocks it, its generator has stopped, or its region has 16 under way
(R23, R105, R109). -/
def fetchHeld (s : State) (q : Req) : Bool :=
  s.alarms.blocked || walkerStopped s || decide (16 ≤ fetchesOf s (reqRegion s q))

def lookRecord (s : State) (q : Req) (i : Nat) : Got :=
  if s.vault.damaged.contains (leafSlot i) ||
      (match (getSlot s i).large with | some l => s.vault.damaged.contains (leafLarge l) | none => false) then .lost
  else if q.fresh = some i ∨ (pinned s i || banked s i && (unframed s i).isNone) = true then .here false
  else if lineEmpty s (leafSlot i) then .here false
  else if locked s i || fetchHeld s q then .wait
  else if (match bankOf s i with | some b => !hasWay s b i | none => false) then .wait
  else .fetch

/-- Begin the fetch of a record for a request. That of a slot is a miss of the key cache (R184). -/
def beginFetch (s : State) (r : Nat) (q : Req) (i : Nat) : State :=
  let id := s.vault.nextId
  let s := { s with
    vault := { s.vault with nextId := id + 1 }
    cnt := { s.cnt with cacheMiss := if i < 2 ^ 24 then u64 (s.cnt.cacheMiss + 1) else s.cnt.cacheMiss } }
  issueFetch (setReq s r (some { q with phase := .resolve })) { id := id, slot := i, req := r, region := (reqRegion s q) }

/-- The function record that holds the context key (R146, R256). -/
def lookFn (s : State) (q : Req) : Got :=
  if s.vault.damaged.contains (leafFn q.fn) then .lost
  else if (getFn s q.fn).atHand || lineEmpty s (leafFn q.fn) then .here false
  else if locked s (2 ^ 24 + q.fn) || fetchHeld s q then .wait
  else .fetch

/-- Checks 1 to 8 have passed once the context key, where the request uses it, is at hand. That a replacement needs the PKA units shows with
its key: with none of them ready it fails as at check 7 (DEDUCED, log 172). -/
def afterKeys (s : State) (r : Nat) (q : Req) : State :=
  if asymReplace s q && !readyBit s (some (groupOfReq s q)) 3 then failStep s r .notReady 0
  else if !usesCtxKey q then enqueueEcho s r
  else match lookFn s q with
    | .here _ => enqueueEcho s r
    | .wait => setReq s r (some { q with phase := .resolve })
    | .lost => failStep s r .faultDetected 0
    | .fetch => beginFetch s r q (2 ^ 24 + q.fn)

/-- One resolution (steps 1 to 6 of R156). It answers whether the resolution is over, so that the next can follow. -/
def resolveOne (s : State) (r : Nat) (q : Req) (i : Nat) (epoch : Option Nat) (second : Bool) : State × Bool :=
  match lookRecord s q i with
  | .wait => (setReq s r (some { q with phase := .resolve }), false)
  | .lost => (failStep s r .faultDetected 0, false)
  | .fetch => (beginFetch s r q i, false)
  | .here _ =>
    -- a record that the resolution itself has fetched was a miss
    let s := if (cacheFind s i).isSome && decide (q.fresh ≠ some i) then { s with cnt := { s.cnt with cacheHits := u64 (s.cnt.cacheHits + 1) } } else s
    if epoch.isNone && !tagFits s q i then (falseHit s r, false)
    else
      match judgeKey s q i epoch second with
      | some e => (failStep s r e 0, false)
      | none => (bindKey s r i second, true)

/-- QIDs of a region that are free (R395). -/
def freeQid (s : State) (m : Nat) : Option Nat :=
  ((List.range 16).map (16 * m + ·)).find? fun id =>
    !(s.lookup.queries.any fun k => decide (k.qid = id)) && !s.lookup.quar.contains id

/-- Send a query for a request's object tag, if its region has a free QID (R233, R395). -/
def sendQuery (s : State) (r : Nat) (q : Req) : State :=
  let s := setReq s r (some { q with phase := .lookup })
  match freeQid s (reqRegion s q) with
  | some id => { s with lookup := { s.lookup with queries := s.lookup.queries ++ [{ qid := id, req := r, tag := prmObj q.prm, fn := q.fn }] } }
  | none => s

/-- Resolve what a request names, at most its two keys, and queue it when nothing is left. -/
def resolveFrom : Nat → State → Nat → State
  | 0, s, _ => s
  | fuel + 1, s, r =>
    match getReq s r with
    | none => s
    | some q =>
      match nextNeed q with
      | .nothing => afterKeys s r q
      | .tag =>
        match q.target with
        | none => sendQuery s r q
        | some i =>
          let p := resolveOne s r q i none false
          if p.2 then resolveFrom fuel p.1 r else p.1
      | .handle h second =>
        let named := if h = 2 ^ 24 then
            (match getChain s q.chain with | some c => c.created | none => none)
          else if h % 2 ^ 24 = 0 then none else some h
        match named with
        | none => failStep s r .keyInvalidHandle 0
        | some h =>
          let p := resolveOne s r q (h % 2 ^ 24) (some (h / 2 ^ 24)) second
          if p.2 then resolveFrom fuel p.1 r else p.1

def resolve (s : State) (r : Nat) : State := resolveFrom 3 s r

/-- Requests that wait at their key resolution try again, in order of arrival (R110, R161). -/
def retryResolve (s : State) : State :=
  (s.reqs.filterMap fun e => match e.2 with
    | some q => if q.phase = .resolve ∧ !(s.vault.fetches.any fun f => decide (f.req = e.1)) then some e.1 else none
    | none => none).foldl resolve s

/-! ### The start of a step -/

/-- Checks 7 and 8 of a step, once its context has been read. -/
def check78 (s : State) (r : Nat) : State :=
  match getReq s r with
  | none => s
  | some q =>
    match readiness s q with
    | some e => failStep s r e.1 e.2
    | none => resolve s r

/-- LIVE values of a request (R275): VECTOR of its ring, and the slot, large-key and shadow quotas of its function. -/
def readLive (s : State) (q : Req) : Req :=
  { q with vector := ringCfg s q.ring 0x12, quotas := (fnCfg s q.fn 5, fnCfg s q.fn 6, fnCfg s q.fn 7) }

/-- A step starts: a chain step reads its LIVE values now, a request of an RP1 or RP2 ring read them when its check 1 began (R58, R275).
Its streaming context is read first, so that a failed read is reported as check 6 reports it (R45). DESIGN CHOICE (log 155): a chain step
after step 0 reads its context here, once the steps before it have ended, and not with check 6 before step 0. -/
def startStep (s : State) (r : Nat) : State :=
  match getReq s r with
  | none => s
  | some q =>
    let q := if q.ver = 3 then readLive s q else q
    let s := setReq { s with cal := { s.cal with usReqs := s.cal.usReqs + 1 } } r (some q)
    if readsCtx q then issueReads s r .ctx 0 (piecesOf q.d.ctx 256) false
    else check78 s r

/-- Step 0 runs: the chain has its space. -/
def startChain (s : State) (cid : Nat) : State :=
  match getChain s cid with
  | none => s
  | some c =>
    let s := setChain s cid (some { c with started := true, waitBuf := false })
    match c.steps.head? with
    | none => s
    | some r => startStep s r

/-- The chain takes pages of its group's buffer. -/
def takePages (s : State) (cid : Nat) (c : Chain) (pages : Nat) : State :=
  { setChain s cid (some { c with pages := pages }) with
    chainUse := tput 0 s.chainUse c.group (tget 0 s.chainUse c.group + pages) }

/-- Place the chain's intermediates and start it, let it wait, or reject it (R63). DESIGN CHOICE (log 124): a chain that fits by rule 1
but finds others waiting reserves the figure of rule 3, and its steps that name spill buffers spill. -/
def placeAndStart (s : State) (cid : Nat) : State :=
  match getChain s cid with
  | none => s
  | some c =>
    match placeChain s c with
    | .buffer n => startChain (takePages s cid c n) cid
    | .spill => startChain (markSpill s c) cid
    | .wait n =>
      let s := markSpill s c
      if n ≤ 256 - tget 0 s.chainUse c.group ∧ (bufWaiters s c.group).isEmpty = true then startChain (takePages s cid c n) cid
      else setChain s cid (some { c with waitBuf := true })
    | .reject k => rejectChain s cid ((c.steps[k]?).getD cid) .destOverflow 0

/-- Checks 1 to 6 of a chain, step by step from the one it stands at (R61). -/
def gather : Nat → State → Nat → State
  | 0, s, _ => s
  | fuel + 1, s, cid =>
    match getChain s cid with
    | none => s
    | some c =>
      match c.steps[c.gather]? with
      | none => placeAndStart s cid
      | some r =>
        match getReq s r with
        | none => s
        | some q =>
          let pred := if c.gather = 0 then none else (stepReq s c (c.gather - 1)).map Req.d
          match staticBad q.fn q.ver c.gather pred ((stepReq s c (c.gather + 1)).any eats) q.d with
          | some e => rejectChain s cid r e.1 e.2
          | none =>
            match nextLook q .param with
            | .over => gather fuel (setChain (setReq s r (some { q with phase := .checked })) cid
                (some { c with gather := c.gather + 1 })) cid
            | l => beginLook s r q l

/-- A read of check 6 has ended; the next one follows, or the next step. -/
def afterLook (s : State) (r : Nat) (l : Look) : State :=
  match getReq s r with
  | none => s
  | some q =>
    match nextLook q l with
    | .over =>
      let s := setReq s r (some { q with phase := .checked })
      gather 20 (modChain s q.chain fun c => { c with gather := c.gather + 1 }) q.chain
    | l => beginLook s r q l

/-- Entries of a scatter list from a line (R47, R48): the list so far, or what is wrong, or where to read on. -/
inductive ListEnd where
  | more (addr : Nat)
  | over
  | bad (st : Status) (res : Nat)
  deriving DecidableEq, Repr

def scanList : Nat → Nat → Bytes → Nat → Nat → List (Nat × Nat) → ListEnd × Nat × Nat × List (Nat × Nat)
  | 0, addr, _, n, links, acc => (.more addr, n, links, acc)
  | fuel + 1, addr, b, n, links, acc =>
    if b.length < 16 then (.more addr, n, links, acc)
    else match sglEntry (b.take 16) with
      | .bad => (.bad .descField (0x80 + 16 * n), n, links, acc)
      | .link a => if links = 16 then (.bad .chainLoop 0, n, links, acc) else (.more a, n + 1, links + 1, acc)
      | .elem a l last =>
        let acc := acc ++ [(a, l)]
        if 4096 < acc.length then (.bad .descField (0x80 + 16 * n), n, links, acc)
        else if last then (.over, n + 1, links, acc)
        else scanList fuel (addr + 16) (b.drop 16) (n + 1) links acc

/-- Sum of the lengths of a list. -/
def listLen (l : List (Nat × Nat)) : Nat := l.foldl (fun n e => n + e.2) 0

/-- A line of the source or destination list has arrived; `addr` is where it began. -/
def listArrived (s : State) (r : Nat) (q : Req) (src : Bool) (addr : Nat) (b : Bytes) : State :=
  let e := scanList 9 addr b q.sglN q.sglLinks (if src then q.srcL else q.dstL)
  let q := { q with sglN := e.2.1, sglLinks := e.2.2.1 }
  let q := if src then { q with srcL := e.2.2.2 } else { q with dstL := e.2.2.2 }
  let s := setReq s r (some q)
  match e.1 with
  | .bad st res => rejectChain s q.chain r st res
  | .more a => readList s r q.phase a
  | .over =>
    if src && decide (listLen q.srcL ≠ q.d.srcLen) then rejectChain s q.chain r .descField 0x18
    else if !src && decide (listLen q.dstL ≠ q.d.dstCap) then rejectChain s q.chain r .descField 0x1C
    else afterLook s r (if src then .dstList else .operand)

/-! ### Taking chains from a ring (R56 to R60) -/

/-- A chain of more than 16 steps runs no step (R60). -/
def endTooLong (s : State) (n : Nat) (ids : List Nat) : State :=
  let s := modRing s n fun r => { r with waiting := r.waiting.drop ids.length, open_ := r.open_ + ids.length }
  ids.foldl (fun s r =>
    match getReq s r with
    | none => s
    | some q =>
      let res := if q.idx = 15 then 2 else 0
      let s := retireReq s r q
      putEntry s n q.chain .chainTooLong false true true (ringCfg s n 0x12) false fun ver ph =>
        cqEntry ver q.d.tag Status.chainTooLong.code (phaseFlags ver ph true false false false false) q.idx res) s

/-- Sequencer of a group that takes a chain: of those that do not drain (R324), the one that runs the fewest (R16 leaves the choice open;
DESIGN CHOICE, log 123). -/
def pickSeq (s : State) (g : Nat) : Nat :=
  let load (u : Nat) : Nat := (s.chains.filter fun e => match e.2 with | some c => decide (c.group = g ∧ c.seq = u) | none => false).length
  let all := activeCells s .seq g
  let keep := all.filter fun u => !(getUnit s u).draining
  let us := if keep.isEmpty then all else keep
  ((us.find? fun u => us.all fun v => decide (load u ≤ load v))).getD (unitAt .seq (8 * g))

/-- A chain leaves the waiting part of its ring and its checks begin, in the group that fetched its first descriptor (R16). -/
def takeChain (s : State) (n : Nat) (ids : List Nat) : State :=
  match ids with
  | [] => s
  | cid :: _ =>
    let fence := match getReq s cid with | some q => q.d.flag fFence | none => false
    let s := modRing s n fun r =>
      { r with waiting := r.waiting.drop ids.length, open_ := r.open_ + ids.length, fenced := fence }
    let g := match getReq s cid with | some q => q.group | none => 0
    let s := ids.foldl (fun s r => modReq s r fun q => { readLive s q with chain := cid, echo := echoed s q }) s
    let s := modUnit s (pickSeq s g) fun u => { u with gated := false }
    let s := setChain s cid (some { ring := n, group := g, seq := pickSeq s g, steps := ids, fence := fence, left := ids.length })
    gather 20 s cid

/-- The first whole chain or request of the waiting part. -/
def firstWhole (s : State) : List Nat → Option (List Nat)
  | [] => none
  | r :: t =>
    match getReq s r with
    | some q => if q.d.flag fChain && decide (q.ver = 3) then (firstWhole s t).map (r :: ·) else some [r]
    | none => some [r]

/-- A chain of the ring has been taken and has not started: later ones wait, so that requests start in ring order (R56). A
fence holds them too (R57), and so does the drain of a change of ECHO (R275). -/
def ringHeld (s : State) (n : Nat) : Bool :=
  (getRing s n).fenced || (getRing s n).echoWait || s.chains.any fun e => match e.2 with
    | some c => decide (c.ring = n) && !c.started
    | none => false

/-- Start what may start of a ring's fetched descriptors, in ring order (R56 to R58). -/
def pump : Nat → State → Nat → State
  | 0, s, _ => s
  | fuel + 1, s, n =>
    if ringHeld s n then s
    else match firstWhole s (getRing s n).waiting with
      | none => s
      | some ids =>
        let fence := match ids.head?.bind (getReq s) with | some q => q.d.flag fFence | none => false
        if 16 < ids.length then pump fuel (endTooLong s n ids) n
        else if fence && decide ((getRing s n).open_ ≠ 0) then s
        else pump fuel (takeChain s n ids) n

def pumpRing (s : State) (n : Nat) : State := pump ((getRing s n).waiting.length + 1) s n

/-- Every ring that holds fetched descriptors. -/
def pumpAll (s : State) : State := (s.rings.map Prod.fst).foldl pumpRing s

/-! ### A step that ran to its end -/

/-- A step ends with OK or VERIFY_MISMATCH; the next step of its chain starts (R64). -/
def endStep (s : State) (r : Nat) (st : Status) (res : Nat) : State :=
  match getReq s r with
  | none => s
  | some q =>
    match getChain s q.chain with
    | none => endReq s r st res false
    | some c =>
      let fd := feedsStep s c (posOf c r)
      let made := match q.newSlot with | some i => some (handleOf s i) | none => c.created
      let s := setChain s q.chain (some { c with
        inter := if fd && !q.spilled then q.out else [], spillAt := if fd && q.spilled then some q.d.dst else none, created := made, spill := c.spill || q.spilled, cur := posOf c r + 1 })
      let s := endReq s r st res false
      match (stepsAfter c r).head? with
      | none => s
      | some n => startStep s n

end Sys2Proof.Machine
end

