-- ==== Sys2Proof/Machine/Data.lean ====
section
/-!
DEFINITION. The data of a request (R26, R48, R52, R62, R63, R78, R92): its source and reference are read, its output and its
context are written, and the end of the step follows.
-/
namespace Sys2Proof.Machine

open Sys2Proof

/-- Pieces of the source in host memory: none for a step without one, for an intermediate on die and for a peer's job. -/
def sourcePieces (s : State) (q : Req) : List (Nat × Nat × Nat) :=
  if !hasSrc q.op q.d.mode || decide (q.d.srcLen = 0) || q.d.flag fSrcPeer then []
  else if eats q then
    (match getChain s q.chain with
      | some c => (match c.spillAt with | some a => piecesOf a q.d.srcLen | none => [])
      | none => [])
  else if q.d.flag fSrcSgl then streamPieces 0 q.srcL
  else piecesOf (if q.d.hdr then q.d.src + 64 else q.d.src) q.d.srcLen

/-- Pieces of the reference that a verify-without-output request or VERIFY reads (R97, R121). -/
def refPieces (q : Req) : List (Nat × Nat × Nat) :=
  if !refersDst q.op then []
  else if q.d.flag fDstSgl then streamPieces 0 q.dstL else piecesOf q.d.dst q.d.dstCap

/-- The keys that a request uses enter the registers of its units, in shares (R102, R109). -/
def loadKey (s : State) (q : Req) : Req :=
  let k := entMat s q.slot q.gen
  { q with
    regs := if q.unit.isSome then k else [], regs2 := if q.unit2.isSome && q.echo then k else []
    regsB := if q.unit.isSome then entMat s q.slot2 q.gen2 else [] }

/-- Issue the reads of source and reference; with nothing to read the request is loaded at once. -/
def beginData (s : State) (r : Nat) : State :=
  match getReq s r with
  | none => s
  | some q =>
    let a := sourcePieces s q
    let b := refPieces q
    let inter := if eats q then (match getChain s q.chain with | some c => c.inter | none => []) else []
    let s := setReq s r (some { loadKey s q with
      srcB := if q.d.flag fSrcPeer then q.srcB else inter, refB := [], chunks := [], outst := a.length + b.length, err := none
      phase := if a.isEmpty && b.isEmpty then .loaded else .reading })
    let w := reqWho s q
    readPieces (readPieces s w a (fun off => .req r 0 off) false) w b (fun off => .req r 1 off) false

/-- Every piece has arrived. -/
def dataArrived (s : State) (r : Nat) (q : Req) : State :=
  let part (i : Nat) : Bytes := joinChunks ((q.chunks.filter fun c => decide (c.1 = i)).map Prod.snd)
  setReq s r (some { q with
    srcB := if (eats q || q.d.flag fSrcPeer) && q.srcB.length ≠ 0 then q.srcB else part 0, refB := part 1, chunks := [], phase := .loaded })

/-- The end of a step whose writes are all good: the context first (R92), then the completion. -/
def afterWrites (s : State) (r : Nat) : State :=
  match getReq s r with
  | none => s
  | some q =>
    if !q.status.ran then failStep s r q.status q.result
    else if q.ctxOut ≠ [] then
      let w := reqWho s q
      let ps := piecesOf q.d.ctx q.ctxOut.length
      writePieces (setReq s r (some { q with phase := .ctxWrite, outst := ps.length, ctxOut := [] })) w ps q.ctxOut
        (fun _ => .ctx r) false
    else endStep s r q.status q.result

/-- Output of a step: to its destination, to its spill buffer, or to the chain buffer, where nothing leaves the block (R62,
R63). `st` and `res` are the outcome once every write response has come back good. -/
def writeOut (s : State) (r : Nat) (out : Bytes) (st : Status) (res : Nat) : State :=
  match getReq s r with
  | none => s
  | some q =>
    let fd := feeds s r
    let ps :=
      if out = [] ∨ (fd = true ∧ q.spilled = false) then []
      else if q.d.flag fDstSgl && !fd then streamPieces 0 (cutList out.length q.dstL)
      else piecesOf q.d.dst out.length
    let s := setReq s r (some { q with
      out := if fd then out else [], status := st, result := res, phase := .writing, outst := ps.length, chunks := [], err := none })
    if ps.isEmpty then afterWrites s r
    else writePieces s (reqWho s q) ps out (fun _ => .out r) false

/-- A write response of a request, output or context. -/
def reqWritten (s : State) (r : Nat) (err : Option Status) : State :=
  match getReq s r with
  | none => s
  | some q =>
    let e := match q.err with | some e => some e | none => err
    let s := setReq s r (some { q with outst := q.outst - 1, err := e })
    if 1 < q.outst then s
    else match e with
      | some e => failStep s r e 0
      | none => if q.phase = .writing ∨ q.phase = .ctxWrite then afterWrites s r else s

/-- Update the lines of a list of chunks: one more piece of a request's read stage has ended. -/
def addChunk (q : Req) (stream off : Nat) (err : Option Status) (b : Bytes) : Req :=
  { q with
    outst := q.outst - 1
    err := match q.err with | some e => some e | none => err
    chunks := q.chunks ++ [(stream, off, b)] }

/-- The streaming context has arrived: check 7 of R45 follows. -/
def ctxArrived (s : State) (r : Nat) (q : Req) (b : Bytes) : State :=
  check78 (setReq s r (some { q with ctxIn := b, chunks := [] })) r

/-- The parameter block or parameter header has arrived (R44, R46). -/
def prmArrived (s : State) (r : Nat) (q : Req) (b : Bytes) : State :=
  match prmBad q.ver q.op q.d b with
  | some x => rejectChain s q.chain r .descField x
  | none =>
    let d := if q.ver = 1 ∧ takesAad q.op q.d = true then { q.d with aadLen := fld b 60 4 } else q.d
    afterLook (setReq s r (some { q with prm := b, d := d, chunks := [] })) r .srcList

/-- A read stage of a request has ended, with every piece in or with an error (R45, R213). -/
def stageEnded (s : State) (r : Nat) : State :=
  match getReq s r with
  | none => s
  | some q =>
    let b := joinChunks (q.chunks.map Prod.snd)
    match q.err with
    | some e =>
      (match q.phase with
        | .param | .srcList | .dstList | .operand => rejectChain s q.chain r e 0
        | _ => failStep s r e 0)
    | none =>
      match q.phase with
      | .param => prmArrived s r q b
      | .srcList => listArrived s r q true ((q.chunks.head?.map fun c => c.2.1).getD 0) b
      | .dstList => listArrived s r q false ((q.chunks.head?.map fun c => c.2.1).getD 0) b
      | .operand => afterLook (setReq s r (some { q with opnd := b, chunks := [] })) r .over
      | .ctx => ctxArrived s r q b
      | .reading => dataArrived s r q
      | _ => s

/-- One piece of a request's read has ended. -/
def reqRead (s : State) (r stream off : Nat) (err : Option Status) (b : Bytes) : State :=
  match getReq s r with
  | none => s
  | some q =>
    let q := addChunk q stream off err b
    let s := setReq s r (some q)
    if q.outst = 0 then stageEnded s r else s

end Sys2Proof.Machine
end

