-- ==== Sys2Proof/Machine/Updates.lean ====
section
/-!
DEFINITION. What the end of a vault fetch or of a vault update brings about (R130, R146, R147, R177).
-/
namespace Sys2Proof.Machine

open Sys2Proof

/-! ### Updates -/

/-- An update's outcome reaches the erase requests of a slot (steps 5 and 6 of R177). A failed one leaves the slot ERASING,
noted in the retention store. -/
def eraseEnded (s : State) (i : Nat) (err : Option Status) : State :=
  let rs := erasers s i
  match err with
  | none => rs.foldl (fun s r => endStep s r .ok 0) s
  | some e =>
    rs.foldl (fun s r => failStep s r e 0) { s with vault := { s.vault with noted := addNew s.vault.noted i } }

/-- An action of a function ends: ACTION_STATUS, one message on EVENT_VECTOR (R259). -/
def actEnd (s : State) (f code : Nat) : State :=
  raiseOwn (modFn s f fun r => { r with actStatus := code, act := none })

/-- Renewals of context keys that an update completes (R256, R259). One whose update fails ends with 17h (DESIGN CHOICE, log 182). -/
def renewEnded (s : State) (u : VUpd) (err : Option Status) : State :=
  u.ops.foldl (fun s o => match o with
    | .ctxKey f _ =>
      (match (getFn s f).act with
        | some a => if a.kind = .renew then actEnd s f (if err.isNone then 2 else 0x17) else s
        | none => s)
    | _ => s) s

/-- Ring pairs, channels and committed values that a RESTORE holds for its function go back: its update has failed, or is dropped (R263). -/
def unassign (s : State) (u : VUpd) : State :=
  u.ops.foldl (fun s o => match o with | .restore f r => unrestoreFn s f r | _ => s) s

/-- The update is that of a RESTORE. -/
def restores (u : VUpd) : Bool := u.ops.any fun o => match o with | .restore _ _ => true | _ => false

/-- The update is the last of a destruction. -/
def endsFn (u : VUpd) : Bool := u.ops.any fun o => match o with | .absent _ _ => true | _ => false

/-- A slot's ERASING record that could not be written is noted (R177); so is the slot of a request that could not be freed. -/
def noteFailed (s : State) (u : VUpd) : State :=
  -- an ABANDON changes nothing until its one update succeeds (R266)
  if endsFn u then s
  else u.ops.foldl (fun s o => match o with
    | .erasing i | .free i => { s with vault := { s.vault with noted := addNew s.vault.noted i } }
    | _ => s) s

/-- The request that waited for an update goes on. -/
def resumeReq (s : State) (r : Nat) (err : Option Status) : State :=
  match getReq s r with
  | none => s
  | some q =>
    if q.phase = .ended then
      match q.resume, err, q.newSlot with
      -- the creation reached its effect point after the request had been ended: the new slot is scrubbed and freed
      | .create, none, some i => submitUpd (setReq s r (some { q with resume := .erase })) [.free i] (some r)
      | .create, some _, some i => endFailed (unpickSlot s i) r q.status q.result
      | _, _, _ => endFailed s r q.status q.result
    else if q.phase = .vault then
      match err with
      | some e =>
        (match q.resume, q.newSlot with
          | .create, some i => endFailed (unpickSlot s i) r e 0
          | _, _ => failStep s r e 0)
      | none =>
        match q.resume with
        | .values =>
          -- a request whose cell was fenced meanwhile is granted another (R17)
          if q.unit.isNone && (unitFor s q).isSome then setReq s r (some { q with phase := .waitGrant, grants := grantsOf s q })
          else beginData s r
        | .mark => afterWrites s r
        | _ =>
          let head := match q.newSlot with | some i => le 4 (handleOf s i) ++ zeros 4 | none => []
          writeOut (setReq s r (some { q with phase := .loaded, resSlot := false, resLarge := false, resShad := false })) r
            (head ++ q.out) .ok q.result
    else s

/-- An update joins the queue again, ahead of the last one of a destruction, which waits for it (R243, R264). -/
def requeue (s : State) (ops : List VOp) : State :=
  let us := s.vault.updates
  { s with vault := { s.vault with updates := us.filter (fun u => !endsFn u) ++ { ops := ops } :: us.filter endsFn } }

/-- A failed RESTORE is taken back in one update, which is repeated until it has succeeded. -/
def takesBack (u : VUpd) : Bool := u.ops.any fun o => match o with | .unrestore _ _ => true | _ => false

/-- A freeze mark that could not be written is written again, since a freeze and a thaw do not fail (R257, R258); so is the context key
of a function that has none yet (R256), the free of a slot whose owner is being destroyed (R243, R264), and what takes a RESTORE back. -/
def markAgain (s : State) (u : VUpd) : State :=
  if takesBack u then
    requeue s (u.ops.filter fun o => match o with | .unput i _ => !s.vault.damaged.contains (leafSlot i) | _ => true)
  else u.ops.foldl (fun s o =>
    let again : Bool := match o with
      | .freeze _ _ => true
      | .ctxKey f _ => (getFn s f).ctxKey.isEmpty && !s.vault.damaged.contains (leafFn f)
      | .free i => decide ((getFn s (getSlot s i).owner).state = .destroying) && !s.vault.damaged.contains (leafSlot i)
      | .absent f _ => decide ((getFn s f).state = .destroying)
      | _ => false
    if again then requeue s [o] else s) s

/-- What an update's end brings: the slot erases, the renewals, and the request that waits. -/
def updEnded (s : State) (u : VUpd) (err : Option Status) : State :=
  let s := if err.isSome then markAgain (noteFailed s u) u else s
  let s := renewEnded s u err
  let frees := u.ops.filterMap fun o => match o with | .free i => some i | _ => none
  let s := frees.foldl (fun s i => eraseEnded s i err) s
  match u.req with
  | some r => resumeReq s r err
  -- a creation whose request a warm reset has ended gives back its slot with the rollback, or it is to be scrubbed and freed
  -- (R130, R159, R180); a RESTORE that fails gives back all that it holds (R259)
  | none =>
    if err.isSome then unassign (u.puts.foldl unpickSlot s) u
    else if restores u then s
    else { s with vault := { s.vault with noted := u.puts.foldl addNew s.vault.noted } }

/-- Issue the writes of another attempt. -/
def retryUpd (s : State) (u : VUpd) (t : List VUpd) (ws : List (Nat × Bytes)) : State :=
  let r := vaultWrites s (anyRegion s) (updFn s u) ws
  { r.1 with vault := { r.1.vault with updates := { u with outst := r.2, tryNo := u.tryNo + 1, failed := [], err := none } :: t } }

/-- The walker goes on to its next update, and resolutions that waited for the end of the last one are served (R155). -/
def walkOn (s : State) : State := beginUpd (retryResolve s)

/-- The update in front leaves the queue and the next one begins. -/
def popUpd (s : State) : State :=
  { s with vault := { s.vault with updates := s.vault.updates.tail } }

/-- Every response of the update's present attempt is in (R147). -/
def attemptEnded (s : State) (u : VUpd) (t : List VUpd) : State :=
  if u.failed.isEmpty then
    if u.tryNo < 2 then walkOn (updEnded (popUpd (effectPoint s u)) u none)
    else
      -- the rollback has rewritten every location: the vault is unchanged
      let s := { popUpd s with vault := { (popUpd s).vault with writeBack := [] } }
      walkOn (updEnded s u (some (u.fail.getD .memError)))
  else if u.tryNo = 0 then retryUpd s u t u.failed
  else if u.tryNo = 1 then
    -- the previous contents of every location are written back
    retryUpd s { u with fail := u.err } t (s.vault.writeBack.map Prod.snd)
  else
    let s := { popUpd s with vault := { (popUpd s).vault with writeBack := [] } }
    let s := raiseSrc (u.lines.foldl damageLine s) 497
    walkOn (updEnded s u (some (u.fail.getD .memError)))

/-- A write of the update in progress has been answered. -/
def updWritten (s : State) (addr : Nat) (data : Bytes) (err : Option Status) : State :=
  match s.vault.updates with
  | [] => s
  | u :: t =>
    let u := { u with
      outst := u.outst - 1
      err := match u.err with | some e => some e | none => err
      failed := if err.isSome then u.failed ++ [(addr, data)] else u.failed }
    let s := { s with vault := { s.vault with updates := u :: t } }
    if u.outst = 0 then attemptEnded s u t else s

/-- The line of the new slot of a creation failed its check: the slot is withdrawn, and the next candidate is taken, four at
most (R159), with another large-key record where that one's line failed, too. It answers whether that was so. -/
def nextCandidate (s : State) (u : VUpd) : Option State :=
  match u.ops, u.req with
  | .put i rec_ :: rest, some r =>
    (match getReq s r with
      | none => none
      | some q =>
        if q.phase ≠ .vault ∨ q.resume ≠ .create ∨ q.newSlot ≠ some i ∨ 3 ≤ q.cands ∨ s.vault.damaged.contains (leafSlot i) = false then none
        else match pickSlot s with
          | none => none
          | some p =>
            let large := rec_.large.map fun l => if p.2.vault.damaged.contains (leafLarge l) then freeLarge p.2 else l
            some { setReq p.2 r (some { q with newSlot := some p.1, cands := q.cands + 1 }) with
              vault := { p.2.vault with updates := p.2.vault.updates ++
                [{ ops := .put p.1 { rec_ with epoch := (getSlot p.2 p.1).epoch, large := large } :: rest, req := some r, region := u.region }] } })
  | _, _ => none

/-- A creation that fails with its lines (R159): a slot whose own line failed has been withdrawn with it, and any other returns. -/
def forgetSlot (s : State) (u : VUpd) : State :=
  match u.req with
  | none => s
  | some r => modReq s r fun q =>
      if q.resume = .create ∧ (q.newSlot.any fun i => s.vault.damaged.contains (leafSlot i)) = true then { q with newSlot := none } else q

/-- Lines whose check has failed for the second time are damaged, and counted (R146). -/
def damageLines (s : State) (bad : List Nat) : State :=
  let new := bad.filter fun l => !s.vault.damaged.contains l
  if new.isEmpty then s
  else raiseSrc (new.foldl damageLine { s with cnt := { s.cnt with integrity := s.cnt.integrity + BitVec.ofNat 32 new.length } }) 494

/-- The reads of the update in front are all in: a memory error ends it, nothing changed; a line that fails its check is read once
more with its path, and is then damaged (R146, R159). -/
def updReadEnded (s : State) (u : VUpd) (t : List VUpd) : State :=
  match u.err with
  | some e => walkOn (updEnded (popUpd s) u (some e))
  | none =>
    let bad := u.lines.filter fun l => decide (verifyLine s u.chunks l = .bad)
    if bad.isEmpty then writeUpd (cacheNodes s (u.lines.flatMap (verifiedNodes s u.chunks))) u t
    else if !u.again && bad.any (fun l => !s.vault.damaged.contains l) then readUpd s { u with again := true } t (updReads s u.lines)
    else
      let s := damageLines (popUpd s) bad
      match nextCandidate s u with
      | some s' => walkOn s'
      | none => walkOn (updEnded (forgetSlot s u) u (some .faultDetected))

/-- A read of the update in progress has ended. -/
def updRead (s : State) (off : Nat) (b : Bytes) (err : Option Status) : State :=
  match s.vault.updates with
  | [] => s
  | u :: t =>
    if !u.reading then s
    else
      let u := { u with
        outst := u.outst - 1
        err := match u.err with | some e => some e | none => err
        chunks := u.chunks ++ [(off, b)] }
      let s := { s with vault := { s.vault with updates := u :: t } }
      if u.outst = 0 then updReadEnded s u t else s

/-! ### Fetches -/

/-- The record has been read and verified: it is installed, in its bank or in staging, and the request goes on (R146, R161). A function
record is at hand from then on (R256). Where the vault has been shut meanwhile nothing is installed (R340). -/
def fetchGood (s : State) (f : VFetch) (leaves : List Nat) : State :=
  let s := cacheNodes s (leaves.flatMap (verifiedNodes s f.chunks))
  let s :=
    if 2 ^ 24 ≤ f.slot then modFn s (f.slot - 2 ^ 24) fun r => { r with atHand := true }
    else
      let s := if (cacheFind s f.slot).isSome || s.vault.testShut then s else cacheInstall s f.slot
      if (cacheFind s f.slot).isSome then modReq s f.req fun q => { q with fresh := some f.slot } else s
  let s := resolve s f.req
  -- an entry served uncached stays only while a reference holds it (R18, R158)
  retryResolve { s with cache := s.cache.filter fun e => !(decide (e.bank = stagingBank ∧ e.refs = 0)) }

/-- The reads of a fetch are all in (R146). -/
def fetchEnded (s : State) (f : VFetch) : State :=
  let drop (s : State) : State := { s with vault := { s.vault with fetches := s.vault.fetches.filter fun g => decide (g.id ≠ f.id) } }
  match f.err with
  | some e => walkOn (failStep (drop s) f.req e 0)
  | none =>
    let leaves := (f.items.filter fun p => decide (p.1 = 0)).map Prod.snd
    let bad := leaves.filter fun l => decide (verifyLine s f.chunks l = .bad)
    if bad.isEmpty then beginUpd (fetchGood (drop s) f leaves)
    else if !f.again && bad.any (fun l => !s.vault.damaged.contains l) then issueFetch s { f with again := true }
    else walkOn (failStep (damageLines (drop s) bad) f.req .faultDetected 0)

/-- A read of a fetch has ended. -/
def fetchRead (s : State) (id off : Nat) (err : Option Status) (b : Bytes) : State :=
  match s.vault.fetches.find? fun f => decide (f.id = id) with
  | none => s
  | some f =>
    let f := { f with
      outst := f.outst - 1
      err := match f.err with | some e => some e | none => err
      chunks := f.chunks ++ [(off, b)] }
    let s := { s with vault := { s.vault with fetches := s.vault.fetches.map fun g => if g.id = id then f else g } }
    if f.outst = 0 then fetchEnded s f else s

end Sys2Proof.Machine
end

