-- ==== Sys2Proof/Machine/Runs.lean ====
section
/-!
DEFINITION. Procession (R199 to R222): channels and their starts, descriptors and their checks, the operations on host memory,
the end of runs and timers.
-/
namespace Sys2Proof.Machine

open Sys2Proof

/-! ### Channels -/

/-- Who a channel's accesses speak for (R200), over the ports of its mover's region (R199). -/
def chanWho (s : State) (c : Nat) : Who :=
  { region := runMover s c / 2, fn := (getChan s c).owner.getD 0, pasid := chanCfg s c 4 }

/-- A channel that starts reach: neither DISABLED nor in ERROR (R204). -/
def chanEnabled (r : ChanRec) : Bool := decide (r.state ≠ .disabled ∧ r.state ≠ .error)

/-- Purposes of a channel's transactions. -/
def ownChan (c : Nat) : Own → Bool
  | .head c' | .cdesc c' | .cdata c' _ _ | .cwrite c' _ | .ccb c' _ => decide (c' = c)
  | _ => false

/-- START_OVERRUN (R204, R205); the run in progress reports STARTS_LOST (R203). -/
def startLost (r : ChanRec) : ChanRec :=
  { r with errors := r.errors ||| 1, run := r.run.map fun x => { x with lost := true } }

/-- A timer or completion start (R205, R222): whether it was delivered. A channel that CHAN_CMD disables takes none. -/
def addStart (s : State) (c : Nat) : State × Bool :=
  let r := getChan s c
  if !chanEnabled r || r.disable || decide (r.state = .frozen) then (s, false)
  else if r.pending = 255 then (setChan s c (startLost r), false)
  else (setChan s c { r with pending := r.pending + 1 }, true)

/-- The interrupt of a channel (R218), on the VECTOR that its run read with HEAD (R275). -/
def signalChan (s : State) (c : Nat) : State :=
  raiseFn s ((getChan s c).owner.getD 0) (match (getChan s c).run with | some x => x.vector | none => chanCfg s c 0x0A)

/-- A channel at rest after its run or its stop (R217, R222): a disable leaves PENDING, RUNS and the doorbell's previous value zero, and
the channel DISABLED; where CHAN_CMD has been committed ENABLED meanwhile it is newly enabled (DESIGN CHOICE, log 165). Any other end
leaves it IDLE, or FROZEN until the thaw. -/
def chanRest (s : State) (c : Nat) (r : ChanRec) : ChanRec :=
  let r := if r.disable then { r with pending := 0, runs := 0, prev := 0 } else r
  if r.disable && decide (chanCfg s c 5 = 0) then { r with run := none, disable := false, state := .disabled, thaw := .disabled }
  else { r with run := none, disable := false, state := if r.state = .frozen then .frozen else .idle
                thaw := if r.state = .frozen then .idle else r.thaw }

/-- A channel's read of HEAD or write of its CCB failed (R203). One whose disable is pending becomes DISABLED, with CCB_FAILED set, and not
ERROR (DESIGN CHOICE, log 180). -/
def ccbFailed (s : State) (c : Nat) : State :=
  modChan (signalChan s c) c fun r =>
    if r.disable then { chanRest s c r with errors := r.errors ||| 2 }
    else { r with errors := r.errors ||| 2, pending := 0, run := none, state := .error }

/-- Bytes that a channel must not touch: the vault region under function 0 and VAULT_PASID (R215). -/
def hitsVault (s : State) (c addr len : Nat) : Bool :=
  decide ((getChan s c).owner = some 0 ∧ chanCfg s c 4 = vaultPasid s ∧ vaultBase s ≠ 0 ∧ addr < vaultBase s + 2415919104 ∧
    vaultBase s < addr + len)

/-! ### Runs -/

/-- Change the run of a channel. -/
def modRun (s : State) (c : Nat) (g : Run → Run) : State := modChan s c fun r => { r with run := r.run.map g }

/-- CCB bytes 16 to 63 (R203). -/
def ccbBytes (r : Run) (runs : U32) : Bytes :=
  le 2 r.status.code ++ le 1 (ofBool (!r.status.ran && r.wrote) + 2 * ofBool r.lost) ++ zeros 1 ++ le 4 runs.toNat ++
  le 8 (if r.headRead then r.descAt else 0) ++ le 8 r.result ++ le 4 r.hops ++ zeros 20

/-- A run ends (R217): its CCB is written. A control block in the vault region is not written; the channel fails as after a bad write
(R203, R215; DESIGN CHOICE, log 127). -/
def endRun (s : State) (c : Nat) (st : Status) (res : Nat) : State :=
  match (getChan s c).run with
  | none => s
  | some x =>
    let x := { x with stage := .ccb, status := st, result := res, outst := 1, err := none }
    let runs := (getChan s c).runs + 1
    let s := modChan s c fun r => { r with run := some x, runs := runs }
    let s := { s with cnt := { s.cnt with runs := u64 (s.cnt.runs + 1) } }
    let int := decide (st ≠ .ok) || x.ctl.testBit 4
    if hitsVault s c (chanCfg s c 3 + 16) 48 then ccbFailed s c
    else writePieces s (chanWho s c) [(0, chanCfg s c 3 + 16, 48)] (ccbBytes x runs) (fun _ => .ccb c int) false

/-- The CCB write came back good (R218): interrupt, completion starts, and the channel is IDLE or DISABLED. A run that ended OK before a
stop arrived keeps its status and gives its completion starts (DESIGN CHOICE, log 181). -/
def ccbWritten (s : State) (c : Nat) (int : Bool) : State :=
  match (getChan s c).run with
  | none => s
  | some x =>
    let s := if int then signalChan s c else s
    let s := modChan s c (chanRest s c)
    if x.status = .ok then
      ((List.range 256).filter fun d => decide (chanCfg s d 9 = c ∧ (getChan s d).owner = (getChan s c).owner)).foldl
        (fun s d => (addStart s d).1) s
    else s

/-- Read the next descriptor of a run, unless its owner is being frozen (R222); the hop limit and the alignment come first
(R210). RESULT of an address that is not 32-byte aligned is 0: no field of the descriptor, which is not read, offends (DESIGN CHOICE,
log 160). -/
def fetchDesc (s : State) (c : Nat) : State :=
  match (getChan s c).run with
  | none => s
  | some x =>
    if x.stop then endRun s c .abortedReset 0
    else if x.hopLim ≤ x.hops then endRun s c .chainLoop 0
    else if x.descAt % 32 ≠ 0 then endRun s c .descField 0
    else if hitsVault s c x.descAt 32 then endRun s c .memDecode 0
    else if (getFn s ((getChan s c).owner.getD 0)).state = .freezing then
      modChan s c fun r => { r with run := some { x with stage := .desc, outst := 0 }, state := .frozen, thaw := .running }
    else
      readPieces (modRun s c fun x => { x with stage := .desc, outst := 1, chunks := [], err := none, wrote := false })
        (chanWho s c) [(0, x.descAt, 32)] (fun _ => .cdesc c) false

/-- Fields of CTL (R208). -/
def ctlOp (ctl : Nat) : Nat := ctl % 8
def ctlLast (ctl : Nat) : Bool := ctl.testBit 3
def ctlIdx64 (ctl : Nat) : Bool := ctl.testBit 5
def ctlElem (ctl : Nat) : Nat := 2 ^ (bitsOf ctl 11 8 + 3)
def ctlCount (ctl : Nat) : Nat := bitsOf ctl 31 12
def idxWidth (ctl : Nat) : Nat := if ctlIdx64 ctl then 8 else 4

/-- A descriptor retires (R211): the run ends with LAST, or goes on to the next one, whose address is taken modulo 2^64 (DESIGN CHOICE,
log 159). -/
def retireDesc (s : State) (c : Nat) (wrote : Nat) : State :=
  match (getChan s c).run with
  | none => s
  | some x =>
    let x := { x with hops := x.hops + 1, written := x.written + wrote, wrote := false }
    if ctlLast x.ctl then endRun (modRun s c fun _ => x) c .ok x.written
    else
      let next := (((x.descAt : Int) + 32 * x.nextOfs) % 2 ^ 64).toNat
      fetchDesc (modRun s c fun _ => { x with descAt := next }) c

/-- Ranges of a descriptor: field offset, address, length. -/
def descRanges (x : Run) : List (Nat × Nat × Nat) :=
  let n := ctlCount x.ctl
  match ctlOp x.ctl with
  | 1 | 3 => [(8, x.a, x.c), (16, x.b, x.c)]
  | 2 => [(16, x.b, x.c)]
  | 4 | 5 => [(8, x.a, n * idxWidth x.ctl), (16, x.b, n * ctlElem x.ctl)]
  | _ => []

/-- Checks 2 to 6 of R210: status and RESULT of the first that fails. -/
def descBad (s : State) (c : Nat) (x : Run) : Bad :=
  let op := ctlOp x.ctl
  let table := decide (op = 4 ∨ op = 5)
  if op = 0 ∨ 5 < op then some (.descOpcode, 4)
  else if x.ctl.testBit 7 || (ctlIdx64 x.ctl && !table) then some (.descFlags, 4)
  else if !ctlLast x.ctl && decide (x.nextOfs = 0) then some (.chainLoop, 0)
  else
    let field := lowestOf
      ([ (ctlLast x.ctl && decide (x.nextOfs ≠ 0), 0),
         (table && decide (ctlCount x.ctl = 0 ∨ 13 < bitsOf x.ctl 11 8), 4),
         (!table && decide (bitsOf x.ctl 31 8 ≠ 0), 4),
         (table && decide (x.a % idxWidth x.ctl ≠ 0), 8),
         (!table && decide (x.c = 0 ∨ 2 ^ 48 ≤ x.c), 24) ] ++
       (descRanges x).map fun r => (decide (2 ^ 64 < r.2.1 + r.2.2), r.1))
    match field with
    | some o => some (.descField, o)
    | none => if (descRanges x).any fun r => hitsVault s c r.2.1 r.2.2 then some (.memDecode, 0) else none

/-- A descriptor has been read. -/
def descArrived (s : State) (c : Nat) (b : Bytes) : State :=
  match (getChan s c).run with
  | none => s
  | some x =>
    let raw := fld b 0 4
    let ofs : Int := if raw < 2 ^ 31 then raw else (raw : Int) - 2 ^ 32
    let x := { x with nextOfs := ofs, ctl := fld b 4 4, a := fld b 8 8, b := fld b 16 8, c := fld b 24 8
                      stage := .checked, outst := 0, chunks := [], wrote := false }
    let s := modRun s c fun _ => x
    match descBad s c x with
    | some e => endRun s c e.1 e.2
    | none => s

/-- Begin a stage of reads of a descriptor. -/
def runReads (s : State) (c : Nat) (st : RunStage) (ps : List (Nat × Nat × Nat × Nat)) : State :=
  let s := modRun s c fun x => { x with stage := st, outst := ps.length, chunks := [], err := none }
  ps.foldl (fun s p => readPieces s (chanWho s c) [p.2] (fun off => .cdata c p.1 off) false) s

/-- Pieces of one stream. -/
def onStream (i : Nat) (ps : List (Nat × Nat × Nat)) : List (Nat × Nat × Nat × Nat) := ps.map fun p => (i, p)

/-- Issue a descriptor's writes. -/
def runWrites (s : State) (c : Nat) (ps : List (Nat × Nat × Nat)) (data : Bytes) : State :=
  let s := modRun s c fun x => { x with stage := .writing, outst := ps.length, chunks := [], err := none }
  writePieces s (chanWho s c) ps data (fun off => .cwrite c off) false

/-- What a stream of a stage has read. -/
def runStream (x : Run) (i : Nat) : Bytes := joinChunks ((x.chunks.filter fun k => decide (k.1 = i)).map Prod.snd)

/-- Element addresses of a GATHER or SCATTER, in order. -/
def elemAddrs (x : Run) (table : Bytes) : List Nat :=
  (List.range (ctlCount x.ctl)).map fun i => x.c + fld table (i * idxWidth x.ctl) (idxWidth x.ctl)

/-- First element that passes 2^64 - 1 or touches the vault region (R210). -/
def badElem (s : State) (c : Nat) (x : Run) (addrs : List Nat) : Option Nat :=
  addrs.findIdx? fun a => decide (2 ^ 64 < a + ctlElem x.ctl) || hitsVault s c a (ctlElem x.ctl)

/-- Pieces of a list of elements, as one stream. -/
def elemPieces (x : Run) (addrs : List Nat) : List (Nat × Nat × Nat) :=
  streamPieces 0 (addrs.map fun a => (a, ctlElem x.ctl))

/-- Bytes that a descriptor writes. -/
def descWrites (x : Run) : Nat :=
  match ctlOp x.ctl with
  | 1 | 2 => x.c
  | 4 | 5 => ctlCount x.ctl * ctlElem x.ctl
  | _ => 0

/-- COPY and GATHER write what they read as it arrives (R216). -/
def streams (x : Run) : Bool := decide (x.stage = .data ∧ (ctlOp x.ctl = 1 ∨ ctlOp x.ctl = 4))

/-- A run's transactions are all answered: an error ends it, a stop ends it, and a written descriptor retires. -/
def runQuiet (s : State) (c : Nat) : State :=
  match (getChan s c).run with
  | none => s
  | some x =>
    match x.err with
    | some e => endRun s c e x.errIdx
    | none =>
      if x.stop then endRun s c .abortedReset 0
      else if decide (x.stage = .writing) || streams x then retireDesc s c (descWrites x) else s

/-- RESULT of a run whose transaction at an offset of a stream meets an error: the element of a GATHER or SCATTER whose address does
not decode (R217). -/
def elemOf (x : Run) (o : Own) (e : Status) : Nat :=
  match o with
  | .cdata _ 1 off => if e = .memDecode ∧ ctlOp x.ctl = 4 then off / ctlElem x.ctl else 0
  | .cwrite _ off => if e = .memDecode ∧ ctlOp x.ctl = 5 then off / ctlElem x.ctl else 0
  | _ => 0

/-- The first error that the mover receives for a descriptor decides (R213); after a stop has taken hold none does (R206, R217). -/
def runErr (x : Run) (o : Own) (err : Option Status) : Run :=
  match err with
  | some e => if x.stop || x.err.isSome then x else { x with err := some e, errIdx := elemOf x o e }
  | none => x

/-- Bytes of COPY and GATHER that have arrived well are written. -/
def passOn (s : State) (c off : Nat) (b : Bytes) : State :=
  match (getChan s c).run with
  | none => s
  | some x =>
    if streams x && x.err.isNone && !x.stop then
      let ps := piecesOf (x.b + off) b.length
      writePieces (modRun s c fun x => { x with outst := x.outst + ps.length }) (chanWho s c) ps b (fun o => .cwrite c (off + o)) false
    else s

/-- One transaction of a run's descriptor has ended. -/
def runAnswer (s : State) (c : Nat) (o : Own) (err : Option Status) (b : Bytes) : State :=
  match (getChan s c).run with
  | none => s
  | some x =>
    let s := modRun s c fun _ => { runErr x o err with
      outst := x.outst - 1
      chunks := match o with | .cdata _ i off => if streams x then x.chunks else x.chunks ++ [(i, off, b)] | _ => x.chunks }
    let s := match o with
      | .cdata _ _ off => passOn s c off b
      | _ => s
    match (getChan s c).run with
    | some x => if x.outst = 0 then runQuiet s c else s
    | none => s

/-- HEAD has been read (R203, R205). -/
def headArrived (s : State) (c : Nat) (err : Option Status) (b : Bytes) : State :=
  match (getChan s c).run with
  | none => s
  | some x =>
    if err.isSome then ccbFailed s c
    else if x.stop then endRun s c .abortedReset 0
    else fetchDesc (modRun s c fun x => { x with headRead := true, descAt := fld b 0 8 }) c

/-- A descriptor's read has ended (check 1 of R210). -/
def cdescRead (s : State) (c : Nat) (err : Option Status) (b : Bytes) : State :=
  match (getChan s c).run with
  | none => s
  | some x =>
    if x.stop then endRun s c .abortedReset 0
    else match err with
      | some e => endRun s c e 0
      | none => descArrived s c b

/-- A stop takes hold of a channel (R206, R222): nothing new is issued, and the run ends once nothing is outstanding. -/
def stopChan (s : State) (c : Nat) (disable : Bool) : State :=
  let r := getChan s c
  match r.run with
  | none =>
    if disable then setChan s c { r with state := .disabled, thaw := .disabled, pending := 0, runs := 0, prev := 0, disable := false }
    else setChan s c { r with pending := 0 }
  | some x =>
    if r.state = .frozen then
      -- a held run has nothing outstanding: it ends at once, and its channel is frozen as a stopping one
      let s := setChan s c { r with pending := 0, run := some { x with stop := true }, disable := r.disable || disable, thaw := .stopping }
      if x.stage = .ccb then s else endRun s c .abortedReset 0
    else
      let s := setChan s c { r with pending := 0, state := .stopping, disable := r.disable || disable
                                    run := some { x with stop := true } }
      if x.stage = .ccb then s
      else
        let waiting := (s.bursts.filter fun b => ownChan c b.own).length
        let s := { s with bursts := s.bursts.filter fun b => !ownChan c b.own }
        let left := x.outst - waiting
        let s := modRun s c fun x => { x with outst := left }
        if left = 0 then
          -- a descriptor that failed before the stop ends the run (R217)
          (match x.err with
            | some e => endRun s c e x.errIdx
            | none => endRun s c .abortedReset 0)
        else s

/-! ### Reset (R251, R252, R258) -/

/-- An action ends that the reset of its function was (R259). -/
def resetActEnd (s : State) (f : Nat) : State :=
  match (getFn s f).act with
  | some a => if a.kind = .reset then actEnd s f 2 else s
  | none => s

/-- Coalescers of a function's rings are cleared. -/
def clearCoal (s : State) (f : Nat) : State := (ringsOf s f).foldl (fun s n => modRing s n fun r => { r with coal := 0 }) s

/-- A reset ends a function's mailbox exchange: BUSY and DONE are clear (R289). -/
def endMail (s : State) (f : Nat) : State :=
  leave (setMail s f { getMail s f with busy := false, done := false, req := none }) (mailPrin f)

/-- Steps 2 and 3 of R251, and the entries of chains that never start, with which step 4 begins (R59). A mailbox exchange of the
function ends. -/
def resetBegin (s : State) (f : Nat) : State :=
  let s := modFn s f fun r => { r with before := r.state, state := .resetting, skew := false }
  let s := (ringsOf s f).foldl dropFetch s
  let s := (chansOf s f).foldl (fun s c => if chanEnabled (getChan s c) then stopChan s c false else s) s
  let s := endMail (clearCoal (withdrawFn s f) f) f
  (ringsOf s f).foldl (fun s n => endIncomplete s n .abortedReset) s

/-- A SAVE whose image has been taken ends in vain once its function is reset or thawed (R258). -/
def voidSave (a : ActJob) : ActJob := { a with void := a.void || a.img.isSome }

/-- A reset of a FROZEN function (R258): it stays FROZEN, its image is voided, its rings restart when it next runs. -/
def resetFrozen (s : State) (f : Nat) : State :=
  let s := modFn s f fun r => { r with mig := if r.state = .frozen then .none else r.mig, restart := true, resetHeld := false
                                       image := if r.state = .frozen then none else r.image, act := r.act.map voidSave }
  let s := (chansOf s f).foldl (fun s c => if chanEnabled (getChan s c) then stopChan s c false else s) s
  resetActEnd (endMail (clearCoal (withdrawFn s f) f) f) f

/-- Step 1 of a reset, in the state that the function is in (R251, R252, R258, R268). -/
def veReset (s : State) (f : Nat) : State :=
  match (getFn s f).state with
  | .running | .quiesced => resetBegin s f
  | .freezing | .restored => modFn s f fun r => { r with resetHeld := true }
  | .frozen => resetFrozen s f
  | .absent | .resetting | .destroying => s

/-! ### Thaw (R252, R258, R265) -/

/-- State of a function whose command is RUNNING (R253). -/
def runState (s : State) (f : Nat) : VeState := if (getFn s f).hostEnable then .running else .quiesced

/-- A ring of a reset function starts again at descriptor 0 and lap 0 (R252). -/
def ringRestart (s : State) (n : Nat) : State :=
  modRing s n fun r =>
    { r with prev := 0, eligible := 0, fetchCnt := 0, complCnt := 0, nextEnt := 0, coal := 0, waiting := [], fetching := false, ffOpen := 0
             fenced := false }

/-- A frozen ring or channel returns to its state before the freeze; a held run resumes with its next descriptor. -/
def thawRing (s : State) (n : Nat) : State :=
  modRing s n fun r => if r.state = .frozen then { r with state := r.thaw, thaw := .disabled } else r
def thawChan (s : State) (c : Nat) : State :=
  if (getChan s c).state = .frozen then
    let m := chanMover s c
    let s := modChan s c fun r => { r with state := r.thaw, thaw := .disabled, run := r.run.map fun x => { x with mover := m } }
    match (getChan s c).run with
    | some x => if x.stage = .ccb then s else fetchDesc (modUnit s (unitAt .mov m) fun u => { u with gated := false }) c
    | none => s
  else s

/-- A function returns to service once its freeze mark is cleared. -/
def thawFn (s : State) (f : Nat) : State :=
  let s := (ringsOf s f).foldl thawRing s
  let s := if (getFn s f).restart then
      (chansOf s f).foldl (fun s c => modChan s c fun r => { r with prev := 0 })
        (((ringsOf s f).filter fun n => decide ((getRing s n).state = .running)).foldl ringRestart s)
    else s
  let held := (getFn s f).resetHeld
  let s := modFn s f fun r => { r with state := runState s f, restart := false, resetHeld := false, skew := false }
  let s := (chansOf s f).foldl thawChan s
  -- a reset that came while the function was RESTORED follows under R251 (R268)
  if held then resetBegin s f else if (getFn s f).state = .running then releaseHeld s f else s

/-- A freeze mark of the function is still to be set. -/
def marking (s : State) (f : Nat) : Bool := s.vault.updates.any fun u => u.ops.contains (.freeze f true)

/-- A thaw has reached its effect point: the function returns to service, or, where VE_CMD has been committed FROZEN meanwhile, it stays
FROZEN and its mark is set again (R253). -/
def thawOne (s : State) (f : Nat) : State :=
  if (getFn s f).state = .frozen ∧ fnCfg s f 1 = 2 then (if marking s f then s else submitUpd s [.freeze f true] none) else thawFn s f

/-- Functions whose thaw has reached its effect point. -/
def thawDone (s : State) : State :=
  ((s.fns.filter fun e => decide (e.2.state = .frozen ∨ e.2.state = .restored) && !e.2.frozenMark).map Prod.fst).foldl thawOne s

/-! ### Timers (R219, R220) -/

/-- A timer fires: one start for each channel that names it. -/
def fireTimer (s : State) (t : Nat) : State :=
  let r := getTimer s t
  let s := setTimer s t { r with
    fired := r.fired + 1, last := some r.next, next := r.next + timerCfg s t 2, armed := decide (timerCfg s t 1 = 2) }
  ((List.range 256).filter fun c => decide (chanCfg s c 8 = t)).foldl (fun s c =>
    let p := addStart s c
    if p.2 then p.1 else
      let r := getTimer p.1 t
      setTimer p.1 t { r with missed := r.missed + 1 }) s

end Sys2Proof.Machine
end

