-- ==== Sys2Proof/Machine/Pools.lean ====
section
/-!
DEFINITION. The pools of ring pairs and channels (R15, R200, R242): assignment, home groups, rehoming.
-/
namespace Sys2Proof.Machine

open Sys2Proof

/-- The first of the candidates with the smallest weight. -/
def leastBy (w : Nat → Nat) : List Nat → Option Nat
  | [] => none
  | x :: t => match leastBy w t with
    | none => some x
    | some y => if w x ≤ w y then some x else some y

/-- Rings that a region owns, rings that a group homes. -/
def ringsInRegion (s : State) (m : Nat) : Nat := (s.rings.filter fun e => decide (e.2.owner ≠ none ∧ e.2.region = m)).length
def ringsInGroup (s : State) (g : Nat) : Nat := (s.rings.filter fun e => decide (e.2.owner ≠ none ∧ e.2.home = some g)).length

/-- Active regions, ascending. -/
def upRegions (s : State) : List Nat := (List.range 4).filter fun m => active s (unitAt .reg m)

/-- Of the units of a choice, those that do not drain (R324); all of them where every one drains. -/
def undrained (s : State) (k : Kind) (l : List Nat) : List Nat :=
  let keep := l.filter fun n => !(getUnit s (unitAt k n)).draining
  if keep.isEmpty then l else keep

/-- The home group that a region gives a ring: the active group that homes fewer rings, the even one on a tie (R15). -/
def pickHome (s : State) (m : Nat) : Option Nat :=
  leastBy (ringsInGroup s) (undrained s .grp ([2 * m, 2 * m + 1].filter fun g => active s (unitAt .grp g)))

/-- Lowest-numbered pair that no function owns. -/
def freeRing (s : State) : Option Nat := (List.range 4096).find? fun n => decide ((getRing s n).owner = none)

/-- Lowest local index that the function does not hold. -/
def freeLocalRing (s : State) (f : Nat) : Nat :=
  mex 257 0 (((s.rings.filter fun e => decide (e.2.owner = some f)).map fun e => e.2.local_))
def freeLocalChan (s : State) (f : Nat) : Nat :=
  mex 65 0 (((s.chans.filter fun e => decide (e.2.owner = some f)).map fun e => e.2.local_))

/-- A ring pair in the hands of a function: the region that owns it (R242), its home group (R15). -/
def giveRing (s : State) (f n loc : Nat) : State :=
  let m := (leastBy (ringsInRegion s) (undrained s .reg (upRegions s))).getD 0
  setRing s n { owner := some f, local_ := loc, region := m, home := pickHome s m }

/-- One more ring pair for a function (R242). -/
def addRing (s : State) (f : Nat) : State :=
  match freeRing s with
  | none => s
  | some n => giveRing s f n (freeLocalRing s f)

/-- Channels that a mover serves: of its own and of those that it took over, the ones that a function owns (R199; DESIGN CHOICE,
log 161). -/
def chansOfMover (s : State) (m : Nat) : Nat :=
  (s.chans.filter fun e => decide (e.2.owner ≠ none ∧ e.2.moved.getD (e.1 / 32) = m)).length

/-- A mover takes new work: it is active, and neither it nor its group nor its region drains (R324). -/
def movOpen (s : State) (m : Nat) : Bool :=
  active s (unitAt .mov m) && !(getUnit s (unitAt .mov m)).draining && !(getUnit s (unitAt .grp m)).draining &&
  !(getUnit s (unitAt .reg (m / 2))).draining

/-- Movers that take channels: those that take new work, or else every active one. -/
def movChoice (s : State) : List Nat :=
  let all := (List.range 8).filter fun k => active s (unitAt .mov k)
  let keep := all.filter (movOpen s)
  if keep.isEmpty then all else keep

/-- Free home channels of a mover, ascending. -/
def freeHomeChans (s : State) (m : Nat) : List Nat :=
  ((List.range 32).map (32 * m + ·)).filter fun c => decide ((getChan s c).owner = none)

/-- The channel that the next assignment takes (R242). -/
def freeChan (s : State) : Option Nat :=
  match leastBy (chansOfMover s) ((movChoice s).filter fun m => !(freeHomeChans s m).isEmpty) with
  | none => none
  | some m => (freeHomeChans s m).head?

/-- A channel in the hands of a function. -/
def giveChan (s : State) (f c loc : Nat) : State := setChan s c { owner := some f, local_ := loc, moved := (getChan s c).moved }

/-- One more channel for a function (R242). Where no active mover has a free home channel the function gets none (DESIGN CHOICE, log 183).
-/
def addChan (s : State) (f : Nat) : State :=
  match freeChan s with
  | none => s
  | some c => giveChan s f c (freeLocalChan s f)

/-- Repeat a change. -/
def times (n : Nat) (g : State → State) (s : State) : State := (List.range n).foldl (fun s _ => g s) s

/-- Release the rings (or channels) with the highest local indices until `k` are left (R242). -/
def trimRings (s : State) (f k : Nat) : State :=
  ((ringsOf s f).filter fun n => decide (k ≤ ((ringsOf s f).filter fun x => decide ((getRing s x).local_ < (getRing s n).local_)).length)).foldl
    releaseRing s
def trimChans (s : State) (f k : Nat) : State :=
  ((chansOf s f).filter fun n => decide (k ≤ ((chansOf s f).filter fun x => decide ((getChan s x).local_ < (getChan s n).local_)).length)).foldl
    releaseChan s

/-- The function holds as many rings and channels as its quotas say (R242). -/
def fitPools (s : State) (f : Nat) : State :=
  let r := fnCfg s f 4
  let c := fnCfg s f 8
  let s := trimRings s f r
  let s := times (r - (ringsOf s f).length) (fun s => addRing s f) s
  let s := trimChans s f c
  times (c - (chansOf s f).length) (fun s => addChan s f) s

/-! ### Rehoming (R22, R24, R199) -/

/-- The rings of a group go to the other group of its region (R22). -/
def rehomeGroup (s : State) (g : Nat) : State :=
  let o := if g % 2 = 0 then g + 1 else g - 1
  if active s (unitAt .grp o) && !(getUnit s (unitAt .grp o)).draining then
    ((s.rings.filter fun e => decide (e.2.home = some g)).map Prod.fst).foldl
      (fun s n => modRing s n fun r => { r with home := some o }) s
  else s

/-- The rings of a region go to the remaining regions, each to the one that homes the fewest (R24); of regions that home equally few
the lowest-numbered takes it (DESIGN CHOICE, log 126). -/
def rehomeRegion (s : State) (m : Nat) : State :=
  ((s.rings.filter fun e => decide (e.2.owner ≠ none ∧ e.2.region = m)).map Prod.fst).foldl (fun s n =>
    match leastBy (ringsInRegion s) (undrained s .reg ((upRegions s).filter (· ≠ m))) with
    | none => s
    | some k => let h := pickHome s k; modRing s n fun r => { r with region := k, home := h }) s

/-- The channels of a mover go to the other mover of its region, or, with none left there, to the mover with the fewest
channels (R199). A mover that takes over channels has work (R406). -/
def rehomeChans (s : State) (m : Nat) : State :=
  let o := if m % 2 = 0 then m + 1 else m - 1
  ((List.range 256).filter fun c => decide ((getChan s c).moved.getD (c / 32) = m)).foldl (fun s c =>
    let dest := if movOpen s o then some o else leastBy (chansOfMover s) ((movChoice s).filter (· ≠ m))
    match dest with
    | none => s
    | some k => modChan (modUnit s (unitAt .mov k) fun u => { u with gated := false }) c fun r => { r with moved := if k = c / 32 then none else some k }) s

end Sys2Proof.Machine
end

