-- ==== Sys2Proof/Machine/Acts.lean ====
section
/-!
DEFINITION. The objects of migration actions (R259): reading the input, writing the output, and what takes effect when the
output stands (R260 to R264).
-/
namespace Sys2Proof.Machine

open Sys2Proof

/-- States that accept an action. -/
def actAccepted (r : FnRec) (k : ActKind) : Bool :=
  match k with
  | .reset => decide (r.state = .running ∨ r.state = .quiesced ∨ r.state = .resetting ∨ r.state = .freezing ∨ r.state = .frozen)
  | .open => decide (r.state = .absent ∧ (r.mig = .none ∨ r.mig = .opened ∨ r.mig = .released))
  | .save => decide (r.state = .frozen ∧ (r.mig = .none ∨ r.mig = .saved))
  | .restore => decide (r.mig = .opened)
  | .release => decide (r.state = .frozen ∧ r.mig = .saved)
  | .commit => decide (r.mig = .restored)
  | .abandon => decide (r.mig = .opened ∨ r.mig = .restored)
  | .receipt => decide (r.mig = .released)
  | .renew => decide (r.state = .running ∨ r.state = .quiesced)

/-- Who an action's accesses speak for: function 0 and MIG_PASID as its acceptance found it (R259). -/
def actWho (s : State) (a : ActJob) : Who := { region := anyRegion s, fn := 0, pasid := a.pasid }

def ownAct (f : Nat) : Own → Bool
  | .actIn f' _ | .actOut f' => decide (f' = f)
  | _ => false

/-- Change the action of a function. -/
def modAct (s : State) (f : Nat) (g : ActJob → ActJob) : State := modFn s f fun r => { r with act := r.act.map g }

/-- An accepted action begins: ACTION_STATUS reads BUSY, and the input object is read (R259). The entries that name its objects count as
they stand now: a later write of them is for the next action (DESIGN CHOICE, log 169). -/
def actBegin (s : State) (f : Nat) (k : ActKind) : State :=
  let input : Bool := match k with | .save | .restore | .release | .commit => true | _ => false
  let ps := if input then piecesOf (fnCfg s f 0x11) (fnCfg s f 0x12) else []
  let a : ActJob :=
    { kind := k, reading := !ps.isEmpty, outst := ps.length, outAddr := fnCfg s f 0x13, outCap := fnCfg s f 0x14, pasid := fnCfg s f 0x10 }
  readPieces (modFn s f fun r => { r with actStatus := 1, act := some a }) (actWho s a) ps (fun off => .actIn f off) false

/-- Input object of an action. -/
def actInput (a : ActJob) : Bytes := joinChunks a.chunks

/-- A read of the input has ended. -/
def actRead (s : State) (f off : Nat) (err : Option Status) (b : Bytes) : State :=
  modAct s f fun a =>
    { a with
      outst := a.outst - 1, reading := decide (1 < a.outst)
      err := match a.err with | some e => some e | none => err
      chunks := a.chunks ++ [(off, b)] }

/-- Write the output object; its effect follows with the last good response. -/
def actWrite (s : State) (f : Nat) (out : Bytes) : State :=
  match (getFn s f).act with
  | none => s
  | some a =>
    let ps := piecesOf a.outAddr out.length
    let s := modAct s f fun a => { a with outst := ps.length, outLen := out.length, code := some 2, err := none }
    writePieces s (actWho s a) ps out (fun _ => .actOut f) false

/-! ### The body of an image (R262)

The manual leaves its internal order opaque. Here it is a count of rings, channels and slots, then one item for the function and one
for each of these: its numbers, then its byte strings (DESIGN CHOICE, log 14). -/

/-- What an item carries. -/
abbrev BodyItem := List Nat × List Bytes

structure Body where
  fn    : BodyItem
  rings : List BodyItem
  chans : List BodyItem
  slots : List BodyItem
  deriving DecidableEq, Repr

def itemBytes (x : BodyItem) : Bytes :=
  le 2 x.1.length ++ x.1.flatMap (le 16) ++ le 2 x.2.length ++ x.2.flatMap fun b => le 4 b.length ++ b

def bodyBytes (x : Body) : Bytes :=
  le 4 x.rings.length ++ le 4 x.chans.length ++ le 4 x.slots.length ++
    (x.fn :: (x.rings ++ x.chans ++ x.slots)).flatMap itemBytes

def takeNums : Nat → Bytes → List Nat × Bytes
  | 0, b => ([], b)
  | n + 1, b => let r := takeNums n (b.drop 16); (fld b 0 16 :: r.1, r.2)

def takeStrs : Nat → Bytes → List Bytes × Bytes
  | 0, b => ([], b)
  | n + 1, b =>
    let k := fld b 0 4
    let r := takeStrs n (b.drop (4 + k))
    (slice b 4 k :: r.1, r.2)

def takeItem (b : Bytes) : BodyItem × Bytes :=
  let n := takeNums (fld b 0 2) (b.drop 2)
  let t := takeStrs (fld n.2 0 2) (n.2.drop 2)
  ((n.1, t.1), t.2)

def takeItems : Nat → Bytes → List BodyItem × Bytes
  | 0, b => ([], b)
  | n + 1, b => let r := takeItems n (takeItem b).2; ((takeItem b).1 :: r.1, r.2)

/-- A body read back; no function holds more rings, channels or slots than the block has. -/
def parseBody (b : Bytes) : Body :=
  let f := takeItem (b.drop 12)
  let r := takeItems (min (fld b 0 4) 256) f.2
  let c := takeItems (min (fld b 4 4) 64) r.2
  { fn := f.1, rings := r.1, chans := c.1, slots := (takeItems (min (fld b 8 4) (2 ^ 24)) c.2).1 }

/-- Number `k` of an item, and byte string `k`. -/
def numOf (x : BodyItem) (k : Nat) : Nat := x.1.getD k 0
def strOf (x : BodyItem) (k : Nat) : Bytes := x.2.getD k []

/-- Committed values of an index, in the order of its RWS sub-indices; and what restores them. -/
def cfgNums (s : State) (i : Nat) : List Nat := (rwsSubs i).map (cfgGet s i)
def putCfg (s : State) (i : Nat) (vals : List Nat) : State := ((rwsSubs i).zip vals).foldl (fun s e => cfgSet s i e.1 e.2) s

/-! ### What a function leaves with (R262) -/

/-- The function record and its quotas. -/
def fnItem (s : State) (f : Nat) : BodyItem :=
  let r := getFn s f
  ([r.ctxRes, r.held.toNat] ++ cfgNums s (0x4000 + f) ++ cfgNums s (0xB000 + f), [r.ctxKey])

/-- A ring; after a reset of the frozen function it is to restart (R258). -/
def ringItem (s : State) (n : Nat) : BodyItem :=
  let x := getRing (if (getFn s ((getRing s n).owner.getD 0)).restart && decide ((getRing s n).thaw = .running) then ringRestart s n else s) n
  ([n, x.local_, x.version, x.thaw.code, x.errors.toNat, x.fetchCnt.toNat, x.complCnt.toNat, x.prev.toNat, x.eligible] ++
    cfgNums s (0x5000 + n), [])

/-- A channel; START_AFTER travels as a local index. After a reset of the frozen function its previous value is zero (R252, R258). -/
def chanItem (s : State) (c : Nat) : BodyItem :=
  let x := if (getFn s ((getChan s c).owner.getD 0)).restart then { getChan s c with prev := 0 } else getChan s c
  let after := chanCfg s c 9
  let run := match x.run with | some y => [1, y.descAt, y.hops] | none => [0, 0, 0]
  ([x.local_, if after = 0xFFFF then 0xFFFF else (getChan s after).local_, x.thaw.code, x.pending, x.runs.toNat, x.prev.toNat] ++ run ++
    cfgNums s (0xA000 + c), [])

/-- A slot with its effective state: one that is ERASING on die alone leaves so (R177, R262). -/
def slotItem (s : State) (i : Nat) (x : SlotRec) : BodyItem :=
  let mark := match x.mark with | some m => [1, m.1, m.2] | none => [0, 0, 0]
  ([i, x.epoch, if slotCode s i = 3 then 3 else x.state.code, x.gen, x.policy, x.fixed, x.invRes, x.blkRes, x.blkLim, ofBool x.large.isSome, x.blkGen] ++ mark,
    [fit 16 x.tag, x.mat])

/-- Slots of a function that are not FREE; one in a damaged line, or whose large-key record lies in one, is never used again (R146). -/
def heldSlots (s : State) (f : Nat) : List (Nat × SlotRec) :=
  s.vault.slots.filter fun e => decide (e.2.owner = f ∧ e.2.state ≠ .free) && !s.vault.damaged.contains (leafSlot e.1) &&
    !(e.2.large.any fun l => s.vault.damaged.contains (leafLarge l))

def bodyOf (s : State) (f : Nat) : Body :=
  { fn := fnItem s f, rings := (ringsOf s f).map (ringItem s), chans := (chansOf s f).map (chanItem s)
    slots := (heldSlots s f).map fun e => slotItem s e.1 e.2 }

/-! ### Installing a restored function (R262, R263) -/

def codeRing (n : Nat) : RingState := match n with | 1 => .running | 3 => .error | _ => .disabled
def codeChan (n : Nat) : ChanState := match n with | 1 => .idle | 2 => .running | 5 => .error | _ => .disabled
def codeSlot (n : Nat) : SlotState := match n with | 4 => .retired | 3 => .erasing | _ => .active

def installRing (f : Nat) (s : State) (x : BodyItem) : State :=
  let n := numOf x 0
  let s := putCfg (giveRing s f n (numOf x 1)) (0x5000 + n) (x.1.drop 9)
  modRing s n fun r =>
    { r with
      version := numOf x 2, thaw := codeRing (numOf x 3), state := if numOf x 3 = 0 then .disabled else .frozen
      errors := BitVec.ofNat 3 (numOf x 4), fetchCnt := BitVec.ofNat 32 (numOf x 5), complCnt := BitVec.ofNat 32 (numOf x 6)
      nextEnt := BitVec.ofNat 32 (numOf x 6), prev := BitVec.ofNat 32 (numOf x 7), eligible := numOf x 8 }

def installChan (f : Nat) (s : State) (x : BodyItem) : State :=
  match freeChan s with
  | none => s
  | some c =>
    let s := putCfg (giveChan s f c (numOf x 0)) (0xA000 + c) (x.1.drop 9)
    modChan s c fun r =>
      { r with
        thaw := codeChan (numOf x 2), state := if numOf x 2 = 0 then .disabled else .frozen, pending := numOf x 3
        runs := BitVec.ofNat 32 (numOf x 4), prev := BitVec.ofNat 32 (numOf x 5)
        run := if numOf x 6 = 1 then some { stage := .desc, descAt := numOf x 7, hops := numOf x 8, headRead := true
                                            hopLim := chanCfg s c 7, vector := chanCfg s c 0x0A, mover := chanMover s c }
               else none }

/-- START_AFTER names the channel that has the local index here. -/
def installAfter (f : Nat) (s : State) (x : BodyItem) : State :=
  let find (l : Nat) : Option Nat := (chansOf s f).find? fun c => decide ((getChan s c).local_ = l)
  match find (numOf x 0) with
  | none => s
  | some c => cfgSet s (0xA000 + c) 9 ((find (numOf x 1)).getD 0xFFFF)

/-- A slot leaves the pool of free slots; those passed over stay slots never used (R159). -/
def claimSlot (s : State) (i : Nat) : State :=
  let passed := ((List.range (i - s.vault.high)).map (s.vault.high + ·)).filter fun k => !s.vault.damaged.contains (leafSlot k)
  { s with vault := { s.vault with
      freeList := s.vault.freeList.filter (· ≠ i), unused := s.vault.unused.filter (· ≠ i) ++ passed
      high := max s.vault.high (i + 1) } }

/-- The slot record that a body carries; `taken` are the large-key records that slots before it are given. -/
def carriedSlot (s : State) (f : Nat) (taken : List Nat) (x : BodyItem) : SlotRec :=
  { state := codeSlot (numOf x 2), epoch := numOf x 1, gen := numOf x 3, owner := f, policy := numOf x 4, tag := strOf x 0
    mat := strOf x 1, large := if 0 < numOf x 9 then some (freeLargeBut s taken) else none, fixed := numOf x 5
    invRes := numOf x 6, blkRes := numOf x 7, blkLim := numOf x 8, blkGen := numOf x 10
    mark := if 0 < numOf x 11 then some (numOf x 12, numOf x 13) else none }

/-- The changes that bring the slots of a body. -/
def carriedOps (s : State) (f : Nat) : List Nat → List BodyItem → List VOp
  | _, [] => []
  | taken, x :: t =>
    let r := carriedSlot s f taken x
    .put (numOf x 0) r :: carriedOps s f (taken ++ r.large.toList) t

/-- Every ring number that the body names is free (R263). -/
def ringsFree (s : State) (b : Body) : Bool := b.rings.all fun x => (getRing s (numOf x 0)).owner.isNone

/-- There are free channels for those that the body carries. -/
def chansFree (s : State) (b : Body) : Bool :=
  let free := (movChoice s).flatMap (freeHomeChans s)
  decide (b.chans.length ≤ free.length)

/-- Every slot that the body names is FREE with an epoch no higher than its own, in no damaged line and not withdrawn, and no creation is
about to put a key in it (R263). -/
def slotsFree (s : State) (b : Body) : Bool :=
  b.slots.all fun x =>
    !(puttingSlots s fun _ => true).contains (numOf x 0) &&
    let r := getSlot s (numOf x 0)
    decide (numOf x 0 ≠ 0 ∧ r.state = .free ∧ r.epoch ≤ numOf x 1 ∧ r.epoch ≠ 255) && !s.vault.damaged.contains (leafSlot (numOf x 0))

/-- The committed values of a function's commit group as the body carries them. -/
def putQuotas (s : State) (f : Nat) (b : Body) : State :=
  let v := b.fn.1.drop 2
  putCfg (putCfg s (0x4000 + f) v) (0xB000 + f) (v.drop (rwsSubs (0x4000 + f)).length)

/-- The resources of a body are the function's from the end of the checks on, so that nothing else takes them: quotas and shares, ring
pairs and channels, slot numbers (DEDUCED, log 170). -/
def holdFor (s : State) (f : Nat) (b : Body) : State :=
  let s := b.rings.foldl (installRing f) (putQuotas s f b)
  let s := b.chans.foldl (installChan f) s
  let s := b.chans.foldl (installAfter f) s
  b.slots.foldl (fun s x => claimSlot s (numOf x 0)) s

/-- What a RESTORE installs on die, and what it gives back if it fails. -/
def restoralOf (s : State) (f : Nat) (b : Body) (ses was : Session) : Restoral :=
  { key := fit 32 (strOf b.fn 0), res := numOf b.fn 0, held := BitVec.ofNat 16 (numOf b.fn 1), ses := ses, was := was
    cfg := s.cfg.filter fun e => decide (e.1 / 256 = 0x4000 + f ∨ e.1 / 256 = 0xB000 + f)
    slots := b.slots.map fun x => (numOf x 0, (getSlot s (numOf x 0)).epoch) }

/-- RESTORE installs the function in one vault update (R154, R263): slots, freeze mark and function record stand with its effect point. The
acknowledgement is written then. -/
def installFn (s : State) (f : Nat) (b : Body) (ses was : Session) (ack : Bytes) : State :=
  let r := restoralOf s f b ses was
  let s := modAct (holdFor s f b) f fun a => { a with code := some 0, out := ack, rest := some r }
  submitUpd s (carriedOps s f [] b.slots ++ [.restore f r]) none

/-- A RESTORE whose acknowledgement cannot be written has failed, and a failed action changes no state (R259): one vault update takes back
what it installed, and the action ends with it. -/
def takeBack (s : State) (f : Nat) (a : ActJob) (err : Status) : State :=
  match a.rest with
  | none => actEnd s f 0x17
  | some r =>
    let is := r.slots.filter fun e =>
      decide ((getSlot s e.1).state ≠ .free ∧ (getSlot s e.1).owner = f) && !s.vault.damaged.contains (leafSlot e.1)
    submitUpd (modAct s f fun a => { a with code := some 0, err := some err }) (is.map (fun e => .unput e.1 e.2) ++ [.unrestore f r]) none

/-- An update that restores a function, or takes it back, is queued or in progress. -/
def restoring (s : State) (f : Nat) : Bool :=
  s.vault.updates.any fun u => u.ops.any fun o => match o with | .restore g _ | .unrestore g _ => decide (g = f) | _ => false

/-- What an action with an output object brings about once it is written (R260, R261). A restoration stands before (R263). -/
def actEffect (s : State) (f : Nat) (a : ActJob) : State :=
  let s := modFn s f fun r => { r with outLen := a.outLen }
  match a.kind with
  | .open => modFn s f fun r => { r with mig := .opened, session := a.ses }
  | .save => modFn s f fun r => { r with mig := .saved, image := a.img, saveSerial := r.saveSerial + 1 }
  | _ => s

/-- What has come between the checks of an action and its effect: the function has gone on. -/
def actLate (s : State) (f : Nat) (a : ActJob) : Option Nat :=
  match a.kind with
  | .open => if actAccepted (getFn s f) .open then none else some 0x13
  | .save => if actAccepted (getFn s f) .save && !a.void then none else some 0x13
  | _ => none

/-- A write of the output has been answered. -/
def actWritten (s : State) (f : Nat) (err : Option Status) : State :=
  match (getFn s f).act with
  | none => s
  | some a =>
    let a := { a with outst := a.outst - 1, err := match a.err with | some e => some e | none => err }
    let s := modFn s f fun r => { r with act := some a }
    if 0 < a.outst then s
    else if let some e := a.err then
      match a.kind with
        | .restore => takeBack s f a e
        -- the destruction stands, and RECEIPT issues the receipt (DEDUCED, log 34)
        | .release => actEnd s f 0x1A
        | _ => actEnd s f 0x17
    else match actLate s f a with
      | some e => actEnd s f e
      | none => actEnd (actEffect s f a) f (a.code.getD 2)

end Sys2Proof.Machine
end

