-- ==== Sys2Proof/Machine/Answers.lean ====
section
/-!
DEFINITION. Answers on the data ports (R373 to R375, R213, R214, R216): transactions retire, fail or are quarantined, and
the work they belong to goes on. The port survey (R312) is the one owner of its own here.
-/
namespace Sys2Proof.Machine

open Sys2Proof

/-! ### The port survey (R312) -/

/-- One probe read of a port. -/
def probePort (s : State) (p : Nat) (vigil : Bool) : State :=
  submit s
    { region := p / 4, wr := false, addr := cfgGet s 0x2020 0x11, len := 128, fn := 0, pasid := cfgGet s 0x2020 0x12
      own := .probe p vigil }

/-- TAG_WINDOW from the longest round trip of the ports measured. -/
def windowOf (rtt portKhz : Nat) : Nat := min 256 (max 16 (ceilDiv (rtt * portKhz) 4000000))

/-- A unit of one of the kinds still runs its self-test. -/
def testing (s : State) (l : List Kind) : Bool := s.units.any fun e => decide (e.2.state = .selfTest ∧ kindOf e.1 ∈ l)

/-- The survey of the ports is over: SURVEY_STATUS bit 0 is set where every port was measured, those that still run their self-tests among
them (R302, R312). -/
def surveyEnd (s : State) : State :=
  let ok := (s.bring.rtt.filter fun e => !s.bring.probeBad.contains e.1).map Prod.snd
  let b := { s.bring with probing := false, rtt := s.bring.rtt.filter fun e => !s.bring.probeBad.contains e.1 }
  { s with bring := { b with
      tagWindow := if ok.isEmpty then 256 else windowOf (ok.foldl max 0) s.bring.portKhz
      survey := if s.bring.probeBad.isEmpty && !testing s [.port, .reg] then s.bring.survey ||| 1 else s.bring.survey } }

/-- A probe read of the survey has ended. Its round trip is counted in REF_CLK cycles. -/
def probeEnded (s : State) (p : Nat) (err : Option Status) : State :=
  let left := tget 0 s.bring.probesLeft p - 1
  let took := (s.pins.cycles - tget 0 s.bring.probeAt p) * refPeriod s
  let s := { s with bring := { s.bring with
      probesLeft := tput 0 s.bring.probesLeft p (if err.isSome then 0 else left)
      probeBad := if err.isSome then addNew s.bring.probeBad p else s.bring.probeBad
      probeFence := if err.isSome && decide (err ≠ some .memDecode) && ownActive s (unitAt .port p) then addNew s.bring.probeFence p else s.bring.probeFence
      rtt := (s.bring.rtt.filter fun e => decide (e.1 ≠ p)) ++
        [(p, max took ((s.bring.rtt.find? fun e => decide (e.1 = p)).map Prod.snd |>.getD 0))] } }
  if err.isNone && decide (0 < left) then probePort s p false
  else if s.bring.probing && s.bring.probesLeft.isEmpty then surveyEnd s else s

/-! ### What an answered transaction brings -/

/-- Transactions of a purpose that are outstanding or still to be issued. -/
def countOwn (s : State) (p : Own → Bool) : Nat :=
  (s.txns.filter fun t => p t.own && !t.quar).length + (s.bursts.filter fun b => p b.own).length

/-- A failure after the byte count has reached zero (R216): the last read of the data, or a write response with nothing left to send,
and the work had met no error before. -/
def lateError (s : State) (o : Own) : State :=
  let hit : Bool := match o with
    | .req r _ _ =>
      (match getReq s r with
        | some q => q.err.isNone && decide (q.phase = .reading) && decide (countOwn s (ownOf r) ≤ 1)
        | none => false)
    | .out r | .ctx r =>
      (match getReq s r with
        | some q => q.err.isNone && !(s.bursts.any fun b => ownOf r b.own)
        | none => false)
    | .cdata c stream _ =>
      (match (getChan s c).run with
        | some x => x.err.isNone && !x.stop && decide (x.stage = .data ∨ (x.stage = .index ∧ stream = 2)) &&
            decide (countOwn s (fun o => match o with | .cdata c' _ _ => decide (c' = c) | _ => false) ≤ 1)
        | none => false)
    | .cwrite c _ =>
      (match (getChan s c).run with
        | some x => x.err.isNone && !x.stop && !(s.bursts.any fun b => ownChan c b.own) &&
            decide (countOwn s (fun o => match o with | .cdata c' _ _ => decide (c' = c) | _ => false) = 0)
        | none => false)
    | _ => false
  if hit then { s with cnt := { s.cnt with lateErr := s.cnt.lateErr + 1 } } else s

/-- A beat's error reaches its work before the transaction's last beat does: the first error that the mover receives decides (R213). -/
def noteErr (s : State) (o : Own) (e : Status) : State :=
  match o with
  | .req r _ _ => modReq s r fun q => { q with err := match q.err with | some x => some x | none => some e }
  | .cdata c _ _ => modRun s c fun x => runErr x o (some e)
  | _ => s

/-- A descriptor read has ended (R41, R54, R56): its descriptors become requests of the ring in ring order, bound to the group that
fetched them (R16). DESIGN CHOICE (log 128): when any beat of the read fails, none of its descriptors is fetched, and the entry of R54
names the first of them. -/
def descRead (s : State) (n first count : Nat) (err : Option Status) (b : Bytes) : State :=
  let r := getRing s n
  match err with
  | some e =>
    let s := modRing s n fun r => { r with errors := r.errors ||| 2, fetching := false,
                                            state := if r.state = .running then .error else r.state }
    let s := endIncomplete s n e
    putFetchFail s n first e
  | none =>
    let f := r.owner.getD 0
    let size := descSize r.version
    let mk (s : State) (i : Nat) : State :=
      let id := s.nextReq + 1
      let prev := ((getRing s n).waiting.getLast?).bind (getReq s)
      let idx := match prev with | some p => if p.d.flag fChain then p.idx + 1 else 0 | none => 0
      let q : Req := { ring := n, fn := f, ver := r.version, group := r.fetchGrp, idx := idx, d := parseDesc r.version (slice b (i * size) size) }
      modRing { setReq s id (some q) with nextReq := id } n fun r => { r with waiting := r.waiting ++ [id], fetchCnt := r.fetchCnt + 1 }
    let s := (List.range count).foldl mk s
    pumpRing (modRing s n fun r => { r with fetching := false, eligible := r.eligible - count }) n

/-- The work that a transaction belongs to takes its answer: an error, or the bytes read. -/
def answered (s : State) (o : Own) (addr : Nat) (data : Bytes) (err : Option Status) : State :=
  match o with
  | .none => s
  | .desc n first count => descRead s n first count err data
  | .req r stream off => reqRead s r stream off err data
  | .out r | .ctx r => reqWritten s r err
  | .cq n st counted atOnce chain fetchFail vec _ =>
    if err.isSome then cqFailed s n chain fetchFail vec else cqWritten s n st counted atOnce chain fetchFail vec
  | .vfetch id => fetchRead s id addr err data
  | .vupd => thawDone (updWritten s addr data err)
  | .vupdR off => updRead s off data err
  | .probe p vigil => if vigil then s else probeEnded s p err
  | .head c => headArrived s c err data
  | .cdesc c => cdescRead s c err data
  | .cdata c stream off => runAnswer s c (.cdata c stream off) err data
  | .cwrite c off => runAnswer s c (.cwrite c off) err []
  | .ccb c int => if err.isSome then ccbFailed s c else ccbWritten s c int
  | .actIn f off => actRead s f off err data
  | .actOut f => actWritten s f err

/-- A transaction ends: its tag is free, its work goes on, and rings whose next chain may start start it. An answer that brings the safe
state ends no work itself (R410). -/
def retireTxn (s : State) (t : Txn) (err : Option Status) : State :=
  let s := { s with txns := s.txns.filter fun x => !(decide (x.port = t.port ∧ x.tag = t.tag)) }
  if safeComes s then s else pumpAll (answered s t.own t.addr t.data err)

/-- Change one transaction. -/
def modTxn (s : State) (port tag : Nat) (g : Txn → Txn) : State :=
  { s with txns := s.txns.map fun x => if x.port = port ∧ x.tag = tag then g x else x }

/-- Transactions of a purpose that have not been issued are not issued any more (step 4 of R214). -/
def cancelWaiting (s : State) (o : Own) : State :=
  match o with
  | .req r _ _ | .out r | .ctx r =>
    let k := (s.bursts.filter fun b => ownOf r b.own).length
    modReq { s with bursts := s.bursts.filter fun b => !ownOf r b.own } r fun q => { q with outst := q.outst - k }
  | .cdata c _ _ | .cwrite c _ =>
    let k := (s.bursts.filter fun b => ownChan c b.own).length
    modRun { s with bursts := s.bursts.filter fun b => !ownChan c b.own } c fun x => { x with outst := x.outst - k }
  | _ => s

/-- A transaction fails without its answer: the tag is quarantined, its work takes the error. -/
def failTxn (s : State) (t : Txn) (e : Status) : State :=
  let s := modTxn s t.port t.tag fun x => { x with quar := true, own := .none }
  if safeComes s then s else pumpAll (answered (cancelWaiting s t.own) t.own t.addr t.data (some (t.err.getD e)))

/-- The transaction of a port with a tag. -/
def findTxn (s : State) (port tag : Nat) : Option Txn := s.txns.find? fun t => decide (t.port = port ∧ t.tag = tag)

/-- A protocol break on a port (R375). -/
def protocolBreak (s : State) (port tag : Nat) : State :=
  let s := raiseSrc s (unitSource (unitAt .port port) 1)
  match findTxn s port tag with
  | some t => if t.quar then s else failTxn s t .memError
  | none => s

/-- The port's error source for FAULT and POISON (R374). An answer to a transaction that a block reset met outstanding is discarded, and
sets none (R302). -/
def portError (s : State) (port : Nat) (resp : BitVec 2) (cut : Bool) : State :=
  if cut then s
  else if resp = 1 ∨ resp = 3 then raiseSrc s (unitSource (unitAt .port port) 2) else s

/-- Bytes of a transaction that its `k`-th line carries (R371, R373). -/
def txnLine (t : Txn) (line : Bytes) : Bytes :=
  let base := (t.addr / 128 + t.beats) * 128
  let lo := max base t.addr
  let hi := min (base + 128) (t.addr + t.len)
  slice line (lo - base) (hi - lo)

/-- A late answer on a quarantined tag (step 5 of R214). -/
def lateAnswer (s : State) (t : Txn) : State :=
  { s with
    txns := s.txns.filter fun x => !(decide (x.port = t.port ∧ x.tag = t.tag))
    cnt := { s.cnt with lateAns := s.cnt.lateAns + 1 } }

/-- A read beat (R373 to R375). -/
def readBeat (port tag : Nat) (resp : BitVec 2) (last : Bool) (data : Bytes) (s : State) : State :=
  match findTxn s port tag with
  | none => protocolBreak s port tag
  | some t =>
    if t.wr || decide (last ≠ decide (t.beats + 1 = linesOf t.addr t.len)) then protocolBreak s port tag
    else
      let s := portError s port resp t.cut
      let e := match t.err with | some e => some e | none => respStatus resp
      let t' := { t with beats := t.beats + 1, err := e, data := t.data ++ txnLine t data }
      if !last then
        (match t.err, respStatus resp with
          | none, some x => noteErr (modTxn s port tag fun _ => t') t.own x
          | _, _ => modTxn s port tag fun _ => t')
      else if t.quar then lateAnswer s t
      else
        let s := if t.err.isNone && e.isSome then lateError s t.own else s
        retireTxn s t' e

/-- A write response (R373 to R375). -/
def writeResponse (port tag : Nat) (resp : BitVec 2) (s : State) : State :=
  match findTxn s port tag with
  | none => protocolBreak s port tag
  | some t =>
    if !t.wr then protocolBreak s port tag
    else
      let s := portError s port resp t.cut
      if t.quar then lateAnswer s t
      else
        let s := if (respStatus resp).isSome then lateError s t.own else s
        retireTxn s t (respStatus resp)

/-- A transaction passes PORT_TIMEOUT (R214). After the safe state's barrier its tag is released (step 7 of R329). -/
def portTimeout (port tag : Nat) (s : State) : State :=
  match findTxn s port tag with
  | none => s
  | some t =>
    if t.quar || t.vault then s
    else
      let s := raiseSrc { s with cnt := { s.cnt with timeouts := s.cnt.timeouts + 1 } } (unitSource (unitAt .port port) 3)
      if s.safe then { s with txns := s.txns.filter fun x => !(decide (x.port = port ∧ x.tag = tag)) }
      else failTxn s t .memTimeout

/-- A vault access passes VAULT_TIMEOUT (R184). -/
def vaultTimeout (port tag : Nat) (s : State) : State :=
  match findTxn s port tag with
  | none => s
  | some t =>
    if t.quar || !t.vault then s
    else if s.safe then { s with txns := s.txns.filter fun x => !(decide (x.port = port ∧ x.tag = tag)) }
    else failTxn s t .memTimeout

end Sys2Proof.Machine
end

