-- ==== Sys2Proof/Machine/Faults.lean ====
section
/-!
DEFINITION. The fault collector (R315 to R324, R328 to R332, R415): severities and regimes, fences and the work of fenced
units (R17, R18, R21, R22, R24, R120, R199), the safe state; and what every command ends with.
-/
namespace Sys2Proof.Machine

open Sys2Proof

/-! ### The safe state (R328 to R332) -/

/-- Ledger code of a ring (R332): nothing in flight, work ended, or a request poisoned. A request whose completion entry has not left its
port is in flight, too: it gets none (R330). -/
def ledgerRing (s : State) (n : Nat) : Nat :=
  let mine := (s.reqs.filterMap fun e => match e.2 with | some q => if q.ring = n then some q.wrote else none | none => none) ++
    s.bursts.filterMap fun b => match b.own with
      | .cq n' _ _ _ _ fetchFail _ wrote => if n' = n ∧ fetchFail = false then some wrote else none
      | _ => none
  if mine.isEmpty then 0 else if mine.any id then 3 else 1

def ledgerChan (r : ChanRec) : Nat :=
  match r.run with
  | none => 0
  | some x => if x.wrote || decide (0 < x.written) then 3 else 1

/-- The key registers of a request's unit are zero. Those of hash lanes are not of R109. -/
def Req.zeroKeys (q : Req) : Req :=
  match q.unit with
  | some u => if kindOf u = .hash then q else { q with regs := [], regs2 := [], regsB := [] }
  | none => { q with regs := [], regs2 := [], regsB := [] }

/-- Registers and entries that an alarm or the safe state zeroises (R109, R162): the unwrapped function records in the walker's staging
among them (R180, R256). -/
def eraseKeys (s : State) : State :=
  { s with
    cache := [], vault := { s.vault with frames := [] }, reqs := s.reqs.map fun e => (e.1, e.2.map Req.zeroKeys)
    fns := s.fns.map fun e => (e.1, { e.2 with atHand := false }) }

/-- Operations running in PKA units (R120, R140). -/
def pkaRunning (s : State) : Nat := (s.reqs.filter fun e => match e.2 with | some q => onPka q | none => false).length

/-- Slots that requests have created and not yet named to a caller: ended from outside, they are to be freed (R130). -/
def unnamedSlots (s : State) : List Nat :=
  s.reqs.filterMap fun e => match e.2 with
    | some q => q.newSlot.bind fun i => if (getSlot s i).state = .free then none else some i
    | none => none

/-- They are noted for step 12 of the next bring-up. -/
def noteUnnamed (s : State) : State := { s with vault := { s.vault with noted := (unnamedSlots s).foldl addNew s.vault.noted } }

/-- Updates that are dropped give back what they hold: slots that they were to put a key in, and what a RESTORE holds (R159, R263). -/
def dropUpds (s : State) (p : VUpd → Bool) : State := (s.vault.updates.filter p).foldl unassign (unpickAll s p)

/-- Jobs of the NV port are dropped: jubilee counts that one of them was to write are still to be written (R326). -/
def keepJub (n : Nv) : Nv := { n with jubDirty := n.jubDirty || n.jobs.any fun j => decide (j.why = .jubilee) }

/-- Entry to the safe state (R329): work ended, ledger written, messages withdrawn, keys erased, one message issued. A slot that an ended
request had created is noted for step 12 of the next bring-up (R130); one that a creation had only picked returns (R159). The NV command
outstanding runs on in its device (R330). -/
def enterSafe (s : State) : State :=
  if s.safe then s
  else
    let rings := s.rings.map Prod.fst
    let s := { s with
      ledgerR := rings.foldl (fun t n => tput 0 t n (ledgerRing s n)) []
      ledgerC := s.chans.foldl (fun t e => tput 0 t e.1 (ledgerChan e.2)) [] }
    let s := rings.foldl (fun s n => modRing s n fun r =>
      { r with waiting := [], open_ := 0, fetching := false, fenced := false, coal := 0, ffOpen := 0 }) s
    let s := (s.chans.map Prod.fst).foldl (fun s c => modChan s c fun r =>
      if r.run.isSome then chanRest s c r else r) s
    let s := disown s fun _ => true
    let s := dropUpds (noteUnnamed s) fun _ => true
    let s := eraseKeys { s with
      safe := true, cnt := { s.cnt with pkaAband := s.cnt.pkaAband + BitVec.ofNat 32 (pkaRunning s) }, reqs := [], chains := [], chainUse := [], echoUse := [], bursts := []
      vault := { s.vault with updates := [], fetches := [] }
      nv := { keepJub s.nv with jobs := s.nv.jobs.take 1 |>.filter NvJob.begun } }
    raiseOwn (withdrawAll s)

/-! ### The work of fenced units -/

/-- Requests whose record meets a test, in order of arrival. -/
def reqsWith (s : State) (p : Req → Bool) : List Nat :=
  s.reqs.filterMap fun e => match e.2 with | some q => if p q then some e.1 else none | none => none

/-- The request was granted the unit. -/
def usesUnit (u : Nat) (q : Req) : Bool := decide (q.unit = some u) || decide (q.unit2 = some u)

/-- Rerun a request from its first step on another cell, which its group grants it anew (R17): it keeps the values it was given. While
the reservation of those is being written it waits for that first; when the computation is over and its outcome is being recorded it needs
a cell no more. -/
def rerun (s : State) (r : Nat) : State :=
  match getReq s r with
  | none => s
  | some q =>
    let free : Req := { q with
      unit := none, unit2 := none, regs := [], regs2 := [], regsB := [], resume := if q.resume = .unit2 then .none else q.resume }
    if q.phase = .vault then setReq s r (some { free with grants := grantsOf s free })
    else
      setReq (disown s (ownOf r)) r (some { free with
        grants := grantsOf s free, chunks := [], outst := 0, err := none
        srcB := if q.d.flag fSrcPeer then q.srcB else [], refB := []
        phase := if (unitFor s free).isNone then .ready else .waitGrant })

/-- The request holds a PKA unit. -/
def holdsPka (q : Req) : Bool := (pkaOf q).isSome

/-- A request that used a fenced cell (R17, R120). -/
def offCell (s : State) (u r : Nat) : State :=
  match getReq s r with
  | none => s
  | some q =>
    let others := (activeCells s (kindOf u) ((groupOf u).getD 0)).filter (· ≠ u)
    if q.wrote || holdsPka q || others.length < (if q.echo then 2 else 1) then failStep s r .faultDetected 0 else rerun s r

/-- A started step that has passed check 7 and was not granted the cell that it needs next: it has yet to come to its grant, waits for its
peer's job or its reservation before it, or lacks its second cell. -/
def ungranted (s : State) (q : Req) : Bool :=
  (q.unit.isNone && (match q.phase with
    | .lookup | .resolve | .waitGrant | .waitEcho | .waitPeer | .peer => true
    | .vault => decide (q.resume = .values)
    | _ => false)) ||
  (wantsSecond s q && decide (q.phase = .waitGrant))

/-- A request that waits for a cell of a kind of which the group has none left (R17). -/
def noCell (s : State) (r : Nat) : State :=
  match getReq s r with
  | none => s
  | some q => failStep s r (if q.taken then .faultDetected else .notReady) 0

/-- The work of a fenced lane, hash lane or PKA unit (R17, R120). -/
def cellDown (s : State) (u : Nat) : State :=
  let g := (groupOf u).getD 0
  let s := (reqsWith s (usesUnit u)).foldl (fun s r => offCell s u r) s
  let left := (activeCells s (kindOf u) g).length
  (reqsWith s fun q => ungranted s q && decide (unitFor s q = some (kindOf u) ∧ groupOfReq s q = g ∧
      left < (if q.echo then 2 else 1))).foldl noCell s

/-- An entry moves to where its slot is served now: the bank, or the walker's staging where none serves it or no way is free. Its
live counters resume at their reservations, the raises under way counted (R18, R81, R83). The bank has work (R406). -/
def rehouse (s : State) (e : CacheEnt) : State :=
  let e := if e.old then e else { e with inv := resumeInv s e.slot, blk := max e.blk (resumeBlk s e.slot) }
  match bankOf s e.slot with
  | some b =>
    if hasWay s b e.slot then
      let s := modUnit (makeRoom s b e.slot) (unitAt .kc b) fun u => { u with gated := false }
      { s with cache := { e with bank := b } :: s.cache }
    else { s with cache := { e with bank := stagingBank } :: s.cache }
  | none => { s with cache := { e with bank := stagingBank } :: s.cache }

/-- The entry lies where its slot is served. -/
def housed (s : State) (e : CacheEnt) : Bool := decide (e.bank = (bankOf s e.slot).getD stagingBank)

/-- Banks have gone or come back (R18): the entries that requests refer to move, and the others are fetched anew. -/
def rebank (s : State) : State :=
  (s.cache.filter fun e => !housed s e && decide (0 < e.refs)).foldl rehouse { s with cache := s.cache.filter (housed s) }

/-- Transactions on a fenced port (R21): late answers are discarded; reads go to another port, of the region while it has one; writes fail.
Where the region is lost, R21 ends its requests; the reads of the walker's update and of actions, which are the block's own, go to another
region (DESIGN CHOICE, log 175). -/
def portDown (s : State) (p : Nat) : State :=
  let ts := s.txns.filter fun t => decide (t.port = p) && !t.quar
  let s := { s with txns := s.txns.map fun t => if t.port = p then { t with quar := true, own := .none } else t }
  let m := if regionUp s (p / 4) then p / 4 else anyRegion s
  ts.foldl (fun s t =>
    if t.wr then answered s t.own t.addr t.data (some .memError)
    else match t.own with
      | .none => s
      | .probe q vigil => if vigil then s else probeEnded s q (some .memError)
      | o =>
        if (activePorts s m).isEmpty then answered s o t.addr t.data (some .memError)
        else submit s { region := m, wr := false, addr := t.addr, len := t.len, fn := t.fn, pasid := t.pasid
                        own := o, vault := t.vault, payer := t.payer }) s

/-- A run whose mover is fenced (R199): it resumes from its current descriptor, unless that has issued a write. A descriptor that has
failed ends the run with its status (R217), and a stopped run issues nothing new (R206). -/
def runMoved (s : State) (c : Nat) : State :=
  match (getChan s c).run with
  | none => s
  | some x =>
    if x.stage = .ccb then s
    else if x.err.isSome then endRun (disown s (ownChan c)) c (x.err.getD .ok) x.errIdx
    else if x.wrote then endRun (disown s (ownChan c)) c .faultDetected 0
    else if x.stop then endRun (disown s (ownChan c)) c .abortedReset 0
    else
      let m := chanMover s c
      let s := modRun (disown s (ownChan c)) c fun x => { x with mover := m }
      match x.stage with
      | .head =>
        readPieces (modRun s c fun x => { x with outst := 1, chunks := [], err := none }) (chanWho s c)
          [(0, chanCfg s c 3, 8)] (fun _ => .head c) false
      | _ => if (getChan s c).state = .frozen then s else fetchDesc s c

/-- The work of a fenced mover (R199, R17). -/
def moverDown (s : State) (m : Nat) : State :=
  let cs := (s.chans.filter fun e => decide (e.2.owner ≠ none ∧ runMover s e.1 = m)).map Prod.fst
  let s := rehomeChans s m
  let s := cs.foldl runMoved s
  (reqsWith s fun q => decide (groupOfReq s q = m) &&
      (match q.phase with | .reading | .writing | .ctxWrite => true | _ => false)).foldl (fun s r =>
    match getReq s r with
    | none => s
    | some q => if q.wrote || holdsPka q then failStep s r .faultDetected 0 else rerun s r) s

/-- A fenced noise source feeds no more (R188). -/
def sourceDown (s : State) (n : Nat) : State :=
  { s with rng := { s.rng with feeding := s.rng.feeding &&& ~~~(BitVec.ofNat 8 (2 ^ n)), passed := s.rng.passed.filter (· ≠ n) } }

/-- What a step has resolved is forgotten by its chain. -/
def forgetGens (c : Chain) (q : Req) : Chain :=
  let own (k : Option Nat) (g : Nat) (l : List (Nat × Nat)) : List (Nat × Nat) := match k with | some i => l.erase (i, g) | none => l
  { c with gens := own q.slot2 q.gen2 (own q.slot q.gen c.gens) }

/-- A request with a key that has not reached a unit goes back to its key resolution (R110): what it held is gone. A generation that
it resolved is no earlier step's (R112). -/
def backToKey (s : State) (r : Nat) : State :=
  match getReq s r with
  | none => s
  | some q =>
    let g := groupOfReq s q
    let s := modChain s q.chain fun c => forgetGens c q
    setReq { s with echoUse := tput 0 s.echoUse g (tget 0 s.echoUse g - q.staged) } r
      (some { q with slot := none, slot2 := none, refHeld := false, staged := 0
                     phase := if q.phase = .peer then .peer else .resolve })

/-- A step whose sequencer is fenced begins again on another one (R17): its context is read anew, its key resolved anew, or its cell
granted anew. What waits for a neighbour, or for the end of a vault update, waits on. -/
def restep (s : State) (r : Nat) : State :=
  match getReq s r with
  | none => s
  | some q =>
    match q.phase with
    | .ctx => issueReads (disown s (ownOf r)) r .ctx 0 (piecesOf q.d.ctx 256) false
    | .resolve | .waitEcho | .waitGrant =>
      if q.taken then s
      else
        let s := backToKey (if q.refHeld then dropRef (dropRef s q.slot q.gen) q.slot2 q.gen2 else s) r
        resolve (dropFetches s r) r
    | .vault | .ready | .reading | .loaded | .writing => rerun s r
    | _ => s

/-- The work of a fenced sequencer (R17, R322), while others of its group are active: its chains go to another; the step that runs is
rerun there, unless it has issued a write or holds a PKA unit. -/
def seqDown (s : State) (u : Nat) : State :=
  let cs := s.chains.filterMap fun e => match e.2 with | some c => if c.seq = u then some e.1 else none | none => none
  cs.foldl (fun s cid =>
    match getChain s cid with
    | none => s
    | some c =>
      let u := pickSeq s c.group
      let s := modUnit (setChain s cid (some { c with seq := u })) u fun x => { x with gated := false }
      match (if c.started then c.steps[c.cur]? else none) with
      | none => s
      | some r =>
        match getReq s r with
        | none => s
        | some q =>
          if q.wrote || onPka q then failStep s r .faultDetected 0 else restep s r) s

/-- The running step of a chain, if it has started. -/
def runningStep (c : Chain) : Option Nat := if c.started then c.steps[c.cur]? else none

/-- The work of a group that is no longer active, in an active region (R17, R22). -/
def groupDown (s : State) (g : Nat) : State :=
  let s := ((s.rings.filter fun e => decide (e.2.fetchGrp = g) && e.2.fetching).map Prod.fst).foldl dropFetch s
  let s := rehomeGroup s g
  let s := (s.chains.filterMap fun e => e.2).foldl (fun s c =>
    if c.group ≠ g then s
    else match runningStep c with
      | none => s
      | some r => match getReq s r with
        | none => s
        | some q =>
          if 1 < c.steps.length ∨ (!ungranted s q && decide (q.phase ≠ .ctx)) = true ∨ q.taken = true then failStep s r .faultDetected 0 else failStep s r .notReady 0) s
  moverDown s g

/-- A write of the request is outstanding on a port that is fenced with the region (R21, R24). -/
def writeOut? (s : State) (m r : Nat) : Bool :=
  s.txns.any fun t => decide (t.port / 4 = m) && !ownActive s (unitAt .port t.port) && t.wr && ownOf r t.own

/-- The waiting descriptors of a ring whose chains a region's groups are to run: each belongs to the group that fetched the first
descriptor of its chain (R16). `head` is that group while a chain goes on. -/
def waitingOf (s : State) (m : Nat) : Option Nat → List Nat → List Nat
  | _, [] => []
  | head, r :: t =>
    match getReq s r with
    | none => waitingOf s m head t
    | some q =>
      let g := head.getD q.group
      let rest := waitingOf s m (if q.d.flag fChain && decide (q.ver = 3) then some g else none) t
      if g / 2 = m then r :: rest else rest

/-- The work of a region that is no longer active (R24): that of its groups, wherever their rings are homed by now. -/
def regionDown (s : State) (m : Nat) : State :=
  let bad := (s.reqs.map Prod.fst).filter (writeOut? s m)
  let s := ((s.rings.filter fun e => decide (e.2.fetchGrp / 2 = m) && e.2.fetching).map Prod.fst).foldl dropFetch s
  let s := rehomeRegion s m
  let s := (s.chains.filterMap fun e => match e.2 with | some c => if c.group / 2 = m then some e.1 else none | none => none).foldl
    (fun s cid => match getChain s cid with
      | none => s
      | some c =>
        match runningStep c with
        | some r => failStep s r (if bad.contains r then .memError else .faultDetected) 0
        | none => if c.started then s else killChain s cid .faultDetected) s
  let s := (s.rings.map Prod.fst).foldl (fun s n => endWaiting s n (waitingOf s m none (getRing s n).waiting) .faultDetected) s
  let s := [2 * m, 2 * m + 1].foldl moverDown s
  let s := ((List.range 4).filter fun i => !ownActive s (unitAt .port (4 * m + i))).foldl (fun s i => portDown s (4 * m + i)) s
  let to_ := anyRegion s
  { s with bursts := s.bursts.map fun b => if b.region = m then { b with region := to_ } else b }

/-! ### Fences (R322 to R324, R415) -/

/-- Containers whose service ended between two states: regions first, then groups of regions still up; then the banks that serve the
slots. -/
def afterChange (old s : State) : State :=
  let s := (List.range 4).foldl (fun t m => if regionUp old m && !regionUp s m then regionDown t m else t) s
  let s := (List.range 8).foldl (fun t g =>
    if groupUp old g && !groupUp s g && regionUp t (g / 2) then groupDown t g else t) s
  let s := if (List.range 16).any fun b => active old (unitAt .kc b) != active s (unitAt .kc b) then rebank s else s
  let s := if (upRegions s).isEmpty && !(upRegions old).isEmpty then raiseSrc s 516 else s
  if activeCount s .ns = 0 ∧ 0 < activeCount old .ns then raiseSrc s 517 else s

/-- The work of a cell, port or source that has just stopped taking work. -/
def unitDown (s : State) (u : Nat) : State :=
  match kindOf u with
  | .lane | .hash | .pka => cellDown s u
  | .port => portDown s (unitNo u)
  | .mov => moverDown s (unitNo u)
  | .ns => sourceDown s (unitNo u)
  | .seq => seqDown s u
  | .kc | .grp | .reg => s

/-- Units inside a group or region (R323). -/
def insideOf (u : Nat) : List Nat :=
  match kindOf u with
  | .grp => allUnits.filter fun x => decide (x ≠ u ∧ groupOf x = some (unitNo u))
  | .reg => allUnits.filter fun x => decide (x ≠ u ∧ regionOf x = some (unitNo u))
  | _ => []

/-- The units that follow a container (R323): those that its own fence took, and not one that was fenced before or with another. -/
def followers (s : State) (u : Nat) : List Nat := (insideOf u).filter fun x => decide ((getUnit s x).byCont = some u)

/-- Set the state of a unit and of the units that follow it. -/
def setUnitState (s : State) (u : Nat) (st : UnitState) : State :=
  (u :: followers s u).foldl (fun s x => modUnit s x fun r => { r with state := st }) s

/-- RECOVERY_LIMIT readmissions fall within the preceding 3,600 s (R324). -/
def limitReached (s : State) (u : Nat) : Bool :=
  decide (cfgGet s 0x3200 2 ≤
    ((getUnit s u).readmits.filter fun c => decide ((s.pins.cycles - c) * refPeriod s ≤ 3600000000000)).length)

/-- Step 8 of R109: ALARM_ACTIVE clears once the alarm's hold and the known-answer tests of the erased units are over. -/
def alarmOver (s : State) : State :=
  if !s.alarms.blocked && s.units.all (fun e => !e.2.kat) then { s with alarms := { s.alarms with active := s.alarms.asserted } }
  else s

/-- Take units out of service and treat their work. -/
def takeDown (s : State) (u : Nat) (st : UnitState) : State :=
  let old := s
  let s := (insideOf u).foldl (fun s x =>
    if (getUnit s x).state = .active then modUnit s x fun r => { r with byCont := some u, state := st, tested := false, kat := false } else s) s
  let s := modUnit s u fun r => { r with state := st, tested := false, kat := false, draining := false }
  let s := afterChange old s
  alarmOver (unitDown s u)

/-- A fence (R324). A unit that already is FENCED or in VIGIL restarts its vigil; one in SELF_TEST fails it (R323), and with
it a container that it follows. -/
def fenceUnit (s : State) (u : Nat) : State :=
  match (getUnit s u).state with
  | .active => takeDown s u (if limitReached s u then .retired else .fenced)
  | _ => s

/-- The container that a unit follows, which may follow its region, or itself. -/
def leaderOf (s : State) (u : Nat) : Nat :=
  match (getUnit s u).byCont with
  | some x => (getUnit s x).byCont.getD x
  | none => u

/-- The units as they stand once every self-test under way has passed. -/
def testsPassed (s : State) : State :=
  { s with units := s.units.map fun e => (e.1, if e.2.state = .selfTest then { e.2 with state := .active } else e.2) }

/-- The channels of a mover that can take no work, or whose region or group can take none, are served elsewhere (R24, R199). -/
def rehomeIdle (s : State) : State :=
  ((List.range 8).filter fun m => !active (testsPassed s) (unitAt .mov m)).foldl rehomeChans s

/-- With the last self-test failed no region, or no noise source, is left: sources 516 and 517 (R24, R191, R316). -/
def noneLeft (s : State) (u : Nat) : State :=
  if kindOf u = .ns then (if activeCount s .ns = 0 ∧ testing s [.ns] = false then raiseSrc s 517 else s)
  else if (upRegions s).isEmpty && !testing s [.seq, .port, .mov, .grp, .reg] then raiseSrc s 516
  else s

/-- A source fires for a unit in SELF_TEST: the test fails, and with it that of a container that the unit follows (R323, R324). -/
def failTest (s : State) (u : Nat) : State :=
  if (getUnit s u).state = .selfTest then
    let l := leaderOf s u
    let s := noneLeft (rehomeIdle (setUnitState s l .retired)) l
    -- a port that will not be measured holds the survey up no longer (R312)
    if (kindOf l = .port ∨ kindOf l = .reg) ∧ s.bring.probing = false ∧ s.bring.rtt ≠ [] then surveyEnd s else s
  else s

/-! ### The collector -/

/-- The lane or bank that holds a register whose parity failed (R108, R316): its uncorrectable source is raised with 492. -/
def parityUnit (l : List Nat) : Option Nat :=
  l.findSome? fun x => match sourceUnit x with
    | some u => if (kindOf u = .lane ∨ kindOf u = .kc) ∧ x = unitSource u 1 then some u else none
    | none => none

/-- A source of a port whose probe of the survey has failed: the port is fenced whatever the severity (R312, R320). -/
def probeFenced (s : State) (src : Nat) : Option Nat :=
  match sourceUnit src with
  | some u => if kindOf u = .port ∧ s.bring.probeFence.contains (unitNo u) = true then some u else none
  | none => none

/-- One source is set (R317, R320, R321). `l` lists the sources set with it. -/
def setSource (l : List Nat) (s : State) (src : Nat) : State :=
  if 521 ≤ src then s
  else
    let was := s.sticky.getLsbD src
    let re := reactionOf s src
    let s := { s with sticky := s.sticky ||| BitVec.ofNat 768 (2 ^ src) }
    if s.safe then s
    else
      let s := match sourceUnit src with | some u => failTest s u | none => s
      let s := match probeFenced s src with
        | some u => fenceUnit { s with bring := { s.bring with probeFence := s.bring.probeFence.filter (· ≠ unitNo u) } } u
        | none => s
      let note := if was then s else raiseOwn s
      match re with
      | .log => s
      | .notify => note
      | .fence =>
        (match (match sourceUnit src with | some u => some u | none => parityUnit l) with
          | some u => fenceUnit note u
          | none => note)
      | .safe => enterSafe s

/-- Sources that lead to the safe state are taken first: it supersedes every other reaction (R321). -/
def ordered (s : State) (l : List Nat) : List Nat :=
  l.filter (fun x => decide (x < 521 ∧ reactionOf s x = .safe)) ++ l.filter (fun x => !decide (x < 521 ∧ reactionOf s x = .safe))

/-- The collector reacts to every source set in the command, and to the sources that its reactions set. -/
def collectN : Nat → State → State
  | 0, s => { s with raised := [] }
  | n + 1, s =>
    if s.raised.isEmpty then s
    else collectN n ((ordered s s.raised).foldl (setSource s.raised) { s with raised := [] })

def collect (s : State) : State := collectN 8 s

/-- What every command ends with. -/
def fin (s : State) : Out State := .next (settle (collect s))

/-- A command that the block serves only while its core domains run: neither reset is asserted. -/
def whenUp (s : State) (t : State) : State := if coreUp s then t else s

end Sys2Proof.Machine
end

