-- ==== Sys2Proof/Machine/Clock.lean ====
section
/-!
DEFINITION. What time alone does: a REF_CLK cycle, what the block's neighbours take from it, the moments of bring-up that no
single event names (R292, R304, R309), and the end of drains (R324).
-/
namespace Sys2Proof.Machine

open Sys2Proof

/-- A REF_CLK cycle (R27, R299), counted while PO_RST_N is released. -/
def tick (s : State) : State := { s with pins := { s.pins with cycles := s.pins.cycles + 1 } }

/-- The host chip takes the interrupt message on offer (R383); the manager's bus takes the next MCTP packet (R384); the peer
takes the next message (R390). -/
def handOver (s : State) : State :=
  { s with
    irq := s.irq.tail
    mgmt := { s.mgmt with mo := s.mgmt.mo.tail }
    peer := { s.peer with out := s.peer.out.tail } }

/-- A unit has finished its self-test and known-answer tests (R304, R309): it waits for none. -/
def testsOver (s : State) (u : Nat) : Bool :=
  let r := getUnit s u
  let tests : Bool := match kindOf u with | .seq | .lane | .hash | .pka | .port => true | _ => false
  decide (r.state ≠ .selfTest) && (!tests || decide (r.state ≠ .active) || r.tested)

/-- BRINGUP_TIME is taken when the last of READY bits 7 to 0 is set (R292). -/
def noteReady (s : State) : State :=
  if coreUp s && decide (s.bring.bringupNs = 0 ∧ readyMask s none = 255) then
    { s with bring := { s.bring with bringupNs := sinceReset s } }
  else s

/-- The enable recorded for a function takes effect. -/
def applyEnable (s : State) (f : Nat) : State :=
  let r := getFn s f
  match r.state, r.hostEnable with
  | .running, false => modFn s f fun r => { r with state := .quiesced, skew := false }
  | .quiesced, true => releaseHeld (modFn s f fun r => { r with state := .running, skew := false }) f
  | _, _ => s

/-- Every recorded enable takes effect. -/
def applyEnables (s : State) : State := ((0 :: s.fns.map Prod.fst).eraseDups).foldl applyEnable s

/-- AL 3000.1A leaves FIXED, with one message on EVENT_VECTOR of function 0 (R309); the
enables recorded during a reset take effect (R381). -/
def noteNormal (s : State) : State :=
  if coreUp s && s.bring.fixed && (readyWord s).testBit 8 && (readyWord s).testBit 9 && allUnits.all (testsOver s) then
    applyEnables (raiseOwn { s with bring := { s.bring with fixed := false } })
  else s

/-- The vault is ready once the updates of step 12 are over, no function is left DESTROYING, and every context key that a new
incarnation brings is drawn (R256, R303, R304). -/
def noteVault (s : State) : State :=
  if coreUp s && s.bring.vaultDone && !s.vault.ready && !s.vault.fresh && s.vault.updates.isEmpty &&
      (s.fns.all fun e => decide (e.2.state ≠ .destroying)) && !(s.rng.wires.any fun w => match w with | .inc | .ctx _ => true | _ => false) then
    { s with vault := { s.vault with ready := true } }
  else s

/-- What every change of readiness is followed by. -/
def bringWatch (s : State) : State := noteNormal (noteReady (noteVault s))

/-- Requests of a group whose data its mover is moving. -/
def movReqs (s : State) (g : Nat) : List Nat :=
  reqsWith s fun q => decide (groupOfReq s q = g) && (match q.phase with | .reading | .writing | .ctxWrite => true | _ => false)

/-- Channels whose runs the movers that meet a test work on: not held, and not yet at the control block. -/
def runsOn (s : State) (p : Nat → Bool) : List Nat :=
  (s.chans.filter fun e => match e.2.run with
    | some x => p x.mover && decide (x.stage ≠ .ccb ∧ e.2.state ≠ .frozen)
    | none => false).map Prod.fst

/-- Requests and runs of a unit in the course of its drain are over. -/
def unitQuiet (s : State) (u : Nat) : Bool :=
  match kindOf u with
  | .lane | .hash | .pka => (reqsWith s (usesUnit u)).isEmpty
  | .port => !(s.txns.any fun t => decide (t.port = unitNo u) && !t.quar)
  | .mov => (movReqs s (unitNo u)).isEmpty && (runsOn s fun m => decide (m = unitNo u)).isEmpty
  | .grp => (runsOn s fun m => decide (m = unitNo u)).isEmpty && !(s.chains.any fun e => match e.2 with | some c => decide (c.group = unitNo u) && c.started | none => false)
  | .reg =>
    (runsOn s fun m => decide (m / 2 = unitNo u)).isEmpty &&
    !(s.txns.any fun t => decide (t.port / 4 = unitNo u) && !t.quar) &&
    !(s.chains.any fun e => match e.2 with | some c => decide (c.group / 2 = unitNo u) && c.started | none => false)
  | .seq => !(s.chains.any fun e => match e.2 with | some c => decide (c.seq = u) && c.started | none => false)
  | _ => true

/-- The drain of a unit has ended: it goes out of service (R324). -/
def unitOut (s : State) (u : Nat) : State := if (getUnit s u).draining then takeDown s u .outOfService else s

/-- Drains that have nothing left to wait for end. -/
def drainsOver (s : State) : State :=
  ((s.units.filter fun e => e.2.draining && unitQuiet s e.1).map Prod.fst).foldl unitOut s

end Sys2Proof.Machine
end

