-- ==== Sys2Proof/Machine/Symmetric.lean ====
section
/-!
DEFINITION. Symmetric operations (R69 to R100): streaming contexts, check 9, the values taken at acceptance (R75, R80 to R83,
R93), the outputs; and the rows of opcode groups 00xxh to 04xxh and 08xxh.
-/
namespace Sys2Proof.Machine

open Sys2Proof

/-! ### Keys -/

/-- The key that a request computes with: that in the registers of its unit, or its generation's where it runs on none. -/
def keyMat (s : State) (q : Req) : Bytes := if q.regs.isEmpty then entMat s q.slot q.gen else q.regs

/-- The key in the second lane of an echoed request (R114). -/
def keyMat2 (s : State) (q : Req) : Bytes := if q.regs2.isEmpty then entMat s q.slot q.gen else q.regs2

/-- Policy of the request's slot. -/
def keyPol (s : State) (q : Req) : Nat := match q.slot with | some i => (getSlot s i).policy | none => 0

/-- The live counters and the mark of a request's slot: those of the entry of the current generation, or, where the home bank holds none,
those that the record gives at its next fetch (R75, R81, R83). -/
def keyEnt (s : State) (q : Req) : Option CacheEnt := q.slot.map fun i => (cacheFind s i).getD (entryOf s i stagingBank)

/-! ### Streaming contexts (R87 to R91, R96) -/

def isRequestDec (o : Op) : Bool := match o with | .decrypt | .aeadDec | .gmacVer | .decVer => true | _ => false

/-- The mode keeps a stream mark (R89). -/
def hasMark (m : Nat) : Bool := decide (m = 5 ∨ m = 6 ∨ m = 9)

def isUnkeyedMode (m : Nat) : Bool := isHashMode m

/-- The context would be saved wrapped without WRAP_CONTEXT (R90). -/
def wrapNeeded (s : State) (q : Req) (m ival : Nat) : Bool :=
  if isUnkeyedMode m then false
  else !polHas (keyPol s q) pCtxClear || isHmac m || isKmac m || (hasMark m && decide (ival ≠ allOnes))

/-- Bytes 0 to 15 of a context (R88). -/
def ctxHead (s : State) (q : Req) (form m : Nat) : Bytes :=
  le 2 1 ++ le 1 form ++ le 1 m ++ le 2 q.ring ++ le 2 q.fn ++
  (match q.slot with | some i => le 4 (handleOf s i) ++ le 4 q.gen | none => zeros 8)

/-- Counter values of width `w` that a CTR message has taken when it stands at a counter block after a number of blocks: those before its
initial one, and its own. More than 2^w of them wrap (R72, R73). -/
def ctrSpan (w : Nat) (cb : Bytes) (before : Nat) : Nat :=
  let c := ofBe cb % 2 ^ w
  (c + 2 ^ w - before % 2 ^ w) % 2 ^ w + before

/-- A CTR STATE whose count and counter block are beyond the limit of R73: the message has wrapped already. -/
def ctrWrapped (st : Bytes) : Bool := decide (2 ^ fld st 16 1 < ctrSpan (fld st 16 1) (slice st 0 16) (ceilDiv (fld st 24 8) 16))

/-- Checks 1 to 4 of R91 but those against a request: the STATE, or the status. `m` is the mode that the context must have. -/
def openCtx (s : State) (q : Req) (m : Nat) : Except Status Bytes :=
  let c := q.ctxIn
  let form := fld c 2 1
  let head := c.take 16
  if fld c 0 2 ≠ 1 then .error .contextVersion
  else if 1 < form ∨ head ≠ ctxHead s q form m ∨ !allZero (slice c 244 12) ∨
      (form = 0 ∧ !(allZero (slice c 16 12) && allZero (slice c 228 16))) then .error .contextInvalid
  else
    let text := slice c 28 200
    let key := (getFn s q.fn).ctxKey
    let r : Except Status Bytes :=
      if form = 1 then
        -- with its key destroyed no context can be unwrapped (R346)
        if key ≠ [] ∧ gcmOpenOk key (slice c 16 12) head text (slice c 228 16) then .ok (gcmOpen key (slice c 16 12) head text)
        else .error .contextInvalid
      else .ok text
    match r with
    | .error e => .error e
    | .ok st =>
      let p := priorOf m st
      if form = 0 && wrapNeeded s q m p.ival then .error .contextInvalid
      else if !unlistedZero m st || !countsOk m p || (decide (m = 3) && ctrWrapped st) || (p.dir.any fun d => decide (1 < d)) then
        .error .contextInvalid
      else .ok st

/-- Test 1 of R74 on a continuing segment: the STATE, or the status. -/
def ctxTest (s : State) (q : Req) : Except Status Bytes :=
  let m := modeOf q.d.opcode
  match openCtx s q m with
  | .error e => .error e
  | .ok st =>
    let p := priorOf m st
    let dir := if isRequestDec q.op then 1 else 0
    if (p.dir.any fun d => decide (d ≠ dir)) || (p.w.any fun w => decide (w ≠ q.d.mode)) ||
        (p.tag.any fun t => decide (t ≠ tagLen m q.d.mode)) then .error .contextInvalid
    else if hasMark m && decide (dir = 0 ∧ p.ival ≠ allOnes) &&
        decide (((keyEnt s q).bind CacheEnt.mark) ≠ some (p.ival, p.seg)) then .error .contextInvalid
    else match q.op with
      | .aeadEnc | .gmacGen =>
        if polHas (keyPol s q) (if p.ival = allOnes then pCallerIv else pDeviceIv) then .ok st else .error .keyPolicy
      | _ => .ok st

/-! ### Check 9 (R73, R74) -/

/-- The status with which the RNG turns a request away, if it does not run (R193). -/
def rngStop (s : State) : Option Status :=
  match s.rng.state with
  | .running => none
  | .halted => some .rngHalted
  | .advent => some .rngAdvent

/-- The same for what draws from the CTR_DRBG: its pipeline must not have stopped either (R105, R189). -/
def drbgStop (s : State) : Option Status := (rngStop s).orElse fun _ => if drbgUp s then none else some .rngHalted

/-- Data-unit number of XTS (R72). -/
def xtsNum (q : Req) : Nat := if xtsInBlock q.ver q.op q.d then fld q.prm 0 8 else q.d.param

/-- The counter field of a CTR message wraps within the request (R72, R73). -/
def ctrWraps (q : Req) (st : Option Bytes) : Bool :=
  let w := q.d.mode
  let cb := match st with | some b => slice b 0 16 | none => prmIv q.prm
  let before := match st with | some b => ceilDiv (fld b 24 8) 16 | none => 0
  decide (2 ^ w < ctrSpan w cb before + ceilDiv q.d.dataLen 16)

/-- Tests 2 to 6 of R74 for symmetric operations. -/
def symLimits (q : Req) (st : Option Bytes) : Bad :=
  let m := modeOf q.d.opcode
  let d := q.d
  let data := d.dataLen
  let fin := !d.flag fCtxOut
  let p := match st with | some b => priorOf m b | none => {}
  let totD := p.data + data
  let totA := p.aad + d.aadLen
  let isGmac := decide (m = 6)
  let keyBlk := if isHmac m && st.isNone then segUnit m else 0
  firstBad
    [ (decide (d.srcLen < d.aadLen), .lenAad, 0),
      (isGmac && decide (d.aadLen ≠ d.srcLen), .lenAad, 0),
      (decide (0 < d.aadLen ∧ 0 < p.data), .lenAad, 0),
      (!fin && decide (0 < d.aadLen ∧ data = 0 ∧ d.aadLen % 16 ≠ 0), .lenAad, 0),
      (decide ((m = 1 ∨ m = 2) ∧ data % 16 ≠ 0), .lenAlign, 0),
      (decide (m = 4 ∧ data % (d.mode % 2 ^ 25) ≠ 0), .lenAlign, 0),
      (!fin && decide (data % segUnit m ≠ 0), .lenAlign, 0),
      (decide (m = 8 ∧ data = 0) && st.isSome && fin, .lenAlign, 0),
      (decide ((m = 1 ∨ m = 2 ∨ m = 4) ∧ data = 0), .lenLimit, 0),
      (decide (m = 3 ∧ totD = 0) && fin, .lenLimit, 0),
      (decide (m = 5 ∧ (2 ^ 36 - 32 < totD ∨ 2 ^ 61 - 1 < totA)), .lenLimit, 0),
      (isGmac && decide (2 ^ 61 - 1 < totA), .lenLimit, 0),
      (decide (m = 7 ∧ 2 ^ (8 * (15 - prmIvLen q.prm)) ≤ data), .lenLimit, 0),
      (decide (m = 9 ∧ (2 ^ 38 - 64 < totD ∨ 2 ^ 64 ≤ totA)), .lenLimit, 0),
      (decide (cntLen m = 8 ∧ 0x10 ≤ m ∧ 2 ^ 61 ≤ totD + keyBlk), .lenLimit, 0),
      (decide (cntLen m = 16 ∧ 0x10 ≤ m ∧ 2 ^ 125 ≤ totD + keyBlk), .lenLimit, 0),
      (decide (m = 3) && ctrWraps q st, .counterWrap, 0),
      (decide (m = 4 ∧ 2 ^ 64 < xtsNum q + data / (d.mode % 2 ^ 25)), .counterWrap, 0),
      (!refersDst q.op && decide (d.dstCap < outLen q.op d 0), .destOverflow, 0) ]

/-- Blocks that a request counts (R83). -/
def blocksCounted (q : Req) (st : Option Bytes) : Nat :=
  let m := modeOf q.d.opcode
  if m = 9 then 0
  else match q.op with
    | .encrypt | .aeadEnc | .reencVer => ceilDiv q.d.dataLen 16
    | .gmacGen => ceilDiv q.d.aadLen 16
    | .macGen => if m = 8 then (if q.d.srcLen = 0 ∧ st.isNone = true then ofBool (!q.d.flag fCtxOut) else ceilDiv q.d.srcLen 16) else 0
    | _ => 0

/-- The segment saves a wrapped context: WRAP_CONTEXT, or R90 calls for it. -/
def savesWrapped (s : State) (q : Req) (st : Option Bytes) : Bool :=
  let m := modeOf q.d.opcode
  let ival := match st with
    | some b => (priorOf m b).ival
    | none => if q.d.flag fDeviceIv then 0 else allOnes
  q.d.flag fCtxOut && (q.d.flag fWrap || wrapNeeded s q m ival)

/-- The request is of a generation that the slot's block-usage count includes (R85): blocks of one that was superseded by a key with another
check value do not count (DESIGN CHOICE, log 173: R83 and R85 name no such request). -/
def countsBlocks (s : State) (q : Req) : Bool := q.slot.any fun i => decide ((getSlot s i).blkGen ≤ q.gen)

/-- Test 8 of R74 and the exhaustion of the context counter, after which every CONTEXT_OUT fails (R82, R83, R90): whether the request
fails, and whether the slot retires. -/
def exhausted (s : State) (q : Req) (st : Option Bytes) : Option Bool :=
  let n := blocksCounted q st
  match keyEnt s q, q.slot with
  | some e, some i =>
    if q.d.flag fDeviceIv && decide (2 ^ 64 ≤ e.inv) then some true
    else if countsBlocks s q && decide (0 < n ∧ (getSlot s i).blkLim < e.blk + n) then some true
    else if q.d.flag fCtxOut && decide (2 ^ 64 ≤ (getFn s q.fn).ctxCtr) then some false
    else none
  | _, _ => if q.d.flag fCtxOut && decide (2 ^ 64 ≤ (getFn s q.fn).ctxCtr) then some false else none

/-! ### Acceptance (R75, R81, R83, R90, R93) -/

/-- The stream mark after acceptance: none where it does not change. -/
def newMark (s : State) (q : Req) (st : Option Bytes) : Option (Option (Nat × Nat)) :=
  let m := modeOf q.d.opcode
  if !hasMark m then none
  else match q.op, st with
    | .aeadEnc, none | .gmacGen, none =>
      if q.d.flag fDeviceIv && q.d.flag fCtxOut then (keyEnt s q).map fun e => some (e.inv, 1) else none
    | .aeadEnc, some b | .gmacGen, some b =>
      let p := priorOf m b
      if p.ival = allOnes then none else some (if q.d.flag fCtxOut then some (p.ival, p.seg + 1) else none)
    | _, _ => none

/-- The block-usage reservation that covers a count (R83). -/
def blkReserve (lim v : Nat) : Nat := min lim (ceilDiv v (2 ^ 24) * 2 ^ 24)

/-- The request takes its values; what must be durable first is written to the vault, and the data follows. Its blocks join the count of
every generation that the slot's counter includes (R75, R85; log 173). The context key and counter of the context that it saves are taken
together, and the context that it continues stands as it was opened (R90, R91). -/
def takeValues (s : State) (r : Nat) (q : Req) (st : Option Bytes) : State :=
  let n := blocksCounted q st
  let wrap := savesWrapped s q st
  let mk := newMark s q st
  let fr := getFn s q.fn
  let wops : List VOp := if wrap && decide (fr.ctxRes ≤ fr.ctxCtr) then [.ctxRes q.fn fr.ctxCtr fr.ctxKey] else []
  let s1 := if wrap then setFn s q.fn { fr with ctxCtr := fr.ctxCtr + 1 } else s
  let q := { q with opened := st, ctxKey := if wrap then fr.ctxKey else [], ctxCtr := fr.ctxCtr }
  match q.slot, keyEnt s q with
  | some i, some e =>
    let dev := q.d.flag fDeviceIv
    let rec_ := getSlot s i
    let s2 := cacheMod s1 i e.gen fun e => { e with
      inv := if dev then e.inv + 1 else e.inv
      blk := if countsBlocks s q then e.blk + n else e.blk
      mark := match mk with | some x => x | none => e.mark }
    let ops : List VOp :=
      (if dev && decide (rec_.invRes ≤ e.inv) then [.raiseInv i e.inv] else []) ++
      (if countsBlocks s q && decide (0 < n ∧ rec_.blkRes < e.blk + n) then [.setBlk i (blkReserve rec_.blkLim (e.blk + n)) rec_.blkGen] else []) ++
      (match mk with | some x => [.setMark i x] | none => []) ++ wops
    let q := { q with iv := if dev then some e.inv else none
                      taken := dev || decide (0 < n) || mk.isSome || wrap }
    if ops.isEmpty then beginData (setReq s2 r (some q)) r
    else submitUpd (setReq s2 r (some { q with phase := .vault, resume := .values })) ops (some r)
  | _, _ =>
    let q := { q with taken := wrap }
    if wops.isEmpty then beginData (setReq s1 r (some q)) r
    else submitUpd (setReq s1 r (some { q with phase := .vault, resume := .values })) wops (some r)

/-- Tests 2 to 8 of check 9; `go` is what follows where all are passed. -/
def checkNine (s : State) (r : Nat) (q : Req) (st : Option Bytes) (go : State) : State :=
  match symLimits q st with
  | some e => failStep s r e.1 e.2
  | none =>
    match (if q.d.flag fDeviceIv then rngStop s else none) with
    | some e => failStep s r e 0
    | none =>
      match exhausted s q st, q.slot with
      | some true, some i => submitUpd (failStep s r .keyExhausted 0) [.retire i] none
      | some _, _ => failStep s r .keyExhausted 0
      | none, _ => go

/-- Check 9 and acceptance of a symmetric request. -/
def symAccept (s : State) (r : Nat) (q : Req) : State :=
  if q.taken then beginData s r
  else if q.d.flag fCtxIn then
    (match ctxTest s q with
      | .error e => failStep s r e 0
      | .ok b => checkNine s r q (some b) (takeValues s r q (some b)))
  else checkNine s r q none (takeValues s r q none)

/-! ### Computation and outputs (R76 to R80, R86, R92, R97 to R100) -/

/-- A device IV (R80). -/
def deviceIv (s : State) (q : Req) : Bytes :=
  match q.slot, q.iv with
  | some i, some v => be 4 (getSlot s i).fixed ++ be 8 v
  | _, _ => []

/-- The segment that a loaded request computes. SEG of the context of a message under a caller's IV, to which R89 gives no value, is
written as 0 (DESIGN CHOICE, log 129). -/
def segOf (s : State) (q : Req) : Seg :=
  let m := modeOf q.d.opcode
  let st := q.opened
  let dev := q.d.flag fDeviceIv
  let p := match st with | some b => priorOf m b | none => {}
  { m := m, mp := q.d.mode, dec := isRequestDec q.op, key := keyMat s q, st := st
    iv := if dev then deviceIv s q else prmIv q.prm
    aad := q.srcB.take q.d.aadLen, data := q.srcB.drop q.d.aadLen, final := !q.d.flag fCtxOut, num := xtsNum q
    seg := if dev then 1 else if p.ival = allOnes then 0 else p.seg + 1
    ival := if dev then q.iv.getD 0 else p.ival }

/-- The context to be written (R88, R90). -/
def ctxBytes (s : State) (q : Req) (st : Bytes) : Bytes :=
  let m := modeOf q.d.opcode
  if savesWrapped s q q.opened then
    let head := ctxHead s q 1 m
    let iv := be 4 q.fn ++ be 8 q.ctxCtr
    let e := gcmSeal q.ctxKey iv head st
    head ++ iv ++ e.1 ++ e.2 ++ zeros 12
  else ctxHead s q 0 m ++ zeros 12 ++ st ++ zeros 28

/-- A comparison of a computed stream with the reference (R97). -/
def compareEnd (s : State) (r : Nat) (q : Req) (stream : Bytes) : State :=
  match firstDiff 0 stream q.refB with
  | none => endStep s r .ok q.d.dstCap
  | some i => endStep s r .verifyMismatch i

/-- What a segment puts before its data: a device IV, and the AAD under COPY_AAD (R76, R79). -/
def outHead (q : Req) (x : Seg) : Bytes :=
  let pre := if q.d.copyAad && q.op.isSym && isAead (modeOf q.d.opcode) then x.aad else []
  match q.op with
  | .aeadEnc => (if q.d.flag fDeviceIv then x.iv else []) ++ pre
  | .gmacGen => if q.d.flag fDeviceIv then x.iv else []
  | .aeadDec => pre
  | _ => []

/-! ### Echo (R114 to R116) -/

/-- Offset, in the stream of data and tag, at which the computation of the second lane disagrees with the first: the same computation,
or for decrypted data its inversion, with the second lane's key. -/
def echoDiff (s : State) (q : Req) (x : Seg) : Option Nat :=
  let o := runSeg x
  let dec := match q.op with | .decrypt | .aeadDec => true | _ => false
  let o2 := runSeg (if dec then { x with dec := false, data := o.out, key := keyMat2 s q } else { x with key := keyMat2 s q })
  let tag (t : Bytes) : Bytes := if x.final then t else []
  firstDiff 0 ((if dec then x.data else o.out) ++ tag o.tag) (o2.out ++ tag o2.tag)

/-- Bytes of an output that are released before a disagreement at an offset (R115): none of one that is staged whole; otherwise the
chunks of 16 KiB before it, the tag lying in the last chunk. -/
def echoReleased (len tag i : Nat) : Nat :=
  if len ≤ 65536 then 0 else min (16384 * (i / 16384)) (16384 * ((len - tag) / 16384))

/-- The two lanes of a request disagree (R116): both lanes' sources, the counter, and the chunks released before to host memory; the chain
buffer and a peer get nothing (R115, R231). -/
def echoFails (s : State) (r : Nat) (q : Req) (x : Seg) (i : Nat) : State :=
  let o := runSeg x
  let s := { s with cnt := { s.cnt with echoMis := s.cnt.echoMis + 1 } }
  let tag := match q.op with | .aeadEnc | .gmacGen | .macGen => if x.final then o.tag else [] | _ => []
  let writes : Bool := (match q.op with | .encrypt | .decrypt | .aeadEnc | .aeadDec => true | _ => false) &&
    !q.d.flag fDstPeer && (!feeds s r || q.spilled)
  let out := outHead q x ++ o.out ++ tag
  let n := echoReleased out.length tag.length ((outHead q x).length + i)
  failWith s ((q.unit.toList ++ q.unit2.toList).map fun u => unitSource u 2) fun s =>
    if writes && decide (0 < n) then writeOut s r (out.take n) .faultDetected 0 else failStep s r .faultDetected 0

/-! ### The end of a segment -/

/-- A loaded segment whose computation stands: the outputs, the tag checks and the comparisons, and the context to be saved. -/
def symPut (s : State) (r : Nat) (q : Req) (x : Seg) : State :=
  let m := modeOf q.d.opcode
  let o := runSeg x
  let fin := x.final
  let s := if fin then s else modReq s r fun q => { q with ctxOut := ctxBytes s q o.st }
  let put (s : State) (b : Bytes) : State := writeOut s r b .ok b.length
  let tagOk := decide (o.tag = (prmTag q.prm).take o.tag.length)
  match q.op with
  | .encrypt | .decrypt => put s o.out
  | .aeadEnc => put s (outHead q x ++ o.out ++ (if fin then o.tag else []))
  | .aeadDec =>
    if !fin || tagOk then put s (outHead q x ++ o.out)
    else if feeds s r && !q.spilled then failStep s r .authFail 0
    else writeOut s r (outHead q x ++ o.out) .authFail 0
  | .gmacGen => put s (outHead q x ++ (if fin then o.tag else []))
  | .gmacVer | .macVer => if !fin || tagOk then put s [] else failStep s r .authFail 0
  | .hash | .macGen => put s (if fin then o.tag else [])
  | .decVer => if isAead m && !tagOk then failStep s r .authFail 0 else compareEnd s r q o.out
  | .reencVer => compareEnd s r q (o.out ++ (if isAead m then o.tag else []))
  | .digVer => compareEnd s r q o.tag
  | _ => s

/-- The end of a loaded symmetric request: its units count (R299), an echoed one is compared first (R114), and its computation goes to its
place. -/
def symEnd (s : State) (r : Nat) (q : Req) (place : State → Seg → State) : State :=
  let x := segOf s q
  let s := countUnits s q.fn (onLane q.op (modeOf q.d.opcode)) q.d.srcLen
  match (if q.echo then echoDiff s q x else none) with
  | some i => echoFails s r q x i
  | none => place s x

/-- The end of a request whose output is in host memory or in the chain buffer. -/
def symFinish (s : State) (r : Nat) (q : Req) : State := symEnd s r q fun s x => symPut s r q x

/-- A symmetric command acts on a request of its opcode that stands before acceptance or has its data. -/
def symStep (o : Op) (r : Nat) (s : State) : State :=
  match getReq s r with
  | none => s
  | some q =>
    if q.op ≠ o || q.d.flag fSrcPeer || q.d.flag fDstPeer then s
    else if q.phase = .ready then pumpAll (symAccept s r q)
    else if q.phase = .loaded then pumpAll (symFinish s r q)
    else s

/-- A request of an opcode, in a phase. -/
def whenReq (o : Op) (p : Phase) (r : Nat) (s : State) (f : Req → State) : State :=
  match getReq s r with
  | none => s
  | some q => if q.op = o ∧ q.phase = p then pumpAll (f q) else s

/-! ### The rows -/

/-- NOP and NOP_SIGNAL (R49). -/
def nopOp (r : Nat) (s : State) : State := whenReq .nop .ready r s fun _ => endStep s r .ok 0
def nopSignalOp (r : Nat) (s : State) : State := whenReq .nopSignal .ready r s fun _ => endStep s r .ok 0

/-- A context is read for what it says (R96): its STATE, or the status. Its own MODE is the one it must have. -/
def readCtx (s : State) (q : Req) : Except Status Bytes :=
  let m := fld q.ctxIn 3 1
  if fld q.ctxIn 0 2 ≠ 1 then .error .contextVersion
  else if !(isHashMode m || isMacMode m || decide (m = 2 ∨ m = 3 ∨ m = 5 ∨ m = 6 ∨ m = 9)) || (isUnkeyedMode m && q.slot.isSome) ||
      (!isUnkeyedMode m && q.slot.isNone) then .error .contextInvalid
  else openCtx s q m

/-- CONTEXT_INFO (R96). The data bytes so far of an HMAC context are the count in STATE, the key block included (DESIGN CHOICE,
log 130). -/
def contextInfoOp (r : Nat) (s : State) : State :=
  whenReq .ctxInfo .ready r s fun q =>
    match readCtx s q with
    | .error e => failStep s r e 0
    | .ok st =>
      if q.d.dstCap < 32 then failStep s r .destOverflow 0
      else
        let m := fld q.ctxIn 3 1
        let p := priorOf m st
        let keepsAad := hasMark m
        let keepsData := decide (cvLen m ≠ 200 ∨ m < 0x10)
        writeOut s r (q.ctxIn.take 4 ++ le 1 (p.dir.getD 255) ++ zeros 3 ++ le 8 (if keepsAad then p.aad else allOnes) ++
          le 8 (if keepsData then p.data else allOnes) ++ zeros 8) .ok 32

/-- CONTEXT_CLOSE (R96): the stream mark ends if the context carries it, and the context is zeroed. -/
def contextCloseOp (r : Nat) (s : State) : State :=
  whenReq .ctxClose .ready r s fun q =>
    match readCtx s q with
    | .error e => failStep s r e 0
    | .ok st =>
      let m := fld q.ctxIn 3 1
      let p := priorOf m st
      let mine := hasMark m && decide (p.dir = some 0 ∧ p.ival ≠ allOnes) &&
        decide (((keyEnt s q).bind CacheEnt.mark) = some (p.ival, p.seg))
      let s := setReq s r (some { q with ctxOut := zeros 256, status := .ok, result := 0 })
      match q.slot, mine with
      | some i, true =>
        submitUpd (modReq (cacheMod s i q.gen fun e => { e with mark := none }) r fun q =>
          { q with phase := .vault, resume := .mark }) [.setMark i none] (some r)
      | _, _ => afterWrites s r

def execNop (r : Nat) (s : State) : Out State := fin (nopOp r s)
def execNopSignal (r : Nat) (s : State) : Out State := fin (nopSignalOp r s)
def execEncrypt (r : Nat) (s : State) : Out State := fin (symStep .encrypt r s)
def execDecrypt (r : Nat) (s : State) : Out State := fin (symStep .decrypt r s)
def execAeadEncrypt (r : Nat) (s : State) : Out State := fin (symStep .aeadEnc r s)
def execAeadDecrypt (r : Nat) (s : State) : Out State := fin (symStep .aeadDec r s)
def execGmacGenerate (r : Nat) (s : State) : Out State := fin (symStep .gmacGen r s)
def execGmacVerify (r : Nat) (s : State) : Out State := fin (symStep .gmacVer r s)
def execHash (r : Nat) (s : State) : Out State := fin (symStep .hash r s)
def execMacGenerate (r : Nat) (s : State) : Out State := fin (symStep .macGen r s)
def execMacVerify (r : Nat) (s : State) : Out State := fin (symStep .macVer r s)
def execDecryptVerify (r : Nat) (s : State) : Out State := fin (symStep .decVer r s)
def execReencryptVerify (r : Nat) (s : State) : Out State := fin (symStep .reencVer r s)
def execDigestVerify (r : Nat) (s : State) : Out State := fin (symStep .digVer r s)
def execContextInfo (r : Nat) (s : State) : Out State := fin (contextInfoOp r s)
def execContextClose (r : Nat) (s : State) : Out State := fin (contextCloseOp r s)

end Sys2Proof.Machine
end

