-- ==== Sys2Proof/Machine/Create.lean ====
section
/-!
DEFINITION. What public-key and key-management requests share: the CTR_DRBG (R190), the private wires (R189), key check
values (R166), packages (R169), quotas (R130, R239 to R241), and the creation of slots (R130, R159).
-/
namespace Sys2Proof.Machine

open Sys2Proof

/-! ### Randomness -/

/-- Class of a request on the private wires (R189). -/
def wireClass : Wire → Nat
  | .gen _ => 1 | .pka _ => 2 | .key _ _ | .inc | .ctx _ => 3 | .drbg => 4

/-- A request joins the private wires; one that waits there already is not repeated (R189). -/
def askWire (s : State) (w : Wire) : State :=
  if s.rng.wires.contains w then s else { s with rng := { s.rng with wires := s.rng.wires ++ [w] } }

/-- Take bytes from the reserve. -/
def takeReserve (s : State) (n : Nat) : Bytes × State :=
  (s.rng.reserve.take n, { s with rng := { s.rng with reserve := s.rng.reserve.drop n } })

/-- A draw of a class that the reserve can serve at once: nothing of its class or of one before it waits, and the reserve holds it
whole (R189). -/
def takeNow (s : State) (n cls : Nat) : Option (Bytes × State) :=
  if s.rng.state = .running ∧ n ≤ s.rng.reserve.length ∧ (s.rng.wires.all fun w => decide (cls < wireClass w)) = true then
    some (takeReserve s n)
  else none

/-- The CTR_DRBG takes a seed, with additional input (R190). -/
def drbgReseed (s : State) (seed addl : Bytes) : State :=
  { s with rng := { s.rng with
    drbg := primBytes .drbgSeed [s.rng.drbg, xorB seed (fit 48 addl)] 48, calls := 0, reseeds := u64 (s.rng.reseeds + 1) } }

/-- The CTR_DRBG ready for its next generate call, and the additional input left for it: a reseed comes before the 65,537th call since the
last, and takes that input (R190, SP 800-90A). None while it has to wait for the private wires. -/
def drbgNext (s : State) (addl : Bytes) : Option (State × Bytes) :=
  if s.rng.calls < 65536 then some (s, addl)
  else (takeNow s 48 4).map fun d => (drbgReseed d.2 d.1 addl, [])

/-- The same for a call without additional input. -/
def drbgReady (s : State) : Option State := (drbgNext s []).map Prod.fst

/-- One generate call (R190): its output and the state after it. -/
def drbgCall (s : State) (addl : Bytes) (n : Nat) : Bytes × State :=
  (primBytes .drbgOut [s.rng.drbg, addl, le 4 n] n,
   { s with rng := { s.rng with drbg := primBytes .drbgNext [s.rng.drbg, addl, le 4 n] 48, calls := s.rng.calls + 1 } })

/-- Additional input of a RANDOM request (R196). -/
def randomAddl (q : Req) : Bytes := if q.op ≠ .random ∨ q.srcB = [] then [] else fit 48 q.srcB

/-- A request asks the private wires for bits and waits for them. -/
def awaitWires (s : State) (r bits : Nat) : State :=
  askWire (modReq s r fun q => { q with phase := .wires }) (.key r bits)

/-- A request waits for the reseed that the CTR_DRBG needs first. -/
def awaitDrbg (s : State) (r : Nat) : State := askWire (modReq s r fun q => { q with phase := .wires, resume := .drbg }) .drbg

/-! ### Stored forms and key check values -/

/-- Length of the stored form of a private key (R132, R169). -/
def storedLen (alg modW : Nat) : Nat :=
  match alg with
  | 0x01 => 8 * modW + 4 + 5 * (4 * modW)
  | 0x10 => 32 | 0x11 => 48 | 0x12 => 66
  | 0x20 => 32 | 0x21 => 57 | 0x22 => 32 | 0x23 => 56
  | 0x30 | 0x31 | 0x32 => 64
  | 0x38 | 0x39 | 0x3A => 32
  | 0x40 | 0x41 => 64 | 0x42 | 0x43 => 96 | 0x44 | 0x45 => 128
  | _ => 0

/-- Length of the material that a policy implies (R165, R169). -/
def impliedLen (p : Nat) : Nat := if polKind p = 0 then polLen p else storedLen (polKind p) (polLen p)

def needsLarge (len : Nat) : Bool := decide (64 < len)

/-- Key check value of symmetric material (R166). -/
def kcvOf (k : Bytes) : Bytes :=
  let n := k.length
  let c (key : Bytes) : Bytes := (cmac key (zeros 16)).take 8
  if n = 16 ∨ n = 24 then c k
  else if n ≤ 32 then c (fit 32 k)
  else if n ≤ 64 then let k := fit 64 k; xorB (c (slice k 0 32)) (c (slice k 32 32))
  else let k := fit 96 k; xorB (xorB (c (slice k 0 32)) (c (slice k 32 32))) (c (slice k 64 32))

/-- Public key of a stored form (R132, R133): for RSA its first two parts, for SLH-DSA its last two. -/
def publicOf (alg modW : Nat) (mat : Bytes) : Bytes :=
  if alg = 1 then mat.take (8 * modW + 4)
  else if 0x40 ≤ alg then mat.drop (mat.length / 2)
  else primBytes (.publicKey alg modW) [mat] (algSizes alg modW).1

/-- A new private key in its stored form (R131, R169): e of an RSA key is 65,537. -/
def generate (alg modW : Nat) (random : Bytes) : Bytes :=
  let b := primBytes (.keyGen alg modW) [random] (storedLen alg modW)
  if alg = 1 then b.take (8 * modW) ++ be 4 65537 ++ b.drop (8 * modW + 4) else b

/-- The pairwise consistency test (R131) of a key with a policy: an RSA key with decrypt usage encrypts and decrypts. -/
def pairwiseOk (policy : Nat) (mat : Bytes) : Bool :=
  Config.test (.pairwise (polKind policy) (decide (polKind policy = 1) && polHas policy pDecrypt)) [mat]

/-- Results that R136 checks on a unit: scalar multiplications on NIST and Edwards curves. -/
def curveChecked (alg : Nat) : Bool := decide (0x10 ≤ alg ∧ alg ≤ 0x12) || decide (alg = 0x20 ∨ alg = 0x21)

/-- The results that the pairwise test computes with the private key stand (R136): RSA CRT operations, and the curves' multiplications. -/
def pairStands (policy : Nat) (mat : Bytes) : Bool :=
  !(decide (polKind policy = 1) || curveChecked (polKind policy)) || Config.test (.resultCheck (polKind policy)) [mat]

/-! ### Public inputs (R127) -/

/-- A power modulo `p`, by squaring; `fuel` bounds the bits of the exponent. -/
def modPow (p : Nat) : Nat → Nat → Nat → Nat
  | _, _, 0 => 1 % p
  | b, e, fuel + 1 => let h := modPow p (b * b % p) (e / 2) fuel; if e % 2 = 1 then b * h % p else h

/-- The quotient modulo a prime of at most 1,024 bits. -/
def modDiv (p a b : Nat) : Nat := a % p * modPow p (b % p) (p - 2) 1024 % p

/-- The difference modulo `p`, of a product and a number below `p`. -/
def modSub (p a b : Nat) : Nat := (a + (p - b % p)) % p

/-- Prime and coefficient b of a NIST curve (FIPS 186-5). -/
def nistCurve (alg : Nat) : Nat × Nat :=
  if alg = 0x10 then
    (2 ^ 256 - 2 ^ 224 + 2 ^ 192 + 2 ^ 96 - 1, 0x5AC635D8AA3A93E7B3EBBD55769886BC651D06B0CC53B0F63BCE3C3E27D2604B)
  else if alg = 0x11 then
    (2 ^ 384 - 2 ^ 128 - 2 ^ 96 + 2 ^ 32 - 1,
      0xB3312FA7E23EE7E4988E056BE3F82D19181D9C6EFE8141120314088F5013875AC656398D8A2ED19D2A85C8EDD3EC2AEF)
  else
    (2 ^ 521 - 1,
      0x51953EB9618E1C9A1F929A21A0B68540EEA2DA725B99B315F3B8B489918EF109E156193951EC7E937B1652C0BD3BB1BF073573DF883D2C34F1EF451FD46B503F00)

/-- An uncompressed point on a NIST curve. -/
def nistPointOk (alg : Nat) (b : Bytes) : Bool :=
  let c := nistCurve alg
  let p := c.1
  let n := (b.length - 1) / 2
  let x := ofBe (slice b 1 n)
  let y := ofBe (b.drop (1 + n))
  decide (b.take 1 = [0x04] ∧ x < p ∧ y < p ∧ y * y % p = modSub p (x * x * x + c.2) (3 * x))

/-- Prime, coefficients a and d, and log2 of the cofactor of an Edwards curve (RFC 8032). -/
def edCurve (alg : Nat) : Nat × Nat × Nat × Nat :=
  if alg = 0x20 then
    (2 ^ 255 - 19, 2 ^ 255 - 20, 37095705934669439343138083508754565189542113879843219016388785533085940283555, 3)
  else (2 ^ 448 - 2 ^ 224 - 1, 1, 2 ^ 448 - 2 ^ 224 - 1 - 39081, 2)

/-- The square of x for a given y on an Edwards curve. -/
def edX2 (p a d y : Nat) : Nat := modDiv p (modSub p 1 (y * y)) (modSub p a (d * (y * y)))

/-- y of a point doubled a number of times. -/
def edDouble (p a d : Nat) : Nat → Nat → Nat
  | 0, y => y
  | n + 1, y =>
    let x2 := edX2 p a d y
    edDouble p a d n (modDiv p (modSub p (y * y) (a * x2)) (modSub p 1 (d * (x2 * (y * y) % p))))

/-- A public key of Ed25519 or Ed448: canonical, on the curve, not of small order. -/
def edPointOk (alg : Nat) (b : Bytes) : Bool :=
  let c := edCurve alg
  let p := c.1
  let a := c.2.1
  let d := c.2.2.1
  let top := 8 * b.length - 1
  let sign := ofLe b / 2 ^ top
  let y := ofLe b % 2 ^ top
  let x2 := edX2 p a d y
  decide (y < p ∧ (x2 = 0 ∨ modPow p x2 ((p - 1) / 2) 1024 = 1) ∧ ¬(x2 = 0 ∧ sign = 1) ∧ edDouble p a d c.2.2.2 y ≠ 1)

/-- Coefficients of 12 bits packed two in three bytes, all below q of ML-KEM. -/
def kemCoefsOk : Bytes → Bool
  | x :: y :: z :: t =>
    decide (x.toNat + 256 * (y.toNat % 16) < 3329 ∧ y.toNat / 16 + 16 * z.toNat < 3329) && kemCoefsOk t
  | _ => true

/-- Public inputs (R127): of the length of R123, and ML-DSA, SLH-DSA and the X curves by that alone. RSA keys have 2,048 to 8,192 bits. -/
def publicOk (alg modW : Nat) (b : Bytes) : Bool :=
  let n := (algSizes alg modW).1
  decide (0 < n ∧ b.length = n) &&
  if alg = 1 then
    let n := ofBe (b.take (8 * modW))
    let e := ofBe (b.drop (8 * modW))
    decide (32 ≤ modW ∧ modW ≤ 128) && n.testBit (64 * modW - 1) && n.testBit 0 && e.testBit 0 && decide (3 ≤ e ∧ e < 2 ^ 32)
  else if 0x10 ≤ alg ∧ alg ≤ 0x12 then nistPointOk alg b
  else if alg = 0x20 ∨ alg = 0x21 then edPointOk alg b
  else if 0x30 ≤ alg ∧ alg ≤ 0x32 then kemCoefsOk (b.take (b.length - 32))
  else true

/-- Shared secret of an agreement (R123). -/
def agreed (alg : Nat) (mat peer : Bytes) : Bytes := primBytes (.agree alg) [mat, peer] (algSizes alg 0).2.2

/-- An all-zero result of X25519 and X448 is rejected (R127). -/
def zeroSecret (alg : Nat) (b : Bytes) : Bool := decide (alg = 0x22 ∨ alg = 0x23) && allZero b

/-! ### Packages (R169, R171) -/

/-- LIMIT_LOG2 of an exported key (R171). -/
def limitLog (p lim : Nat) : Nat := if lim = defaultLimit p then 0 else Nat.log2 lim

/-- The package of a slot's material. -/
def packageOf (rec_ : SlotRec) (mat : Bytes) : Bytes :=
  le 2 1 ++ le 2 mat.length ++ le 8 rec_.policy ++ fit 16 rec_.tag ++ le 1 (limitLog rec_.policy rec_.blkLim) ++ zeros 3 ++ mat

/-- Layout, policy and usages of a package are legal (R165, R169, R170). -/
def packageOk (b : Bytes) : Bool :=
  let pol := fld b 4 8
  let lim := fld b 28 1
  decide (32 ≤ b.length ∧ fld b 0 2 = 1 ∧ fld b 2 2 = impliedLen pol ∧ b.length = 32 + fld b 2 2 ∧ fld b 29 3 = 0 ∧
    (lim = 0 ∨ (0x14 ≤ lim ∧ lim ≤ 0x3F))) &&
  policyOk pol false

/-! ### Quotas (R130, R159, R241) -/

/-- Requests of a function that hold a reservation. -/
def reserved (s : State) (f : Nat) (p : Req → Bool) : Nat :=
  (s.reqs.filter fun e => match e.2 with | some q => decide (q.fn = f) && p q | none => false).length

/-- Records held and reserved (R237); those lost in damaged lines stay counted (R241). -/
def slotsUsed (s : State) (f : Nat) : Nat := (getFn s f).slotsUsed + reserved s f Req.resSlot
def largeUsed (s : State) (f : Nat) : Nat := (getFn s f).largeUsed + reserved s f Req.resLarge
def shadUsed (s : State) (f : Nat) : Nat := (getFn s f).shadUsed + reserved s f Req.resShad

/-- What a request reserves is within the quotas that its function had at check 1 (R275), and the pools hold it. -/
def quotaOk (s : State) (q : Req) (slot large shad : Bool) : Bool :=
  (!slot || (decide (slotsUsed s q.fn < q.quotas.1) && (pickSlot s).isSome)) &&
  (!large || (decide (largeUsed s q.fn < q.quotas.2.1) && decide (freeLarge s < 65536))) &&
  (!shad || (decide (shadUsed s q.fn < q.quotas.2.2) && decide (freeShadow s < 65536)))

/-- Test 5 of R126 and R165: a request reserves what it creates, and keeps it (R130); none where the quotas or pools fall short. -/
def reserve (s : State) (r : Nat) (q : Req) (slot large shad : Bool) : Option State :=
  if q.resSlot || q.resShad then some s
  else if quotaOk s q slot large shad then
    some (modReq s r fun q => { q with resSlot := slot, resLarge := large, resShad := shad })
  else none

/-! ### Creation -/

/-- The record of a new key (R83, R85, R149). The fixed field is drawn where the key takes device IVs (R80). -/
def newRecord (s : State) (f policy : Nat) (tag mat : Bytes) (limLog : Nat) : SlotRec × State :=
  let d := if polHas policy pDeviceIv then drbgCall s [] 4 else ([], s)
  ({ state := .active, owner := f, policy := policy, tag := fit 16 tag, mat := mat, fixed := ofBe d.1
     large := if needsLarge mat.length then some (freeLarge s) else none, blkLim := limitOf policy limLog }, d.2)

/-- One update puts the record; the destination is written after its effect point. `tail` follows the handle and its four zero
bytes. -/
def putSlot (s : State) (r : Nat) (q : Req) (policy : Nat) (tag mat : Bytes) (limLog : Nat) (tail : Bytes) : State :=
  match pickSlot s with
  | none => failStep s r .quota 0
  | some p =>
    let n := newRecord p.2 q.fn policy tag mat limLog
    let i := p.1
    submitUpd (setReq n.2 r (some { q with
        newSlot := some i, out := tail, result := 8 + tail.length, phase := .vault, resume := .create, outst := 0 }))
      [.put i { n.1 with epoch := (getSlot n.2 i).epoch }] (some r)

/-- Create the slot (R130). A DEVICE_IV_ONLY key needs the CTR_DRBG for its fixed field (R80): the RNG must run (R193, R195), its pipeline
must not have stopped (R105, R189), and a reseed that is due comes first. -/
def createSlot (s : State) (r policy : Nat) (tag mat : Bytes) (limLog : Nat) (tail : Bytes) : State :=
  match getReq s r with
  | none => s
  | some q =>
    if !polHas policy pDeviceIv then putSlot s r q policy tag mat limLog tail
    else match drbgStop s, drbgReady s with
      | some e, _ => failStep s r e 0
      | none, none => awaitDrbg s r
      | none, some t => putSlot t r q policy tag mat limLog tail

/-- Go straight on where a request had nothing to read. -/
def thenLoaded (s : State) (r : Nat) (f : State → Req → State) : State :=
  match getReq s r with
  | none => s
  | some q => if q.phase = .loaded then f s q else s

/-- A request fails with the uncorrectable source of its PKA unit (R131, R136). -/
def unitFails (s : State) (r : Nat) (q : Req) : State :=
  failWith s ((pkaOf q).toList.map fun u => unitSource u 1) fun s => failStep s r .faultDetected 0

/-- The result check fails (R136). -/
def resultFails (s : State) (r : Nat) (q : Req) : State :=
  unitFails { s with cnt := { s.cnt with resFail := s.cnt.resFail + 1 } } r q

/-- The pairwise consistency test of a generated key fails (R131). -/
def pairFails (s : State) (r : Nat) (q : Req) : State :=
  unitFails { s with cnt := { s.cnt with pctFail := s.cnt.pctFail + 1 } } r q

/-- The pairwise test of a key pair on the request's PKA unit (R131): results that do not stand end the request (R136), a pair that does not
fit goes one way, and one that does the other. -/
def pairTest (s : State) (r : Nat) (q : Req) (policy : Nat) (mat : Bytes) (misfit good : State) : State :=
  if !pairStands policy mat then resultFails s r q else if pairwiseOk policy mat then good else misfit

/-- A PKA operation has completed (R299). -/
def countPka (s : State) : State := { s with cnt := { s.cnt with pkaOps := u64 (s.cnt.pkaOps + 1) } }

end Sys2Proof.Machine
end

