-- ==== Sys2Proof/Machine/Rings.lean ====
section
/-!
DEFINITION. Rows of the request rings and of the data ports: doorbells and fetches (R36 to R38, R379), waits that end (R63, R68,
R115, R161), the calendar (R246 to R248), clock gates and the power limiter (R406, R407), answers and timeouts (R184, R214, R373).
-/
namespace Sys2Proof.Machine

open Sys2Proof

/-! ### Doorbells and fetches -/

/-- The target channel acts on an access of the function: not in a reset, not in the safe state (R333), not for a function that
is ABSENT (R379), RESETTING or DESTROYING (R243, R251), and not from step 3 of a life-cycle transition on (R345). -/
def targetOpen (s : State) (f : Nat) : Bool :=
  coreUp s && !s.safe && !s.life.draining && decide (f ≤ 1024) &&
  (match (getFn s f).state with | .absent | .resetting | .destroying => false | _ => true)

/-- Ring and channel of a function with a local index. -/
def ringAt (s : State) (f j : Nat) : Option Nat :=
  (s.rings.find? fun e => decide (e.2.owner = some f ∧ e.2.local_ = j)).map Prod.fst
def chanAt (s : State) (f j : Nat) : Option Nat :=
  (s.chans.find? fun e => decide (e.2.owner = some f ∧ e.2.local_ = j)).map Prod.fst

/-- A doorbell of a ring takes a count (R37); one to a DISABLED ring is ignored (R303). -/
def ringCount (s : State) (n : Nat) (v : U32) : State :=
  let r := getRing s n
  let d := (v - r.prev).toNat
  if r.state = .disabled ∨ d = 0 then s
  else if d ≤ ringSize s n then setRing s n { r with prev := v, eligible := r.eligible + d }
  else setRing s n { r with errors := r.errors ||| 1 }

/-- RING_DOORBELL (R36, R37, R379). -/
def ringDoorbell (f : Nat) (off : BitVec 13) (v : U32) (s : State) : State :=
  let o := off.toNat
  if !targetOpen s f || decide (0x800 ≤ o ∨ o % 8 ≠ 0) then s
  else match ringAt s f (o / 8) with
    | none => s
    | some n => ringCount s n v

/-- A group takes new work: a sequencer of it is ready, and neither that sequencer nor the group nor its region drains (R324). -/
def takesWork (s : State) (g : Nat) : Bool :=
  !(getUnit s (unitAt .grp g)).draining && !(getUnit s (unitAt .reg (g / 2))).draining &&
  (cellsOf .seq g).any fun u => unitReady s u && !(getUnit s u).draining

/-- A sequencer of the home group takes the ring (R15, R253): the ring and its function are RUNNING. -/
def mayFetch (s : State) (n : Nat) : Bool :=
  let r := getRing s n
  coreUp s && !s.safe && !s.life.draining && decide (r.state = .running ∧ 0 < r.eligible) && !r.fetching &&
  (match r.owner with | some f => decide ((getFn s f).state = .running) | none => false) &&
  (match r.home with | some g => takesWork s g | none => false)

/-- How many descriptors one read takes: 16 at most, not past the end of the ring (R38), within one burst (R19). -/
def fetchCount (s : State) (n : Nat) : Nat :=
  let r := getRing s n
  let size := descSize r.version
  let pos := r.fetchCnt.toNat % ringSize s n
  let addr := ringCfg s n 3 + pos * size
  min (min 16 r.eligible) (min (ringSize s n - pos) ((4096 - addr % 4096) / size))

/-- The group's sequencers and mover have work again (R406). -/
def wakeGroup (s : State) (g : Nat) : State :=
  (cellsOf .seq g ++ cellsOf .mov g).foldl (fun s u => modUnit s u fun r => { r with gated := false }) s

/-- DESCRIPTOR_FETCH (R38). -/
def descriptorFetch (n : Nat) (s : State) : State :=
  if !mayFetch s n then s
  else
    let r := getRing s n
    let k := fetchCount s n
    let first := r.fetchCnt.toNat
    let s := wakeGroup (setRing s n { r with fetching := true, fetchGrp := r.home.getD 0 }) (r.home.getD 0)
    let w := ringWho s n
    submit s { region := w.region, wr := false, addr := ringCfg s n 3 + first % ringSize s n * descSize r.version
               len := k * descSize r.version, fn := w.fn, pasid := w.pasid, own := .desc n first k }

/-! ### Waits that end -/

/-- COAL_TIME (R67, R68). -/
def coalTime (n : Nat) (s : State) : State :=
  if coreUp s && decide (0 < (getRing s n).coal) then signalRing s n else s

/-- CHAIN_WAIT_END: the oldest waiting chain of a group reserves its space and starts (R63). -/
def chainWaitEnd (g : Nat) (s : State) : State :=
  match bufWaiters s g with
  | [] => s
  | cid :: _ =>
    match getChain s cid with
    | none => s
    | some c =>
      let n := chainPages s c true
      if n ≤ 256 - tget 0 s.chainUse g then pumpAll (startChain (takePages s cid c n) cid) else s

/-- ECHO_STAGING_WAIT_END: the oldest echoed request that waits takes its staging (R115). -/
def echoStagingWaitEnd (g : Nat) (s : State) : State :=
  match waitersIn s g .waitEcho with
  | [] => s
  | r :: _ =>
    match getReq s r with
    | none => s
    | some q =>
      let need := stagingNeed q
      if tget 0 s.echoUse g + need ≤ 262144 then
        enqueue (modReq { s with echoUse := tput 0 s.echoUse g (tget 0 s.echoUse g + need) } r fun q => { q with staged := need }) r
      else s

/-- The slot that a request at its resolution waits for. -/
def waitedSlot (s : State) (q : Req) : Option Nat :=
  if q.phase ≠ .resolve then none
  else match nextNeed q with
    | .nothing => none
    | .tag => q.target
    | .handle h _ => if h = 2 ^ 24 then ((getChain s q.chain).bind Chain.created).map (· % 2 ^ 24) else some (h % 2 ^ 24)

/-- CACHE_WAY_RELEASE: the oldest resolution that waits for a way of the set goes on (R161). -/
def cacheWayRelease (bank set : Nat) (s : State) : State :=
  let waits (q : Req) : Bool :=
    match waitedSlot s q with
    | some i => decide (bankOf s i = some bank ∧ setOf i = set) && hasWay s bank i
    | none => false
  match (reqsWith s waits).find? fun r => !(s.vault.fetches.any fun f => decide (f.req = r)) with
  | none => s
  | some r => pumpAll (resolve s r)

/-- INTERRUPT_STALL (R383). -/
def interruptStall (s : State) : State := if s.irq.isEmpty then s else raiseSrc s 518

/-! ### The calendar -/

/-- CALENDAR_EPOCH (R246 to R248): what was charged beyond the ceiling of the epoch that ends stays as debt; capacities, shares and ceilings
are taken anew. -/
def calendarEpoch (s : State) : State :=
  if !coreUp s then s
  else
    let acct := s.cal.acct.foldl (fun (t : Tbl Account) e =>
      let k := e.1 / 2048
      let f := e.1 % 2048
      tput {} t e.1 { charge := 0, debt := e.2.charge + e.2.debt - bookQos s f (shareSub k + 1) * capacity s k / 4096 }) []
    { s with cal := { s.cal with
        started := true, acct := acct, book := bookNow s, cap := (List.range 32).foldl (fun t k => tput 0 t k (capNow s k)) [] } }

/-- The unit works for a request that holds it for itself: a PKA unit runs one operation at a time (R120). -/
def pkaHeld (s : State) (u : Nat) : Bool := s.reqs.any fun e => match e.2 with | some q => usesUnit u q | none => false

/-- Requests that work on a unit. -/
def worksOn (s : State) (u : Nat) : Nat := (reqsWith s (usesUnit u)).length

/-- A unit has room for one more request: a PKA unit runs one operation at a time, a hash lane interleaves 8 streams (the cells of
01_architecture). -/
def hasRoom (s : State) (k : Kind) (u : Nat) : Bool :=
  match k with
  | .pka => !pkaHeld s u
  | .hash => decide (worksOn s u < 8)
  | _ => true

/-- Units of a group that can take one more request. -/
def openUnits (s : State) (k : Kind) (g : Nat) : List Nat :=
  (cellsOf k g).filter fun u => unitReady s u && !(getUnit s u).draining && hasRoom s k u

/-- A request of the group that waits for a unit of the kind and can be granted one. -/
def grantable (s : State) (k : Kind) (g : Nat) (q : Req) : Bool :=
  decide (q.phase = .waitGrant ∧ unitFor s q = some k ∧ groupOfReq s q = g) &&
  ((q.unit.isSome && !wantsSecond s q) || decide ((if q.echo then 2 else 1) ≤ (openUnits s k g).length))

/-- What one grant to a request is charged (R247, R248): lane-cycles of 32 bytes (16 for ChaCha20), twice under echo; stream-cycles
of 2 bytes; a PKA unit is charged when it is given back. A lane beside the request's cell is charged for what is wrapped there: a context,
or the source. -/
def grantCharge (s : State) (k : Kind) (q : Req) : Nat :=
  match k with
  | .lane =>
    let b :=
      if wantsSecond s q then (if unitKind q.op q.d = some .hash then 256 else min 8192 q.d.srcLen)
      else min 8192 (q.d.srcLen - 8192 * (grantsOf s q - q.grants - ofBool (secondKind s q).isSome))
    max 1 (ceilDiv b (if q.op.isSym && decide (modeOf q.d.opcode = 9) then 16 else 32)) * (if q.echo then 2 else 1)
  | .hash => max 1 (ceilDiv (min 4096 (q.d.srcLen - 4096 * (grantsOf s q - q.grants - ofBool q.unit2.isSome))) 2)
  | _ => 0

/-- A request receives a grant: it takes its cell with the first one, the one beside it with the second where it needs one (R118), and may
run after the last one. -/
def grantReq (s : State) (k : Kind) (g cont r : Nat) : State :=
  match getReq s r with
  | none => s
  | some q =>
    let us := openUnits s k g
    let unit := if q.unit.isSome then q.unit else us.head?
    let unit2 := if wantsSecond s q then us.head? else if q.unit.isSome then q.unit2 else if q.echo then us[1]? else none
    let s := charge s cont q.fn (grantCharge s k q)
    let s := (unit.toList ++ unit2.toList).foldl (fun s u => modUnit s u fun r => { r with gated := false }) s
    setReq s r (some { q with
      unit := unit, unit2 := unit2, began := if (pkaOf q).isSome then q.began else s.pins.cycles
      grants := q.grants - 1
      phase := if 1 < q.grants then .waitGrant else if q.resume = .unit2 then .loaded else .ready })

/-- The next of some functions in round-robin order after the one served last. -/
def rrNext (from_ : Nat) (fs : List Nat) : Option Nat :=
  match leastBy id (fs.filter fun f => decide (from_ ≤ f)) with
  | some f => some f
  | none => leastBy id fs

/-- The function that the container serves next, of those with pending work (R247): below its guaranteed credit first, then below
its ceiling credit; band by band; round-robin within a band. -/
def pickFn (s : State) (k : Nat) (fs : List Nat) : Option Nat :=
  let inBand (b : Nat) (f : Nat) : Bool := decide (qosCfg s f 9 = b)
  let first := fs.filter fun f => decide ((getAcct s (acctKey k f)).charge < creditG s k f)
  let second := fs.filter fun f => decide ((getAcct s (acctKey k f)).charge < creditH s k f)
  let pass (l : List Nat) : Option Nat :=
    (List.range 4).findSome? fun b => rrNext (tget 0 s.cal.last (4 * k + b)) (l.filter (inBand b))
  if capacity s k ≤ contCharge s k then none
  else match pass first with
    | some f => some f
    | none => pass second

/-- The function has been served. -/
def served (s : State) (k f : Nat) : State :=
  { s with cal := { s.cal with last := tput 0 s.cal.last (4 * k + qosCfg s f 9) (f + 1) } }

/-- A grant of unit time in a group. -/
def grantUnits (s : State) (k : Kind) (g cont : Nat) : State :=
  if decide (k = .hash) && s.cal.withheld.contains g then s
  else
    let rs := reqsWith s (grantable s k g)
    let fn (r : Nat) : Nat := ((getReq s r).map Req.fn).getD 0
    match pickFn s cont (rs.map fn).eraseDups with
    | none => s
    | some f =>
      match rs.find? fun r => decide (fn r = f) with
      | none => s
      | some r => served (grantReq s k g cont r) cont f

/-- A waiting burst of the container that has a port and a tag. -/
def issuable (s : State) (k : Nat) (b : Burst) : Bool :=
  decide (burstCont b = k) && mayIssue s b &&
  (match burstPort s b with | some p => (freeTag s p).isSome | none => false)

/-- A grant of port bandwidth: one burst (R248). -/
def grantCredit (s : State) (k : Nat) : State :=
  let fs := ((s.bursts.filter (issuable s k)).map Burst.acct).eraseDups
  match pickFn s k fs with
  | none => s
  | some f =>
    match s.bursts.findIdx? (fun b => issuable s k b && decide (b.acct = f)) with
    | none => s
    | some i =>
      match s.bursts[i]? with
      | none => s
      | some b =>
        match tryIssue { s with bursts := s.bursts.eraseIdx i } b with
        | none => s
        | some s' => served s' k f

/-- The first waiting burst of a container that meets a test and can leave does, whatever the calendar holds. -/
def sendFirst (s : State) (k : Nat) (p : Burst → Bool) : Option State :=
  match s.bursts.findIdx? (fun b => issuable s k b && p b) with
  | none => none
  | some i =>
    match s.bursts[i]? with
    | none => none
    | some b => tryIssue { s with bursts := s.bursts.eraseIdx i } b

/-- A port's own probe does not wait for credit (R325); every other burst does. -/
def grantBurst (s : State) (k : Nat) : State :=
  match sendFirst s k Burst.isProbe with
  | some s' => s'
  | none => grantCredit s k

/-- While the calendars stand still, only the vault update in progress leaves (R302). -/
def grantUpdate (s : State) (k : Nat) : State := (sendFirst s k Burst.isUpd).getD s

/-- CALENDAR_GRANT. -/
def calendarGrant (c : Container) (s : State) : State :=
  if s.safe || !contOk c then s
  else if !coreUp s then grantUpdate s (contNo c)
  else match c with
    | .cipher g => grantUnits s .lane g (contNo c)
    | .hash g => grantUnits s .hash g (contNo c)
    | .pka g => grantUnits s .pka g (contNo c)
    | .portRead _ | .portWrite _ => grantBurst s (contNo c)

/-! ### Power (R406, R407) -/

/-- A cell has work. A port works on its transactions, a noise source feeds the conditioner or starts up. -/
def cellBusy (s : State) (u : Nat) : Bool :=
  let inGroup (g : Nat) : Bool := s.chains.any fun e => match e.2 with | some c => decide (c.group = g) | none => false
  match kindOf u with
  | .lane | .hash | .pka => !(reqsWith s (usesUnit u)).isEmpty
  | .seq => s.chains.any fun e => match e.2 with | some c => decide (c.seq = u) | none => false
  | .kc => s.cache.any fun e => decide (e.bank = unitNo u ∧ 0 < e.refs)
  | .mov => inGroup ((groupOf u).getD 0) || s.chans.any fun e => e.2.run.isSome && decide (runMover s e.1 = unitNo u)
  | .port => (s.txns.any fun t => decide (t.port = unitNo u)) || s.bursts.any fun b => decide (burstPort s b = some (unitNo u))
  | .ns => active s u && decide (s.rng.state ≠ .halted)
  | .grp | .reg => true

/-- CLOCK_GATE: an idle cell gates its clock. -/
def clockGate (u : Nat) (s : State) : State :=
  if coreUp s && !cellBusy s u then modUnit s u fun r => { r with gated := true } else s

/-- Units of a kind with a request granted to them. -/
def occupied (s : State) (k : Kind) : Nat := ((List.range k.count).filter fun n => decide (0 < worksOn s (k.base + n))).length

/-- A stream of a hash lane whose group's grants are withheld and that waits for its next one (R407). -/
def streamHeld (s : State) (q : Req) : Bool := decide (q.phase = .waitGrant) && s.cal.withheld.contains (groupOfReq s q)

/-- Streams in progress on the hash lanes, 8 at most on each (R403), without those that the limiter withholds. -/
def hashStreams (s : State) : Nat :=
  (List.range Kind.hash.count).foldl (fun n i =>
    n + min 8 (reqsWith s fun q => usesUnit (Kind.hash.base + i) q && !streamHeld s q).length) 0

/-- The limiter's estimate in microwatts, by the coefficients of R407, each scaled with its clock: the services' with CORE_CLK (DESIGN
CHOICE, log 166); energies of a request and of a byte follow their clocks by their counts; leakage scales with none. -/
def powerUw (s : State) : Nat :=
  let core (n : Nat) : Nat := n * s.bring.coreKhz / 1600000
  core (1100000 * occupied s .lane) + core (800000 * occupied s .pka) + core (330000 * hashStreams s / 8) +
  12500 * s.cal.usReqs + 85 * s.cal.usBytes / 100 + core 900000 + 2200000

/-- POWER_ESTIMATE: above 58 W one more group is withheld; at or below it none is. -/
def powerEstimate (s : State) : State :=
  if !coreUp s then s
  else
    let high := decide (58000000 < powerUw s)
    { s with cal := { s.cal with
        usReqs := 0, usBytes := 0
        withheld := if high then addNew s.cal.withheld s.cal.nextGrp else []
        nextGrp := if high then (s.cal.nextGrp + 1) % 8 else s.cal.nextGrp } }

/-! ### Answers and timeouts -/

/-- An answer that belongs to no transaction while the core domains are in reset is discarded (R302). -/
def whenKnown (s : State) (port tag : Nat) (t : State) : State := if !coreUp s && (findTxn s port tag).isNone then s else t

def readAnswer (port tag : Nat) (resp : BitVec 2) (last : Bool) (data : Bytes) (s : State) : State :=
  whenKnown s port tag (readBeat port tag resp last data s)
def writeAnswer (port tag : Nat) (resp : BitVec 2) (s : State) : State :=
  whenKnown s port tag (writeResponse port tag resp s)

/-! ### The rows -/

def execRingDoorbell (f : Nat) (off : BitVec 13) (v : U32) (s : State) : Out State := fin (ringDoorbell f off v s)
def execDescriptorFetch (n : Nat) (s : State) : Out State := fin (descriptorFetch n s)
def execCoalTime (n : Nat) (s : State) : Out State := fin (coalTime n s)
def execChainWaitEnd (g : Nat) (s : State) : Out State := fin (chainWaitEnd g s)
def execEchoStagingWaitEnd (g : Nat) (s : State) : Out State := fin (echoStagingWaitEnd g s)
def execCacheWayRelease (bank set : Nat) (s : State) : Out State := fin (cacheWayRelease bank set s)
def execInterruptStall (s : State) : Out State := fin (interruptStall s)
def execCalendarEpoch (s : State) : Out State := fin (calendarEpoch s)
def execCalendarGrant (c : Container) (s : State) : Out State := fin (calendarGrant c s)
def execClockGate (u : Nat) (s : State) : Out State := fin (clockGate u s)
def execPowerEstimate (s : State) : Out State := fin (powerEstimate s)
def execReadBeat (port tag : Nat) (resp : BitVec 2) (last : Bool) (data : Bytes) (s : State) : Out State :=
  if s.pins.poRstLow then .fault .answerInReset else fin (readAnswer port tag resp last data s)
def execWriteResponse (port tag : Nat) (resp : BitVec 2) (s : State) : Out State :=
  if s.pins.poRstLow then .fault .answerInReset else fin (writeAnswer port tag resp s)
def execPortTimeout (port tag : Nat) (s : State) : Out State := fin (portTimeout port tag s)
def execVaultTimeout (port tag : Nat) (s : State) : Out State := fin (vaultTimeout port tag s)

end Sys2Proof.Machine
end

