-- ==== Sys2Proof/Machine/Functions.lean ====
section
/-!
DEFINITION. Functions in service (R250 to R258, R243): enable indications, the reset timeline, freeze and thaw, destruction.
-/
namespace Sys2Proof.Machine

open Sys2Proof

/-! ### The work of a function -/

/-- Purposes of a function's completion entries and control-block writes. -/
def ownEntries (s : State) (f : Nat) : Own → Bool
  | .cq n _ _ _ _ _ _ _ => decide ((getRing s n).owner = some f)
  | .ccb c _ => decide ((getChan s c).owner = some f)
  | _ => false

/-- Transactions of a purpose are retired as timed out (R214, R222, R251), those that still wait for a port among them. What their end
issues is another transaction. -/
def retireTimedOut (s : State) (p : Own → Bool) : State :=
  let waiting := s.bursts.filter fun b => p b.own
  let s := { s with bursts := s.bursts.filter fun b => !p b.own }
  let s := (s.txns.filter fun t => p t.own && !t.quar).foldl (fun s t =>
    match findTxn s t.port t.tag with
    | some x => if p x.own then portTimeout t.port t.tag s else s
    | none => s) s
  waiting.foldl (fun s b => answered s b.own b.addr b.data (some .memTimeout)) s

/-- Requests of a function that have not ended. -/
def liveReqs (s : State) (f : Nat) : List Nat := reqsWith s fun q => decide (q.fn = f ∧ q.phase ≠ .ended)

/-- Channels of a function whose run has not come to its control-block write, and is not held. -/
def liveRuns (s : State) (f : Nat) : List Nat :=
  (chansOf s f).filter fun c => match (getChan s c).run with
    | some x => decide (x.stage ≠ .ccb ∧ (getChan s c).state ≠ .frozen)
    | none => false

/-- A function has requests, runs in progress, or completion writes outstanding. -/
def fnBusy (s : State) (f : Nat) : Bool :=
  !(reqsWith s fun q => decide (q.fn = f)).isEmpty || !(liveRuns s f).isEmpty || busyWith s (ownEntries s f) ||
  (chansOf s f).any fun c => match (getChan s c).run with | some x => decide (x.stage = .ccb) | none => false

/-- CHANNEL_DISABLE_BOUND's part: what a stopped channel still has outstanding is retired as timed out (R222), that of a stopped channel
of a frozen function among it. -/
def chanBound (s : State) (c : Nat) : State :=
  let stopped : Bool := match (getChan s c).run with | some x => x.stop | none => false
  match (getChan s c).state with
  | .stopping => retireTimedOut s (ownChan c)
  | .frozen => if stopped then retireTimedOut s (ownChan c) else s
  | _ => s

/-- Step 5 of R251: requests still running are abandoned. -/
def abandonWork (s : State) (f : Nat) : State :=
  let s := (ringsOf s f).foldl (fun s n => killRing (dropFetch s n) n .abortedReset) s
  (liveRuns s f).foldl chanBound s

/-- The bound of a drain has come: work still running is abandoned, or, when none is, completion writes still unanswered are
retired as timed out. -/
def drainBoundFn (s : State) (f : Nat) : State :=
  if (liveReqs s f).isEmpty && (liveRuns s f).isEmpty then retireTimedOut s (ownEntries s f) else abandonWork s f

/-! ### Reset (R251, R252, R258) -/

/-- Step 7 of R251. No start is pending then, one given since step 2 among them (R222). -/
def resetEnd (s : State) (f : Nat) : State :=
  let s := ((ringsOf s f).filter fun n => decide ((getRing s n).state = .running)).foldl ringRestart s
  let s := (chansOf s f).foldl (fun s c => modChan s c fun r => { r with prev := 0, pending := 0 }) s
  resetActEnd (modFn s f fun r => { r with state := runState s f }) f

/-! ### Destruction (R243) -/

/-- Slots that a function holds and that are still to be freed. -/
def slotsToFree (s : State) (f : Nat) : List Nat :=
  (s.vault.slots.filter fun e =>
    decide (e.2.owner = f ∧ e.2.state ≠ .free) && !s.vault.damaged.contains (leafSlot e.1) && !freeing s e.1).map Prod.fst

/-- Steps 3 to 5 of R243 are queued at the walker: every slot FREE, then the function ABSENT. -/
def queueDestroy (s : State) (f : Nat) (released : Bool) : State :=
  let s := (slotsToFree s f).foldl (fun s i => submitUpd (cacheDrop s i) [.free i] none) s
  submitUpd s [.absent f released] none

/-- The last update of a destruction is queued. -/
def absenting (s : State) (f : Nat) : Bool :=
  s.vault.updates.any fun u => u.ops.any fun o => match o with | .absent g _ => decide (g = f) | _ => false

/-- A renewal whose key is still to be drawn ends with its function (DESIGN CHOICE, log 167). One that the walker has goes on to its end. -/
def dropRenew (s : State) (f : Nat) : State :=
  let s := { s with rng := { s.rng with wires := s.rng.wires.filter fun w => decide (w ≠ .ctx f) } }
  match (getFn s f).act with
  | some a => if a.kind = .renew ∧ (queuedOps s).all (fun o => match o with | .ctxKey g _ => decide (g ≠ f) | _ => true) = true then actEnd s f 0x13 else s
  | none => s

/-- A destruction goes on once the function's work has ended. -/
def destroyAdvance (s : State) (f : Nat) : State :=
  if (getFn s f).state = .destroying && !fnBusy s f && !absenting s f && (getFn s f).act.isNone then queueDestroy s f false else s

/-- Steps 1 and 2 of R243. Destroying a FROZEN function voids any image saved from it. A reset in progress gives way (R253). -/
def destroyBegin (s : State) (f : Nat) : State :=
  let s := modFn (dropRenew (resetActEnd s f) f) f fun r => { r with state := .destroying, image := none, skew := false, restart := false }
  let s := (ringsOf s f).foldl (fun s n => endIncomplete (dropFetch s n) n .abortedReset) s
  let s := (ringsOf s f).foldl (fun s n => modRing s n fun r => { r with state := if r.state = .frozen then r.thaw else r.state }) s
  let s := (chansOf s f).foldl (fun s c =>
    let s := modChan s c fun r => { r with state := if r.state = .frozen then r.thaw else r.state }
    if chanEnabled (getChan s c) then stopChan s c false else s) s
  destroyAdvance (endMail (clearCoal (withdrawFn s f) f) f) f

/-- FUNCTION_LEVEL_RESET (R251, R381): ignored in a reset, and absorbed from step 3 of a life-cycle transition on (R345). In the safe state,
which has ended the function's work already (R329), the reset runs on what is left: its mailbox, doorbells and counters. -/
def functionLevelReset (f : Nat) (s : State) : State :=
  if coreUp s && !s.life.draining && decide (f ≤ 1024) then pumpAll (veReset s f) else s

/-! ### The host chip's enable (R253, R381) -/

/-- ENABLE_INDICATION. While a block reset is asserted it is recorded, and takes effect when bring-up ends (R381). -/
def enableIndication (f : Nat) (v : U32) (s : State) : State :=
  if s.pins.poRstLow || !decide (f ≤ 1024) then s
  else
    let s := modFn s f fun r => { r with hostEnable := v.getLsbD 0 }
    if coreUp s then applyEnable s f else s

/-! ### Freeze and thaw (R222, R257, R258) -/

/-- Slots of a function with a replacement pending. -/
def replacingSlots (s : State) (f : Nat) : List Nat :=
  (s.vault.slots.filter fun e => decide (e.2.owner = f ∧ e.2.state = .replacing) && !s.vault.damaged.contains (leafSlot e.1)).map Prod.fst

/-- The waiting part of a chain goes back to ring memory: eligible, and no longer counted as fetched (R59). -/
def unfetch (s : State) (n : Nat) : State :=
  let rs := (splitWaiting s (getRing s n).waiting).2
  let s := rs.foldl (fun s r => setReq s r none) s
  modRing s n fun r => { r with
    waiting := r.waiting.filter fun x => !rs.contains x, eligible := r.eligible + rs.length
    fetchCnt := r.fetchCnt - BitVec.ofNat 32 rs.length }

/-- Steps 1 and 2 of R257. Of a ring that already drains, the copies of a chain's waiting part are discarded like those of a ring that runs
(DESIGN CHOICE, log 157). -/
def freezeBegin (s : State) (f : Nat) : State :=
  let s := modFn s f fun r => { r with before := r.state, state := .freezing, skew := false }
  let s := (ringsOf s f).foldl (fun s n => unfetch (dropFetch s n) n) s
  let s := (chansOf s f).foldl (fun s c => modChan s c fun r =>
    if r.state = .idle then { r with state := .frozen, thaw := .idle } else r) s
  let s := submitUpd s [.freeze f true] none
  (replacingSlots s f).foldl (fun s i => submitUpd s [.cancel i] none) s

/-- Updates of the freeze that have not reached their effect points. -/
def freezeUpds (s : State) (f : Nat) : Bool :=
  s.vault.updates.any fun u => u.ops.any fun o => match o with
    | .freeze g _ => decide (g = f)
    | .cancel i | .toReplacing i _ => decide ((getSlot s i).owner = f)
    | _ => false

/-- Slots of a function that an erase is making FREE; one whose erase has ended with its update's failure stays as it is (R154, R177). -/
def erasingOf (s : State) (f : Nat) : Bool :=
  s.vault.slots.any fun e => decide (e.2.owner = f ∧ slotCode s e.1 = 3) && !s.vault.damaged.contains (leafSlot e.1) &&
    (!s.vault.noted.contains e.1 || !(erasers s e.1).isEmpty || freeing s e.1)

/-- A slot that has become REPLACING since step 2 of R257 loses its shadow, too. -/
def cancelLate (s : State) (f : Nat) : State :=
  ((replacingSlots s f).filter fun i => !(s.vault.updates.any fun u => u.ops.contains (.cancel i))).foldl
    (fun s i => submitUpd s [.cancel i] none) s

/-- Step 7 of R257. -/
def freezeEnd (s : State) (f : Nat) : State :=
  let s := (ringsOf s f).foldl (fun s n => if 0 < (getRing s n).coal then signalRing s n else s) s
  let s := (ringsOf s f).foldl (fun s n => modRing s n fun r =>
    if r.state = .disabled then r else { r with thaw := r.state, state := .frozen }) s
  let s := (chansOf s f).foldl (fun s c => modChan s c fun r =>
    if r.state = .disabled ∨ r.state = .frozen then r else { r with thaw := r.state, state := .frozen }) s
  let s := modFn s f fun r => { r with state := .frozen }
  if (getFn s f).resetHeld then resetFrozen s f else s

/-- The freeze mark of a function is cleared in one vault update. With no vault region it is cleared at once, and the function with it. -/
def unmark (s : State) (f : Nat) : State :=
  let s := submitUpd s [.freeze f false] none
  if vaultBase s = 0 then thawDone s else s

/-- A thaw (R258): the image is void, and the freeze mark is cleared. -/
def thawBegin (s : State) (f : Nat) : State := unmark (modFn s f fun r => { r with mig := .none, image := none, act := r.act.map voidSave }) f

/-- Creation of a function (R240) with its context key; its record is written. -/
def veCreateFn (s : State) (f : Nat) (key : Bytes) : State :=
  let s := modFn s f fun r => { r with
    ctxKey := key, ctxCtr := 0, ctxRes := 0, ctxSerial := r.ctxSerial + 1, mig := .none, session := none, image := none, receipt := none
    frozenMark := false, state := runState s f, before := runState s f, skew := false, restart := false, resetHeld := false }
  submitUpd (fitPools s f) [.freeze f false] none

/-- A context key arrives from the key-generation path (R189): a function commanded into being is created with it (R240); of one that
exists the key is renewed by an update (R256). -/
def giveCtx (s : State) (f : Nat) (key : Bytes) : State :=
  match (getFn s f).state with
  | .absent => if f ≠ 0 ∧ fnCfg s f 1 = 1 then veCreateFn s f key else s
  | .destroying => dropRenew s f
  | _ => submitUpd s [.ctxKey f key] none

/-- A context key is drawn: at once where the reserve can serve it, else it is asked for on the private wires. -/
def drawCtx (s : State) (f : Nat) : State :=
  match takeNow s 32 3 with
  | some d => giveCtx d.2 f d.1
  | none => askWire s (.ctx f)

/-- The command of a function is acted on, in the state that it is in. During a transition it is acted on at its end; but a
destruction is more restrictive than a reset or a freeze in progress (R253). -/
def veCommand (s : State) (f : Nat) : State :=
  match (getFn s f).state, fnCfg s f 1 with
  | .running, 0 | .quiesced, 0 | .frozen, 0 | .resetting, 0 | .freezing, 0 => destroyBegin s f
  | .running, 2 | .quiesced, 2 => freezeBegin s f
  | .frozen, 1 => thawBegin s f
  | .absent, 1 => drawCtx s f
  | _, _ => s

/-- The bounds of a reset or freeze have come: it ends where nothing is left to wait for, and a command recorded meanwhile is
acted on. -/
def resetOver (s : State) (f : Nat) : State := if fnBusy s f then s else veCommand (resetEnd s f) f
def freezeOver (s : State) (f : Nat) : State :=
  let s := cancelLate s f
  if fnBusy s f || freezeUpds s f || erasingOf s f then s else veCommand (freezeEnd s f) f

/-- VE_RESET_ABANDON: the bound of steps 4 and 5 of R251. The reset ends once no completion write is outstanding; the next
bound retires those that are. A destruction in progress goes on in the same way. -/
def veResetAbandon (f : Nat) (s : State) : State :=
  if !coreUp s then s
  else match (getFn s f).state with
    | .resetting => pumpAll (resetOver (drainBoundFn s f) f)
    | .destroying => if s.safe then s else pumpAll (destroyAdvance (drainBoundFn s f) f)
    | _ => s

/-- FREEZE_BOUND: the bound of channel runs (step 3 of R257), or that of requests (steps 4, 5 and 7). -/
def freezeBound (f : Nat) (channels : Bool) (s : State) : State :=
  if !coreUp s || s.safe || decide ((getFn s f).state ≠ .freezing) then s
  else if channels then (liveRuns s f).foldl (fun s c => stopChan s c false) s
  else pumpAll (freezeOver (drainBoundFn s f) f)

/-! ### The rows -/

def execFunctionLevelReset (f : Nat) (s : State) : Out State := fin (functionLevelReset f s)
def execVeResetAbandon (f : Nat) (s : State) : Out State := fin (veResetAbandon f s)
def execEnableIndication (f : Nat) (v : U32) (s : State) : Out State := fin (enableIndication f v s)
def execFreezeBound (f : Nat) (channels : Bool) (s : State) : Out State := fin (freezeBound f channels s)

end Sys2Proof.Machine
end

