-- ==== Sys2Proof/Machine/AlmRead.lean ====
section
/-!
DEFINITION. What Almanac entries read as (R270 to R299 and the entry tables of every chapter), the rights of principals
(R272, R273), and the two digests (R294).
-/
namespace Sys2Proof.Machine

open Sys2Proof

/-! ### Life cycle as the Almanac shows it -/

/-- SCRAPPED, or served as SCRAPPED after LIFECYCLE failed its check (R280, R306). -/
def scrapped (s : State) : Bool := decide (s.life.state = 4) || s.bring.lcFailed

/-- LC_STATE as it reads (R306). -/
def lcState (s : State) : Nat := if s.bring.lcFailed then 4 else s.life.state

/-- LC_FLOOR, fuse bits 449 to 448 (R337). -/
def lcFloor (s : State) : Nat := min 2 (tget 0 s.bring.fuse 14 % 4)

/-- DEBUG_ENABLED (R338): open in MAKER and RETURNED, else what tokens granted. -/
def debugEnabled (s : State) : Nat :=
  if !s.bring.lcRead then 0
  else if scrapped s then 0
  else if s.life.state = 0 ∨ s.life.state = 3 then 3
  else if s.life.state = 1 then s.life.debugEn.toNat
  else s.life.debugEn.toNat % 2

/-! ### Numbers (R271) -/

/-- OWNER as it reads. -/
def ownerCode (o : Option Nat) : Nat := o.getD 0xFFFF

def stickyWord (s : State) (w : Nat) : Nat := s.sticky.toNat / 2 ^ (32 * w) % 2 ^ 32

def stickyCount (s : State) : Nat := ((List.range 768).filter fun i => s.sticky.getLsbD i).length

/-- Bits of a ready mask of units. -/
def readyOf (s : State) (k : Kind) (from_ n : Nat) : Nat := maskOf n fun i => unitReady s (k.base + from_ + i)

/-- Functions that exist, by number. -/
def presentFns (s : State) : List Nat := 0 :: ((s.fns.filter fun e => decide (e.1 ≠ 0 ∧ e.2.state ≠ .absent)).map Prod.fst)

/-- Sum of an entry over every function that exists. -/
def sumOver (s : State) (g : Nat → Nat) : Nat := ((presentFns s).map g).foldl (· + ·) 0

/-- Sum of the committed values of one entry over the records of a table; the entry's default is zero. -/
def cfgSum (s : State) (base sub : Nat) : Nat :=
  s.cfg.foldl (fun n e => if base ≤ e.1 / 256 ∧ e.1 / 256 ≤ base + 1024 ∧ e.1 % 256 = sub then n + e.2 else n) 0

/-- Sum of a class's share (R238). -/
def shareSum (s : State) (sub : Nat) : Nat := cfgSum s 0xB000 sub

def slotsInUse (s : State) : Nat := (s.vault.slots.filter fun e => decide (e.2.state ≠ .free)).length
def largeInUse (s : State) : Nat := (s.vault.slots.filter fun e => e.2.large.isSome).length
def shadowsInUse (s : State) : Nat := (s.vault.slots.filter fun e => e.2.shadow.isSome).length

/-- Present conditioned rate (R198). -/
def condRate (s : State) : Nat :=
  if s.rng.state = .running then 100 * ((List.range 8).filter fun i => s.rng.feeding.getLsbD i).length else 0

/-- PKAn is held by an operation (R120, R140). -/
def pkaBusy (s : State) (n : Nat) : Bool := pkaHeld s (unitAt .pka n)

/-- SURVEY_STATUS: peer and lookup bits follow their handshakes. -/
def surveyStatus (s : State) : Nat :=
  (s.bring.survey.toNat % 16) + 16 * ofBool s.peer.present + 32 * ofBool s.lookup.present

/-- A function, ring or unit diverges (R254, R327). -/
def fnDiverges (s : State) (f : Nat) : Bool := decide ((getFn s f).state = .quiesced ∧ fnCfg s f 1 = 1)
def ringDiverges (s : State) (n : Nat) : Bool :=
  let r := getRing s n
  decide (r.state = .error ∧ ringCfg s n 9 = 1) &&
  (match r.owner with | some f => decide ((getFn s f).state = .running) | none => false)
def unitDiverges (s : State) (u : Nat) : Bool :=
  decide (unitCmd s u = 0) &&
  (decide ((getUnit s u).state = .retired) || (decide (kindOf u = .lane) && (getGen s (unitNo u)).stopped))

/-- Diverging for longer than 10 microseconds. -/
def fnSkew (s : State) (f : Nat) : Bool := (getFn s f).skew && fnDiverges s f
def ringSkew (s : State) (n : Nat) : Bool := (getRing s n).skew && ringDiverges s n

/-- Value of a numeric entry that is not a committed one. -/
def readNum (s : State) (i sub : Nat) : Nat :=
  if i = 0x1000 ∨ i = 0x1001 ∨ i = 0x6000 then entryDflt i sub
  else if i = 0x2000 then
    (match sub with
      | 1 => readyWord s | 2 => readyOf s .lane 0 32 | 3 => readyOf s .hash 0 16 | 4 => readyOf s .pka 0 16
      | 5 => readyOf s .seq 0 32 | 6 => readyOf s .seq 32 32 | 7 => readyOf s .port 0 16 | _ => s.bring.bringupNs)
  else if i = 0x2001 then (if sub = 3 then s.cnt.commitSer.toNat else s.mgmt.pend.length)
  else if i = 0x2010 then
    (match sub with
      | 1 => activeCount s .seq | 2 => activeCount s .lane | 3 => activeCount s .hash | 4 => activeCount s .pka
      | 5 => activeCount s .kc | 6 => activeCount s .port | 7 => activeCount s .ns | 8 => activeCount s .mov
      | 9 => maskOf 8 fun g => active s (unitAt .grp g)
      | _ => maskOf 4 fun m => active s (unitAt .reg m))
  else if i = 0x2020 then
    (match sub with
      | 0x13 => tagWindow s | 0x15 => s.bring.coreKhz | 0x16 => s.bring.portKhz | 0x17 => s.bring.mgmtKhz
      | 0x18 => s.bring.coreMv | 0x19 => s.bring.aonMv | 0x1A => s.bring.nvProgNs | 0x1C => surveyStatus s
      | n => ((s.bring.rtt.find? fun e => decide (e.1 + 1 = n)).map Prod.snd).getD 0)
  else if i = 0x2030 then
    (match sub with
      | 1 => ofBool s.peer.present | 2 => s.peer.caps.toNat | 3 => s.peer.maxJob | 5 => s.peer.failures.toNat
      | _ => s.peer.violations.toNat)
  else if i = 0x2031 then
    (match sub with
      | 1 => ofBool s.lookup.present | 3 => s.lookup.falseHits.toNat | 4 => s.lookup.retries.toNat
      | 5 => s.lookup.fails.toNat | _ => s.lookup.timeouts.toNat)
  else if i = 0x2040 then
    (match sub with
      | 1 => (s.fns.filter fun e => fnSkew s e.1).length
      | 2 => (s.rings.filter fun e => ringSkew s e.1).length
      | _ => s.cnt.skewEvents.toNat)
  else if i = 0x3000 then
    (if sub ≤ 0x18 then stickyWord s (sub - 1) else if sub = 0x19 then ofBool s.safe
     else if sub = 0x1A then ofBool (fixedRegime s) else stickyCount s)
  else if i = 0x3200 then 32768
  else if i = 0x3300 then (getUnit s sub).jubilee % 2 ^ 32
  else if i = 0x3301 then (unitState s sub).code
  else if 0x4000 ≤ i ∧ i ≤ 0x4400 then
    (let f := i - 0x4000
     let r := getFn s f
     match sub with
      | 2 => r.state.code | 3 => ofBool r.hostEnable | 0x0A => slotsUsed s f | 0x0B => largeUsed s f | 0x0C => r.shadUsed
      | 0x0E => r.mig.code | 0x0F => r.actStatus | 0x15 => r.outLen | 0x16 => r.ctxSerial.toNat | 0x17 => r.held.toNat
      | _ => ofBool (fnSkew s f))
  else if 0x5000 ≤ i ∧ i ≤ 0x5FFF then
    (let r := getRing s (i - 0x5000)
     match sub with
      | 1 => ownerCode r.owner | 2 => if r.owner.isNone then 255 else r.local_ | 8 => r.version | 0x0A => r.state.code
      | 0x0B => if r.home.isNone then 0 else readyMask s r.home
      | 0x0C => r.fetchCnt.toNat | 0x0D => r.complCnt.toNat | 0x0E => r.errors.toNat
      | _ => if r.state = .disabled then 255 else r.home.getD 255)
  else if i = 0x6010 then
    (match sub with
      | 1 => 16 | 2 => 20
      | 3 => maskOf 32 fun n => (getGen s n).grace
      | 4 => maskOf 32 fun n => !(getGen s n).seeded || (getGen s n).stopped
      | 5 => maskOf 5 fun n => s.alarms.active.any fun c => decide (n = (match c with
          | .supply => 0 | .clock => 1 | .light => 2 | .temp => 3 | .parity => 4))
      | 6 => s.alarms.eraseCount.toNat
      | _ => s.cnt.echoMis.toNat)
  else if i = 0x6020 then
    (match sub with
      | 1 => 1048576 | 2 => 65537 | 3 => maskOf 16 (pkaBusy s) | 4 => s.cnt.pctFail.toNat | 5 => s.cnt.resFail.toNat
      | _ => s.cnt.pkaAband.toNat)
  else if i = 0x7000 then
    (match sub with
      | 3 => 2415919104 | 4 => 1 | 5 => ofBool (vaultReady s) | 6 => s.vault.inc | 7 => slotsInUse s | 8 => largeInUse s
      | 9 => shadowsInUse s | 0x0A => s.cnt.cacheHits | 0x0B => s.cnt.cacheMiss | 0x0C => s.cnt.integrity.toNat
      | 0x0D => s.vault.damaged.length | 0x0F => 50000 | 0x11 => s.vault.epochSpent | 0x12 => s.vault.lostSlots
      | 0x13 => s.vault.lostLarge | _ => s.vault.lostShad)
  else if i = 0x8000 then
    (match sub with
      | 1 => s.rng.state.code | 3 => s.rng.feeding.toNat | 4 => s.rng.rct.toNat | 5 => s.rng.apt.toNat
      | 6 => s.rng.startup.toNat | 7 => 81 | 8 => 827 | 9 => 1024 | 0x0A => s.rng.advents.toNat | 0x0B => s.rng.lastNs
      | 0x0C => s.rng.halts.toNat | 0x0E => s.rng.reseeds | _ => condRate s)
  else if i = 0x9000 then
    (match sub with
      | 1 => lcState s | 2 => s.life.count | 4 => s.life.phase.code | 6 => s.life.result
      | 7 => (getNvRec s 1).seq | 8 => (getNvRec s 2).seq | 9 => (getNvRec s 3).seq | 0x0A => (getNvRec s 4).seq
      | 0x0B => (getNvRec s 5).seq | _ => lcFloor s)
  else if i = 0x9001 then debugEnabled s
  else if i = 0x9002 then (if sub = 3 then s.life.statement.length else s.life.serial.toNat)
  else if i = 0x9003 then (getNvRec s 3).payload.length
  else if 0xA000 ≤ i ∧ i ≤ 0xA0FF then
    (let c := i - 0xA000
     let r := getChan s c
     match sub with
      | 1 => ownerCode r.owner | 2 => if r.owner.isNone then 255 else r.local_ | 6 => r.state.code | 0x0B => r.pending
      | 0x0C => r.runs.toNat | 0x0D => r.errors.toNat | _ => chanMover s c)
  else if 0xA100 ≤ i ∧ i ≤ 0xA10F then
    (if sub = 4 then (getTimer s (i - 0xA100)).fired.toNat else (getTimer s (i - 0xA100)).missed.toNat)
  else if i = 0xA200 then
    (match sub with
      | 2 => 256 - (s.chans.filter fun e => e.2.owner.isSome).length
      | 3 => s.cnt.timeouts.toNat | 4 => s.cnt.lateAns.toNat | 5 => (s.txns.filter Txn.quar).length
      | _ => s.cnt.lateErr.toNat)
  else if 0xB000 ≤ i ∧ i ≤ 0xB400 then
    (let r := getStat s (i - 0xB000)
     match sub with
      | 0x0A => r.cipherUsed | 0x0B => r.hashUsed | 0x0C => r.pkaUsed | _ => r.portUsed)
  else if i = 0xBF00 then 10000
  else if i = 0xC000 then
    (match sub with
      | 1 => s.cnt.reqOk | 2 => s.cnt.reqFailed | 3 => s.cnt.cipherUnits | 4 => s.cnt.hashUnits | 5 => s.cnt.pkaOps
      | 6 => s.cnt.runs | 7 => nowNs s | _ => sinceReset s)
  else if 0xC100 ≤ i ∧ i ≤ 0xC500 then
    (let r := getStat s (i - 0xC100)
     match sub with
      | 1 => r.reqOk | 2 => r.reqFailed | 3 => r.cipher | 4 => r.hash | 5 => r.quotaFails.toNat | 6 => r.intReq
      | _ => r.intUnits)
  else 0

/-- Two bits a record, packed from byte 0 (R332). -/
def packTwo (n : Nat) (t : Tbl Nat) : Bytes :=
  (List.range n).map fun i => BitVec.ofNat 8
    (tget 0 t (4 * i) + 4 * tget 0 t (4 * i + 1) + 16 * tget 0 t (4 * i + 2) + 64 * tget 0 t (4 * i + 3))

/-- Committed value of the RWS entries that carry a request, a token or a nonce: it stays zero, so that none is submitted
twice (R298). -/
def octRws (i : Nat) : Bytes := zeros (if i = 0x9002 then 32 else 12288)

/-! ### The digests (R294) -/

def inLayout (i : Nat) : Bool :=
  decide ((0x4000 ≤ i ∧ i ≤ 0x4400) ∨ (0x5000 ≤ i ∧ i ≤ 0x5FFF) ∨ (0xA000 ≤ i ∧ i ≤ 0xA0FF) ∨ (0xB000 ≤ i ∧ i ≤ 0xB400))

/-- OWNER and LOCAL_INDEX of rings and channels belong to the layout. -/
def ownerEntry (i sub : Nat) : Bool :=
  decide (((0x5000 ≤ i ∧ i ≤ 0x5FFF) ∨ (0xA000 ≤ i ∧ i ≤ 0xA0FF)) ∧ (sub = 1 ∨ sub = 2))

/-- Sub-indices of an index that a digest includes, ascending. -/
def digestSubs (layout : Bool) (i : Nat) : List Nat :=
  (List.range 256).filter fun sub =>
    match entryAt i sub with
    | none => false
    | some e =>
      if layout then inLayout i && (decide (e.acc = .rws) || ownerEntry i sub)
      else !inLayout i && decide (0x2000 ≤ i ∧ i ≤ 0xCFFF) && decide (i < 0x9000 ∨ 0x9003 < i) &&
        decide (e.acc = .rws ∨ e.acc = .rw)

/-- Value of an entry of scalar type, as its type encodes it. -/
def scalarBytes (s : State) (i sub : Nat) (e : Entry) : Bytes :=
  le e.ty.len (if e.acc = .rw ∨ e.acc = .rws then cfgGet s i sub else readNum s i sub)

/-- Items of one index. -/
def digestItems (s : State) (layout : Bool) (i : Nat) : Bytes :=
  (digestSubs layout i).flatMap fun sub =>
    match entryAt i sub with
    | some e => le 2 i ++ le 1 sub ++ scalarBytes s i sub e
    | none => []

/-- Indices that hold entries, ascending (R290). -/
def directory : List Nat :=
  [0x1000, 0x1001, 0x2000, 0x2001, 0x2010, 0x2020, 0x2030, 0x2031, 0x2040, 0x2041, 0x3000, 0x3100, 0x3101, 0x3102, 0x3200,
   0x3300, 0x3301, 0x3302] ++
  (List.range 1025).map (0x4000 + ·) ++ (List.range 4096).map (0x5000 + ·) ++
  [0x6000, 0x6010, 0x6020, 0x7000, 0x8000, 0x9000, 0x9001, 0x9002, 0x9003] ++
  (List.range 256).map (0xA000 + ·) ++ (List.range 16).map (0xA100 + ·) ++ [0xA200] ++
  (List.range 1025).map (0xB000 + ·) ++ [0xBF00, 0xC000] ++ (List.range 1025).map (0xC100 + ·)

def layoutDigest (s : State) : Bytes := sha384 (directory.flatMap (digestItems s true))
def configDigest (s : State) : Bytes := sha384 (directory.flatMap (digestItems s false))

/-! ### The value of an entry -/

/-- Bytes of an OCT entry that a read returns without further effect. -/
def readOct (s : State) (i sub : Nat) : Bytes :=
  if i = 0x1000 then (if sub = 3 then fit 48 s.bring.fwDigest else if s.bring.unitIdDone then fit 48 s.bring.unitId else zeros 48)
  else if i = 0x2001 then (if sub = 1 then configDigest s else layoutDigest s)
  else if i = 0x3000 then (if sub = 0x1D then packTwo 1024 s.ledgerR else packTwo 64 s.ledgerC)
  else if i = 0x9000 ∧ sub = 0x0C then fit 48 s.life.digest
  else if i = 0x9002 ∧ sub = 2 then fit 16384 s.life.statement
  else if i = 0x9003 then fit 16384 (getNvRec s 3).payload
  else if i = 0xBF00 then le 2 (shareSum s 1) ++ le 2 (shareSum s 3) ++ le 2 (shareSum s 5) ++ le 2 (shareSum s 7)
  else octRws i

/-- Committed value of an entry as its type encodes it. -/
def entryValue (s : State) (i sub : Nat) : Bytes :=
  match entryAt i sub with
  | none => []
  | some e => if e.ty.isOct then readOct s i sub else scalarBytes s i sub e

/-! ### Rights (R272, R273) -/

/-- What a principal may do with an entry. -/
structure Rights where
  read  : Bool := false
  write : Bool := false
  deriving DecidableEq, Repr

def Rights.any (r : Rights) : Bool := r.read || r.write

def Acc.canRead (a : Acc) : Bool := decide (a ≠ .wo)
def Acc.canWrite (a : Acc) : Bool := decide (a ≠ .ro ∧ a ≠ .rc)

/-- Function whose interval counters an address names (R299). -/
def isInterval (i sub : Nat) : Bool := decide (0xC100 ≤ i ∧ i ≤ 0xC500 ∧ (sub = 6 ∨ sub = 7))

/-- Entries that the OOB principal may only read (R32, R201, R219, R223, R235, R237, R269, R273). -/
def oobReads (i : Nat) : Bool :=
  decide ((0x4000 ≤ i ∧ i ≤ 0x4400) ∨ (0x5000 ≤ i ∧ i ≤ 0x5FFF) ∨ (0xA000 ≤ i ∧ i ≤ 0xA2FF) ∨ (0xB000 ≤ i ∧ i ≤ 0xB400) ∨
    i = 0xBF00 ∨ i = 0x2030 ∨ i = 0x2031 ∨ i = 0x2041)

/-- Reads of a VE principal beyond those open to all (R32, R184, R198, R201, R237, R297 to R299). -/
def veReads (s : State) (f i sub : Nat) : Bool :=
  (decide (i = 0x1000 ∨ i = 0x1001 ∨ i = 0x2010) || decide (i = 0x2000 ∧ sub = 1)) ||
  decide (i = 0x3000 ∧ (sub = 0x19 ∨ sub = 0x1A)) || decide (i = 0x7000 ∧ 3 ≤ sub ∧ sub ≤ 6) || decide (i = 0x8000 ∧ sub = 1) ||
  decide (i = 0x9000 ∧ (sub = 1 ∨ sub = 2)) || decide (i = 0x4000 + f ∧ (sub ≤ 0x0C ∨ (0x16 ≤ sub ∧ sub ≤ 0x18))) ||
  (decide (0x5000 ≤ i ∧ i ≤ 0x5FFF) && decide ((getRing s (i - 0x5000)).owner = some f)) ||
  (decide (0xA000 ≤ i ∧ i ≤ 0xA0FF) && decide ((getChan s (i - 0xA000)).owner = some f)) || decide (i = 0xC100 + f)

/-- Rights of a principal on an entry. -/
def rightsOn (s : State) (p : Principal) (i sub : Nat) (e : Entry) : Rights :=
  if isInterval i sub then
    { read := (match p with | .mgr => decide (i = 0xC100) | .ve f => decide (i = 0xC100 + f ∧ f ≠ 0) | _ => false) }
  else if i = 0x8000 ∧ sub = 0x0D then { read := decide (p = .mgr) }
  else match p with
    | .mgr => { read := e.acc.canRead, write := e.acc.canWrite }
    | .oob => { read := e.acc.canRead, write := e.acc.canWrite && !oobReads i }
    | .ve f => { read := e.acc.canRead && veReads s f i sub }
    | .dbg =>
      if debugEnabled s % 2 = 1 then { read := e.acc.canRead }
      else { read := e.acc.canRead && (decide (i = 0x1000 ∨ i = 0x1001 ∨ i = 0x2000) || decide (i = 0x9000 ∧ (sub = 1 ∨ sub = 2))) }

def rightsAt (s : State) (p : Principal) (i sub : Nat) : Rights :=
  match entryAt i sub with
  | some e => rightsOn s p i sub e
  | none => {}

/-! ### Commit groups (R279) -/

/-- Group of an RWS entry. -/
def groupOfEntry (i sub : Nat) : Option Nat :=
  match entryAt i sub with
  | none => none
  | some e =>
    if e.acc ≠ .rws then none
    else if (0x3100 ≤ i ∧ i ≤ 0x3102) ∨ i = 0x3200 then some 0x3100
    else if 0xB000 ≤ i ∧ i ≤ 0xB400 then some (0x4000 + (i - 0xB000))
    else some i

/-- Indices whose RWS entries form a group, ascending; none for a number that is no group. -/
def groupIndices (g : Nat) : List Nat :=
  if g = 0x3100 then [0x3100, 0x3101, 0x3102, 0x3200]
  else if 0x4000 ≤ g ∧ g ≤ 0x4400 then [g, 0xB000 + (g - 0x4000)]
  else if g = 0x2020 ∨ g = 0x3302 ∨ (0x5000 ≤ g ∧ g ≤ 0x5FFF) ∨ g = 0x6010 ∨ g = 0x7000 ∨ (0x9000 ≤ g ∧ g ≤ 0x9002) ∨
    (0xA000 ≤ g ∧ g ≤ 0xA0FF) ∨ (0xA100 ≤ g ∧ g ≤ 0xA10F) then [g]
  else []

/-- Entries of a group. -/
def groupEntries (g : Nat) : List (Nat × Nat) := (groupIndices g).flatMap fun i => (rwsSubs i).map fun sub => (i, sub)

/-- Principals that may stage a group (R279). -/
def mayStage (p : Principal) (g : Nat) : Bool :=
  match p with
  | .mgr => true
  | .oob => !oobReads g
  | _ => false

end Sys2Proof.Machine
end

