-- ==== Sys2Proof/Machine/Pka.lean ====
section
/-!
DEFINITION. Public-key operations (R120 to R140): check 9 (R126), public inputs (R127), the computation and its checks, and
the rows of opcode group 05xxh.
-/
namespace Sys2Proof.Machine

open Sys2Proof

/-! ### Check 9 (R124, R126) -/

/-- Operations that draw from their unit's buffer before they read their key (R134). KEY_GENERATE draws as it goes. -/
def drawsBuffer (o : Op) : Bool := decide (o ≠ .verify ∧ o ≠ .keyGen)

/-- The secret that an agreement or encapsulation keeps, or a generated key, in bytes (R129, R132). -/
def pkaSecretLen (o : Op) (d : Desc) : Nat :=
  match o with
  | .keyAgree | .kemEnc | .kemDec => (algSizes (pkAlg d.mode) 0).2.2
  | .keyGen => storedLen (pkAlg d.mode) (pkModW d.mode)
  | _ => 0

/-- Tests 1 to 3 of R126. -/
def pkaLimits (o : Op) (d : Desc) : Bad :=
  let k := 8 * pkModW d.mode
  let h := pkHashLen (pkHash d.mode)
  let signs := decide (o = .sign ∨ o = .verify)
  firstBad
    [ (takesAad o d && decide (255 < d.aadLen ∨ d.srcLen < d.aadLen), .lenAad, 0),
      (signs && pkPrehashed d.mode && decide (d.dataLen ≠ h), .lenLimit, 0),
      (signs && !pkPrehashed d.mode && decide (1048576 < d.dataLen), .lenLimit, 0),
      (decide (o = .rsaEnc ∧ k - 2 * h - 2 < d.dataLen), .lenLimit, 0),
      (!refersDst o && decide (d.dstCap < outLen o d 0), .destOverflow, 0) ]

/-- Bits that one operation draws from its unit's buffer: the most that R134 lets it draw. -/
def pkaDraw : Nat := 4096

/-- The operation draws from its unit's buffer, or waits for the refill (R134). -/
def drawBuffer (s : State) (r : Nat) (q : Req) (f : State → State) : State :=
  let n := unitNo (q.unit.getD 0)
  let b := tget [] s.rng.pkaBuf n
  let m := pkaDraw / 8
  if b.length < m then askWire (modReq s r fun q => { q with phase := .wires }) (.pka n)
  else
    f (askWire (modReq { s with rng := { s.rng with pkaBuf := tput [] s.rng.pkaBuf n (b.drop m) } } r fun q =>
      { q with drawn := b.take m }) (.pka n))

/-! ### Public inputs (R127) -/

/-- The first public input that is not valid: its RESULT. -/
def pkaInputBad (s : State) (q : Req) : Option Nat :=
  let alg := pkAlg q.d.mode
  let w := pkModW q.d.mode
  match q.op with
  | .verify | .rsaEnc | .keyAgree | .kemEnc => if publicOk alg w q.opnd then none else some 0x30
  | .rsaDec =>
    if ofBe (q.srcB.drop q.d.aadLen) < ofBe ((keyMat s q).take (8 * w)) then none else some 0x08
  | _ => none

/-- All inputs are in: they are validated, and the unit runs. -/
def pkaLoad (s : State) (r : Nat) (q : Req) : State :=
  match pkaInputBad s q with
  | some x => failStep s r .descField x
  | none => setReq s r (some { q with phase := .running })

/-- Check 9 of an operation on its unit, and what follows it. -/
def pkaAccept (s : State) (r : Nat) (q : Req) : State :=
  let o := q.op
  match pkaLimits o q.d with
  | some e => failStep s r e.1 e.2
  | none =>
    match (if o = .verify then none else rngStop s) with
    | some e => failStep s r e 0
    | none =>
      let slot := creates o
      let large := slot && needsLarge (pkaSecretLen o q.d)
      match reserve s r q slot large false with
      | none => failStep s r .quota 0
      | some s =>
        if o = .keyGen then awaitWires s r pkaDraw
        else
          let go (s : State) : State := thenLoaded (beginData s r) r fun s q => pkaLoad s r q
          if drawsBuffer o then drawBuffer s r q go else go s

/-! ### The end of an operation -/

/-- Policy of a slot that keeps a shared secret (R129). -/
def secretPolicy (len : Nat) (hashOk : Bool) : Nat :=
  (2 ^ 16 + (if len = 32 then 2 ^ 17 else 0)) * 2 ^ 32 + len * 2 ^ 24 + 2 ^ pDerive + (if hashOk then 2 ^ pHashOk else 0)

/-- Policy of a generated key (R125, R150). -/
def genPolicy (mp : Nat) : Nat :=
  (if pkAlg mp = 1 then pkModW mp else 0) * 2 ^ 24 + pkAlg mp * 2 ^ 16 + pkUsage mp

/-- The result is checked (R136): RSA CRT operations, and scalar multiplications on NIST and Edwards curves. -/
def resultChecked (o : Op) (alg : Nat) : Bool :=
  (decide (alg = 1) && decide (o = .sign ∨ o = .rsaDec)) || curveChecked alg

/-- Output of an operation before its checks: what the result check looks at. -/
def pkaResult (s : State) (q : Req) : Bytes :=
  let alg := pkAlg q.d.mode
  let h := pkHash q.d.mode
  let w := pkModW q.d.mode
  let sz := algSizes alg w
  let mat := keyMat s q
  let aad := q.srcB.take q.d.aadLen
  let data := q.srcB.drop q.d.aadLen
  match q.op with
  | .sign =>
    let hedge := if alg = 0x20 ∨ alg = 0x21 then [] else q.drawn
    primBytes (.sign alg h) [mat, aad, data, hedge, le 1 (ofBool (pkPrehashed q.d.mode))] sz.2.1
  | .rsaEnc => primBytes (.oaepEnc h) [q.opnd, aad, data, q.drawn] sz.2.1
  | .rsaDec => primBytes (.oaepDec h) [mat, aad, data]
      (min (Config.primLen (.oaepDec h) [mat, aad, data]) (8 * w - 2 * pkHashLen h - 2))
  | .keyAgree => agreed alg mat q.opnd
  | .kemEnc => primBytes (.kemCt alg) [q.opnd, q.drawn] sz.2.1
  | .kemDec => primBytes (.kemDec alg) [mat, data] sz.2.2
  | .keyGen => generate alg w q.drawn
  | .pubKey => publicOf alg w mat
  | _ => []

/-- VERIFY ends (R128). -/
def verifyEnd (s : State) (r : Nat) (q : Req) : State :=
  let ok := Config.test (.signature (pkAlg q.d.mode) (pkHash q.d.mode))
    [q.opnd, q.srcB.take q.d.aadLen, q.srcB.drop q.d.aadLen, q.refB, le 1 (ofBool (pkPrehashed q.d.mode))]
  if ok then endStep s r .ok 0 else failStep s r .authFail 0

/-- A secret goes into a new slot (R129). -/
def keepSecret (s : State) (r : Nat) (q : Req) (secret tail : Bytes) : State :=
  createSlot s r (secretPolicy secret.length (pkSecretOk q.d.mode)) (prmObj q.prm) secret 0 tail

/-- The unit has finished (R120): the checks of R128, R131 and R136, and the output. -/
def pkaEnd (s : State) (r : Nat) (q : Req) : State :=
  let alg := pkAlg q.d.mode
  let w := pkModW q.d.mode
  let out := pkaResult s q
  let aad := q.srcB.take q.d.aadLen
  let data := q.srcB.drop q.d.aadLen
  if resultChecked q.op alg && !Config.test (.resultCheck alg) [keyMat s q, q.opnd, aad, data, out] then resultFails s r q
  else if decide (q.op = .keyAgree) && zeroSecret alg out then failStep s r .descField 0x30
  else
    let s := countPka s
    match q.op with
    | .sign | .rsaEnc | .pubKey => writeOut s r out .ok out.length
    | .verify => verifyEnd s r q
    | .rsaDec =>
      if Config.test (.oaep (pkHash q.d.mode)) [keyMat s q, aad, data] then writeOut s r out .ok out.length
      else failStep s r .authFail 0
    | .keyAgree => keepSecret s r q out []
    | .kemEnc =>
      keepSecret s r q (primBytes (.kemSs alg) [q.opnd, q.drawn] (algSizes alg 0).2.2) out
    | .kemDec => keepSecret s r q out []
    | .keyGen =>
      pairTest s r q (genPolicy q.d.mode) out (pairFails s r q)
        (createSlot s r (genPolicy q.d.mode) (prmObj q.prm) out 0 (publicOf alg w out))
    | _ => s

/-- A public-key command acts on a request of its opcode that stands before acceptance or has its inputs. -/
def pkaStep (o : Op) (r : Nat) (s : State) : State :=
  match getReq s r with
  | none => s
  | some q =>
    if q.op ≠ o then s
    else if q.phase = .ready then pumpAll (pkaAccept s r q)
    else if q.phase = .loaded then pumpAll (pkaLoad s r q)
    else s

/-! ### The rows -/

/-- PKA_OPERATION_END (R120). -/
def pkaOperationEnd (r : Nat) (s : State) : State :=
  match getReq s r with
  | none => s
  | some q => if q.op.isPka && decide (q.phase = .running) then pumpAll (pkaEnd s r q) else s

/-- RSA_KEYGEN_TIMEOUT (R131): no key after 10 s. -/
def rsaKeygenTimeout (r : Nat) (s : State) : State :=
  whenReq .keyGen .running r s fun q => if pkAlg q.d.mode = 1 then failStep s r .faultDetected 0 else s

def execSign (r : Nat) (s : State) : Out State := fin (pkaStep .sign r s)
def execVerify (r : Nat) (s : State) : Out State := fin (pkaStep .verify r s)
def execRsaEncrypt (r : Nat) (s : State) : Out State := fin (pkaStep .rsaEnc r s)
def execRsaDecrypt (r : Nat) (s : State) : Out State := fin (pkaStep .rsaDec r s)
def execKeyAgree (r : Nat) (s : State) : Out State := fin (pkaStep .keyAgree r s)
def execKemEncapsulate (r : Nat) (s : State) : Out State := fin (pkaStep .kemEnc r s)
def execKemDecapsulate (r : Nat) (s : State) : Out State := fin (pkaStep .kemDec r s)
def execKeyGenerate (r : Nat) (s : State) : Out State := fin (pkaStep .keyGen r s)
def execPublicKey (r : Nat) (s : State) : Out State := fin (pkaStep .pubKey r s)
def execPkaOperationEnd (r : Nat) (s : State) : Out State := fin (pkaOperationEnd r s)
def execRsaKeygenTimeout (r : Nat) (s : State) : Out State := fin (rsaKeygenTimeout r s)

end Sys2Proof.Machine
end

