-- ==== Sys2Proof/Machine/KeyOps.lean ====
section
/-!
DEFINITION. Key management (R163 to R179): check 9 (R165), generation, derivation, import, export, replacement and erasure; and
the rows of opcode group 06xxh.
-/
namespace Sys2Proof.Machine

open Sys2Proof

/-! ### Check 9 (R165) -/

/-- The record and the material of the slot in KEY_HANDLE; the second key, as its unit's registers hold it (R102). -/
def slotRec (s : State) (q : Req) : SlotRec := match q.slot with | some i => getSlot s i | none => {}
def secondMat (s : State) (q : Req) : Bytes := if q.regsB.isEmpty then entMat s q.slot2 q.gen2 else q.regsB

/-- A replacement is pending (R174, R175). -/
def replacing (s : State) (i : Nat) : Bool := (getSlot s i).shadow.isSome

/-- An update that changes the state of the slot is queued or in progress: replacements, COMMIT and CANCEL are served one at a time, and
wait for its end (R155). -/
def changing (s : State) (i : Nat) : Bool :=
  (queuedOps s).any fun o => match o with
    | .put j _ | .retire j | .toReplacing j _ | .flip j _ | .cancel j | .erasing j | .free j => decide (j = i)
    | _ => false

/-- The key check value that REPLACE with SUB 00h requires of a symmetric key is missing: without a parameter block, or zero in it (R46,
R174). Only with the key does its kind show, so that the test follows check 8 (DEDUCED, log 44). -/
def kcvMissing (s : State) (q : Req) : Bad :=
  if q.op = .replace ∧ kmSub q.d.mode = 0 ∧ asymReplace s q = false then
    (if q.prm = [] then some (.descField, 0x28) else if allZero (prmKcv q.prm) then some (.descField, 0x70) else none)
  else none

/-- The two tests that come first for REPLACE, and the sizes that cannot be generated (R123, R174). -/
def replaceBad (s : State) (q : Req) : Bad :=
  match q.op, q.slot with
  | .replace, some i =>
    let p := (getSlot s i).policy
    if replacing s i || (queuedOps s).any (fun o => match o with | .toReplacing j _ => decide (j = i) | _ => false) then
      some (.replacePending, 0)
    else if (getSlot s i).gen = 2 ^ 32 - 1 then some (.keyExhausted, 0)
    else if kmSub q.d.mode = 1 ∧ polKind p = 1 ∧ polLen p ≠ 32 ∧ polLen p ≠ 48 ∧ polLen p ≠ 64 then some (.keyPolicy, 0)
    else none
  | _, _ => none

/-- Length that decides an output: the material of an export, the KCV or public key of a replacement. -/
def kmStored (s : State) (q : Req) : Nat :=
  let p := (slotRec s q).policy
  match q.op with
  | .expWrap | .expKem => (keyMat s q).length
  | .replace => if polKind p = 0 then 8 else (algSizes (polKind p) (polLen p)).1
  | _ => 0

/-- Length of what is unwrapped: the source, or W (R172). -/
def kwpLen (q : Req) : Nat :=
  match q.op with
  | .impWrap => q.d.srcLen
  | .replace => if kmSub q.d.mode = 0 then q.d.srcLen else 0
  | .impKem => q.d.dataLen - (algSizes (kmSub q.d.mode) 0).2.1 - (algSizes (kmPartner q.d.mode) 0).1
  | _ => 0

/-- Tests 1 to 3. -/
def kmLimits (s : State) (q : Req) : Bad :=
  let d := q.d
  firstBad
    [ (takesAad q.op d && decide (255 < d.aadLen ∨ d.srcLen < d.aadLen), .lenAad, 0),
      (decide (q.op = .derive ∧ 4096 < d.dataLen), .lenLimit, 0),
      (decide (3632 < kwpLen q), .lenLimit, 0),
      (decide (d.dstCap < outLen q.op d (kmStored s q)), .destOverflow, 0) ]

/-- Requests that test 4 looks at. -/
def kmRandom (q : Req) : Bool :=
  let dev := polHas q.d.ctx pDeviceIv
  match q.op with
  | .genSym | .expKem => true
  | .replace => decide (kmSub q.d.mode = 1)
  | .derive => dev
  | .impWrap => decide (kmSub q.d.mode = 1) && dev
  | _ => false

/-- Large-key record that the policy in the request calls for (R132). -/
def kmLarge (q : Req) : Bool :=
  match q.op with
  | .impWrap => decide (kmSub q.d.mode = 1) && needsLarge (impliedLen q.d.ctx)
  | _ => false

/-- Bits of key material that the request draws from the private wires (R167, R174, R189). -/
def kmBits (s : State) (q : Req) : Nat :=
  match q.op with
  | .genSym => 8 * polLen q.d.ctx
  | .replace =>
    let p := (slotRec s q).policy
    if kmSub q.d.mode = 0 then 0 else if polKind p = 0 then 8 * polLen p else 4096
  | _ => 0

/-- Check 9, the reservations, and the reads that follow. -/
def kmAccept (s : State) (r : Nat) (q : Req) (f : State → Req → State) : State :=
  match (kcvMissing s q).orElse fun _ => replaceBad s q with
  | some e => failStep s r e.1 e.2
  | none =>
    match kmLimits s q with
    | some e => failStep s r e.1 e.2
    | none =>
      match (if kmRandom q then rngStop s else none) with
      | some e => failStep s r e 0
      | none =>
        match reserve s r q (creates q.op) (kmLarge q) (decide (q.op = .replace)) with
        | none => failStep s r .quota 0
        | some s => thenLoaded (beginData s r) r f

/-- The request's work is counted as it is done (R299): source units on a lane, or an operation of a PKA unit, or
both for the hybrid transport (R118). One that waited for the CTR_DRBG or for a PKA unit has been counted already. -/
def kmCount (s : State) (q : Req) : State :=
  if q.resume = .drbg ∨ q.resume = .unit2 then s
  else match firstKind s q with
    | some .lane => countUnits s q.fn true q.d.srcLen
    | some .hash => countUnits s q.fn false q.d.srcLen
    | some .pka => countPka (if kemOp q.op then countUnits s q.fn true q.d.srcLen else s)
    | _ => s

/-! ### What is unwrapped (R165, R170, R172) -/

/-- A key pair that is imported passes its pairwise test on a PKA unit (R118, R170): a request that has none waits for one, or fails as at
check 7 where none is ready (DEDUCED, log 172). -/
def pairImport (s : State) (r : Nat) (q : Req) (policy : Nat) (mat : Bytes) (good : State) : State :=
  if polKind policy = 0 then good
  else if (pkaOf q).isSome then pairTest s r q policy mat (failStep s r .descField 8) good
  else if !readyBit s (some (groupOfReq s q)) 3 then failStep s r .notReady 0
  else setReq s r (some { q with phase := .waitGrant, resume := .unit2, grants := 1 })

/-- A package makes a new slot once its key has passed its test (R165, items 2 and 5; R170). Its large-key quota is tested last, since only
the package says whether it needs one (DESIGN CHOICE, log 131). -/
def importPackage (s : State) (r : Nat) (q : Req) (b : Bytes) : State :=
  if !packageOk b then failStep s r .descField 8
  else
    let pol := fld b 4 8
    let mat := b.drop 32
    pairImport s r q pol mat <|
    match (if polHas pol pDeviceIv then rngStop s else none) with
    | some e => failStep s r e 0
    | none =>
      let large := needsLarge mat.length
      if large && !quotaOk s q false true false then failStep s r .quota 0
      else createSlot (modReq s r fun q => { q with resLarge := large }) r pol (slice b 12 16) mat (fld b 28 1) []

/-- A non-zero key check value must match symmetric material. R166 defines none for an asymmetric key: of a raw import a non-zero one
never matches, and REPLACE does not look at it (DESIGN CHOICE, log 132). -/
def kcvFits (p : Nat) (kcv mat : Bytes) : Bool := allZero kcv || (decide (polKind p = 0) && decide (kcv = kcvOf mat))

/-- Raw material makes a new slot (R165, items 2 to 4; R170). -/
def importRaw (s : State) (r : Nat) (q : Req) (b : Bytes) : State :=
  let p := q.d.ctx
  if b.length ≠ impliedLen p then failStep s r .keyPolicy 0
  else pairImport s r q p b <|
    if !kcvFits p (prmKcv q.prm) b then failStep s r .authFail 0
    else createSlot s r p (prmObj q.prm) b (kmLimit q.d.mode) []

/-- Key-encryption key of the hybrid transport (R172). -/
def kemWrapKek (ssk ssc ct epk t : Bytes) : Bytes :=
  kdfCmac ssk ("NH1600 KEMWRAP".toList.map fun c => BitVec.ofNat 8 c.toNat) (ssc ++ ct ++ epk ++ t) 32

/-- IMPORT_KEM (R172). -/
def importKem (s : State) (r : Nat) (q : Req) : State :=
  let t := q.srcB.take q.d.aadLen
  let b := q.srcB.drop q.d.aadLen
  let n := (algSizes (kmSub q.d.mode) 0).2.1
  let m := (algSizes (kmPartner q.d.mode) 0).1
  let ct := b.take n
  let epk := slice b n m
  let w := b.drop (n + m)
  if !publicOk (kmPartner q.d.mode) 0 epk then failStep s r .descField 8
  else
    let cl := kmPartner q.d.mode
    let ssc := agreed cl (secondMat s q) epk
    if zeroSecret cl ssc then failStep s r .descField 8
    else if curveChecked cl && !Config.test (.resultCheck cl) [secondMat s q, epk, [], [], ssc] then resultFails s r q
    else
      let s := kmCount s q
      let kek := kemWrapKek (primBytes (.kemDec (kmSub q.d.mode)) [keyMat s q, ct] 32) ssc ct epk t
      if !kwpOk kek w then failStep s r .authFail 0 else importPackage s r q (kwpOpen kek w)

/-- EXPORT_KEM (R172). -/
def exportKem (s : State) (r : Nat) (q : Req) : State :=
  let t := q.srcB.take q.d.aadLen
  let b := q.srcB.drop q.d.aadLen
  let kem := kmSub q.d.mode
  let cl := kmPartner q.d.mode
  let ek := b.take (algSizes kem 0).1
  let pk := b.drop (algSizes kem 0).1
  let eph := generate cl 0 (q.drawn.drop 32)
  let ssc := agreed cl eph pk
  if !publicOk kem 0 ek || !publicOk cl 0 pk || zeroSecret cl ssc then failStep s r .descField 8
  else
    let m := q.drawn.take 32
    let ct := primBytes (.kemCt kem) [ek, m] (algSizes kem 0).2.1
    let epk := publicOf cl 0 eph
    let bad (input out : Bytes) : Bool := curveChecked cl && !Config.test (.resultCheck cl) [eph, input, [], [], out]
    if bad [] epk || bad pk ssc then resultFails s r q
    else
      let kek := kemWrapKek (primBytes (.kemSs kem) [ek, m] 32) ssc ct epk t
      let out := ct ++ epk ++ kwpWrap kek (packageOf (slotRec s q) (keyMat s q))
      writeOut (kmCount s q) r out .ok out.length

/-! ### Replacement (R174 to R176) -/

/-- The shadow is written and the slot becomes REPLACING; then the KCV or public key is written. The slot is looked at again: since check
8 an erase, an exhaustion or another replacement may have come first. -/
def beginReplace (s : State) (r : Nat) (q : Req) (i : Nat) (mat : Bytes) : State :=
  let rec_ := getSlot s i
  let p := rec_.policy
  let kcv := if polKind p = 0 then kcvOf mat else []
  let out := if polKind p = 0 then kcv else publicOf (polKind p) (polLen p) mat
  if slotCode s i = 3 then failStep s r .keyRevoked 0
  else if rec_.state = .retired then failStep s r .keyExhausted 0
  else if replacing s i then failStep s r .replacePending 0
  else
    submitUpd (setReq s r (some { q with out := out, result := out.length, phase := .vault, resume := .create, newSlot := none }))
      [.toReplacing i { idx := freeShadow s, mat := mat, kcv := kcv, slot := i, gen := rec_.gen + 1 }] (some r)

/-- An asymmetric replacement that has passed its pairwise test: its public key is computed and checked (R136). -/
def replaceAsym (s : State) (r : Nat) (q : Req) (i : Nat) (mat : Bytes) : State :=
  let p := (getSlot s i).policy
  if curveChecked (polKind p) && !Config.test (.resultCheck (polKind p)) [mat, [], [], [], publicOf (polKind p) (polLen p) mat] then
    resultFails s r q
  else beginReplace (countPka s) r q i mat

/-- REPLACE with its input or its randomness at hand. While another change of the slot is under way it waits (R155). -/
def replaceLoaded (s : State) (r : Nat) (q : Req) : State :=
  match q.slot with
  | none => s
  | some i =>
    let p := (getSlot s i).policy
    if changing s i && decide (slotCode s i ≠ 3) then s
    else if kmSub q.d.mode = 0 then
      let kek := secondMat s q
      -- the unwrap runs on a cipher lane, whatever the kind of the key (R118, R299)
      let s := countUnits s q.fn true q.d.srcLen
      if !kwpOk kek q.srcB then failStep s r .authFail 0
      else
        let mat := kwpOpen kek q.srcB
        if mat.length ≠ impliedLen p then failStep s r .keyPolicy 0
        else if polKind p = 0 then
          (if kcvFits p (prmKcv q.prm) mat then beginReplace s r q i mat else failStep s r .authFail 0)
        else pairTest s r q p mat (failStep s r .faultDetected 0) (replaceAsym s r q i mat)
    else if polKind p = 0 then beginReplace s r q i (q.drawn.take (polLen p))
    else
      let mat := generate (polKind p) (polLen p) q.drawn
      pairTest s r q p mat (pairFails s r q) (replaceAsym s r q i mat)

/-- A request that ends with an update and no output. -/
def updateOnly (s : State) (r : Nat) (q : Req) (ops : List VOp) : State :=
  submitUpd (setReq s r (some { q with out := [], result := 0, phase := .vault, resume := .create, newSlot := none })) ops (some r)

/-- COMMIT (R175): the block-usage count is carried where the key check values agree (R85). It waits for a change of the slot that is under
way (R155). -/
def commitKey (r : Nat) (s : State) : State :=
  whenReq .commit .ready r s fun q =>
    match q.slot with
    | none => s
    | some i =>
      let rec_ := getSlot s i
      match rec_.shadow, decide (slotCode s i = 3), changing s i with
      | _, true, _ => failStep s r .keyRevoked 0
      | _, false, true => s
      | some h, false, false =>
        let same := if polKind rec_.policy = 0 then decide (h.kcv = kcvOf rec_.mat) else decide (h.mat = rec_.mat)
        updateOnly s r q [.flip i same]
      | none, false, false => failStep s r .keyNotFound 0

/-- CANCEL (R176); it waits as COMMIT does. -/
def cancelKey (r : Nat) (s : State) : State :=
  whenReq .cancel .ready r s fun q =>
    match q.slot with
    | none => s
    | some i =>
      match (getSlot s i).shadow, decide (slotCode s i = 3), changing s i with
      | _, true, _ => failStep s r .keyRevoked 0
      | _, false, true => s
      | some _, false, false => updateOnly s r q [.cancel i]
      | none, false, false => failStep s r .keyNotFound 0

/-! ### Erasure (R177 to R179) -/

/-- An erase. -/
def erases : Op → Bool
  | .erase | .eraseUrg => true
  | _ => false

/-- Requests that hold a reference on a slot, in order of arrival. -/
def holders (s : State) (i : Nat) : List Nat := reqsWith s fun q => holds q i && decide (q.phase ≠ .ended)

/-- Step 1 of R177: the slot is ERASING from now on; the erase itself holds no reference. -/
def eraseStart (s : State) (r : Nat) (q : Req) (i : Nat) : State :=
  let s := releaseRef s i q.gen
  let s := setReq s r (some { q with phase := .erase, refHeld := false })
  let noted := s.vault.erasing.contains i || decide ((getSlot s i).state = .erasing)
  let s := cacheSync { s with vault := { s.vault with erasing := addNew s.vault.erasing i } } i
  if noted then s else submitUpd s [.erasing i] none

/-- ERASE (R177). -/
def eraseKey (r : Nat) (s : State) : State :=
  whenReq .erase .ready r s fun q =>
    match q.slot with
    | none => s
    | some i => eraseAdvance (eraseStart s r q i) i

/-- The holders of a slot are abandoned (step 4 of R177, R178). Another erase that has passed check 8 is none of them: it joins those that
complete OK (R179). -/
def abandonHolders (s : State) (i : Nat) (st : Status) : State :=
  (holders s i).foldl (fun s h => match getReq s h with
    | some q => if erases q.op then eraseStart s h q i else killStep s h st
    | none => s) s

/-- ERASE_URGENT (R178). -/
def eraseUrgentKey (r : Nat) (s : State) : State :=
  whenReq .eraseUrg .ready r s fun q =>
    match q.slot with
    | none => s
    | some i => eraseAdvance (abandonHolders (eraseStart s r q i) i .keyErased) i

/-- ERASE_DRAIN: 50 microseconds have passed since step 1 of R177. -/
def eraseDrainEnd (slot : Nat) (s : State) : State :=
  if s.vault.erasing.contains slot then pumpAll (eraseAdvance (abandonHolders s slot .keyRevoked) slot) else s

/-! ### KEY_INFO (R173) -/

def infoBytes (s : State) (i : Nat) : Bytes :=
  let rec_ := getSlot s i
  let ent := cacheFind s i
  let sym := decide (polKind rec_.policy = 0)
  let dev := polHas rec_.policy pDeviceIv
  le 4 (handleOf s i) ++ le 1 (slotCode s i) ++ le 1 (ofBool rec_.shadow.isSome) ++ le 2 rec_.owner ++ le 8 rec_.policy ++
  fit 16 rec_.tag ++ le 4 rec_.gen ++ le 4 rec_.fixed ++
  le 8 (if dev then (ent.map CacheEnt.inv).getD rec_.invRes else 0) ++
  le 8 (if sym then (ent.map CacheEnt.blk).getD rec_.blkRes else 0) ++ le 8 (if sym then rec_.blkLim else 0)

def keyInfoOp (r : Nat) (s : State) : State :=
  whenReq .keyInfo .ready r s fun q =>
    match q.slot with
    | none => s
    | some i => if q.d.dstCap < 64 then failStep s r .destOverflow 0 else writeOut s r (infoBytes s i) .ok 64

/-! ### Generation, derivation, import and export -/

/-- GENERATE_SYM with its material drawn (R167). -/
def genSymLoaded (s : State) (r : Nat) (q : Req) : State :=
  let mat := q.drawn.take (polLen q.d.ctx)
  createSlot s r q.d.ctx (prmObj q.prm) mat (kmLimit q.d.mode) (kcvOf mat)

/-- DERIVE with its source read (R168). -/
def deriveLoaded (s : State) (r : Nat) (q : Req) : State :=
  let label := q.srcB.take q.d.aadLen
  let ctx := q.srcB.drop q.d.aadLen ++ le 8 q.d.ctx
  let n := polLen q.d.ctx
  let k := keyMat s q
  let mat := if kmSub q.d.mode = 1 then kdfHmac384 k label ctx n else kdfCmac k label ctx n
  createSlot s r q.d.ctx (prmObj q.prm) mat (kmLimit q.d.mode) []

/-- IMPORT_WRAPPED with its source read (R170). -/
def importWrapped (s : State) (r : Nat) (q : Req) : State :=
  if !kwpOk (keyMat s q) q.srcB then failStep s r .authFail 0
  else
    let b := kwpOpen (keyMat s q) q.srcB
    if kmSub q.d.mode = 0 then importPackage s r q b else importRaw s r q b

/-- EXPORT_WRAPPED (R171). -/
def exportWrapped (s : State) (r : Nat) (q : Req) : State :=
  let out := kwpWrap (secondMat s q) (packageOf (slotRec s q) (keyMat s q))
  writeOut s r out .ok out.length

/-- A loaded request: it waits for its randomness, and then computes. -/
def kmLoaded (s : State) (r : Nat) (q : Req) : State :=
  let bits := kmBits s q
  if 0 < bits ∧ q.drawn = [] then awaitWires s r bits
  else match q.op with
    | .genSym => genSymLoaded s r q
    | .derive => deriveLoaded (kmCount s q) r q
    | .impWrap => importWrapped (kmCount s q) r q
    | .impKem => importKem s r q
    | .expWrap => exportWrapped (kmCount s q) r q
    | .expKem =>
      -- its encapsulation and its ephemeral key draw from the unit's buffer (R134)
      if q.drawn = [] then
        (match rngStop s with
          | some e => failStep s r e 0
          | none => drawBuffer s r q fun s => match getReq s r with
            | some q => exportKem s r q
            | none => s)
      else exportKem s r q
    | .replace => replaceLoaded s r q
    | _ => s

/-- A key-management command acts on a request of its opcode that stands before acceptance or has its inputs. -/
def kmStep (o : Op) (r : Nat) (s : State) : State :=
  match getReq s r with
  | none => s
  | some q =>
    if q.op ≠ o then s
    else if q.phase = .ready then pumpAll (kmAccept s r q fun s q => kmLoaded s r q)
    else if q.phase = .loaded then pumpAll (kmLoaded s r q)
    else s

/-! ### The rows -/

def execGenerateSym (r : Nat) (s : State) : Out State := fin (kmStep .genSym r s)
def execDerive (r : Nat) (s : State) : Out State := fin (kmStep .derive r s)
def execImportWrapped (r : Nat) (s : State) : Out State := fin (kmStep .impWrap r s)
def execImportKem (r : Nat) (s : State) : Out State := fin (kmStep .impKem r s)
def execExportWrapped (r : Nat) (s : State) : Out State := fin (kmStep .expWrap r s)
def execExportKem (r : Nat) (s : State) : Out State := fin (kmStep .expKem r s)
def execReplace (r : Nat) (s : State) : Out State := fin (kmStep .replace r s)
def execKeyCommit (r : Nat) (s : State) : Out State := fin (commitKey r s)
def execCancel (r : Nat) (s : State) : Out State := fin (cancelKey r s)
def execErase (r : Nat) (s : State) : Out State := fin (eraseKey r s)
def execEraseDrain (slot : Nat) (s : State) : Out State := fin (eraseDrainEnd slot s)
def execEraseUrgent (r : Nat) (s : State) : Out State := fin (eraseUrgentKey r s)
def execKeyInfo (r : Nat) (s : State) : Out State := fin (keyInfoOp r s)

end Sys2Proof.Machine
end

