-- ==== Sys2Proof/Machine/Attest.lean ====
section
/-!
DEFINITION. Secrets of the unit (R337, R349), identity keys (R356 to R358), the certificate chain (R359, R360), the CBOR and COSE
forms (R362, R363), statements (R364, R365), and what VE_ATTEST and RANDOM do (R196, R365).
-/
namespace Sys2Proof.Machine

open Sys2Proof

/-! ### The unit's secrets -/

/-- Order of the NIST curve P-384 (FIPS 186-5). -/
def p384Order : Nat :=
  0xFFFFFFFFFFFFFFFFFFFFFFFFFFFFFFFFFFFFFFFFFFFFFFFFC7634D81F4372DDF581A0DB248B0A77AECEC196ACCC52973

/-- Identity private keys (R356). -/
def idEc (s : State) : Bytes :=
  be 48 (ofBe (kdfCmac (unitSecret s) (ascii "NH1600 ID-EC") (fit 48 s.bring.fwDigest) 56) % (p384Order - 1) + 1)
def idMldsa (s : State) : Bytes := kdfCmac (unitSecret s) (ascii "NH1600 ID-MLDSA") (fit 48 s.bring.fwDigest) 32

/-- Identity public keys, and UNIT_ID over them (R357). -/
def idPublic (s : State) : Bytes := publicOf 0x11 0 (idEc s) ++ publicOf 0x39 0 (idMldsa s)
def unitIdOf (s : State) : Bytes := sha384 (idPublic s)

/-! ### CBOR and COSE (R362) -/

/-- Head of an item in the core deterministic encoding of RFC 8949. -/
def cborHead (major n : Nat) : Bytes :=
  let m := 32 * major
  if n < 24 then le 1 (m + n)
  else if n < 256 then le 1 (m + 24) ++ be 1 n
  else if n < 65536 then le 1 (m + 25) ++ be 2 n
  else if n < 2 ^ 32 then le 1 (m + 26) ++ be 4 n
  else le 1 (m + 27) ++ be 8 n

def cborUint (n : Nat) : Bytes := cborHead 0 n
def cborBstr (b : Bytes) : Bytes := cborHead 2 b.length ++ b
def cborTstr (t : String) : Bytes := cborHead 3 (ascii t).length ++ ascii t
def cborArray (l : List Bytes) : Bytes := cborHead 4 l.length ++ l.flatten
/-- A map from unsigned keys. -/
def cborMap (l : List (Nat × Bytes)) : Bytes := cborHead 5 l.length ++ l.flatMap fun e => cborUint e.1 ++ e.2

/-- Protected headers of the two signatures. -/
def protEc : Bytes := [0xA1, 0x01, 0x38, 0x22]
def protMldsa : Bytes := [0xA1, 0x01, 0x38, 0x30]

/-- What one signature is computed over. -/
def sigStructure (prot payload : Bytes) : Bytes :=
  cborArray [cborTstr "Signature", cborBstr [], cborBstr prot, cborBstr [], cborBstr payload]

/-- The two signatures, over a payload; `random` hedges them. -/
def signEc (s : State) (payload random : Bytes) : Bytes :=
  primBytes (.sign 0x11 2) [idEc s, [], sigStructure protEc payload, random, le 1 0] 96
def signMldsa (s : State) (payload random : Bytes) : Bytes :=
  primBytes (.sign 0x39 0) [idMldsa s, [], sigStructure protMldsa payload, random, le 1 0] 3309

/-- One entry of the signature array, with UNIT_ID as its key identifier. -/
def coseSig (kid prot sig : Bytes) : Bytes := cborArray [cborBstr prot, cborMap [(4, cborBstr kid)], cborBstr sig]

/-- The unprotected body header: the chain at label -70001, or nothing. -/
def coseHeader (chain : Option Bytes) : Bytes :=
  match chain with
  | some c => cborHead 5 1 ++ cborHead 1 70000 ++ cborBstr c
  | none => cborHead 5 0

/-- A COSE_Sign structure of its parts: header, payload as an item, UNIT_ID and the two signatures. -/
def coseOf (header payload kid ec mldsa : Bytes) : Bytes :=
  cborHead 6 98 ++ cborArray [cborBstr [], header, payload, cborArray [coseSig kid protEc ec, coseSig kid protMldsa mldsa]]

/-- A COSE_Sign structure over a payload carried in it (`detached` false) or not. -/
def coseSign (s : State) (chain : Option Bytes) (payload : Bytes) (detached : Bool) (random : Bytes) : Bytes :=
  coseOf (coseHeader chain) (if detached then [0xF6] else cborBstr payload) (fit 48 s.bring.unitId)
    (signEc s payload (random.take 32)) (signMldsa s payload (random.drop 32))

/-- The chain in force, if a valid one is held. -/
def certChain (s : State) : Bytes := (getNvRec s 3).payload

/-- Certificates, each after its 4-byte length: `n` of them, and what is left behind them. None where a length does not fit. -/
def takeCerts : Nat → Bytes → Option (List Bytes × Bytes)
  | 0, b => some ([], b)
  | n + 1, b =>
    let k := fld b 0 4
    if 4 < b.length ∧ 0 < k ∧ 4 + k ≤ b.length then
      (takeCerts n (b.drop (4 + k))).map fun p => (slice b 4 k :: p.1, p.2)
    else none

/-- A chain taken apart (R359): the classical and the post-quantum path, leaf first. None where the layout does not parse to the chain's
length. -/
def chainPaths (b : Bytes) : Option (List Bytes × List Bytes) :=
  let nc := fld b 2 1
  let np := fld b 3 1
  if fld b 0 2 = 1 ∧ 1 ≤ nc ∧ nc ≤ 3 ∧ 1 ≤ np ∧ np ≤ 3 ∧ 2704 ≤ b.length ∧ allZero (slice b 4 4) = true ∧ allZero (slice b 2697 7) = true then
    match takeCerts nc (b.drop 2704) with
    | none => none
    | some c => match takeCerts np c.2 with
      | some p => if p.2.isEmpty then some (c.1, p.1) else none
      | none => none
  else none

/-- The layout of R359 parses. -/
def chainParses (b : Bytes) : Bool := (chainPaths b).isSome

/-- ROOT_KEYS: the maker authority's P-384 key and its ML-DSA-87 key. -/
def rootEc (b : Bytes) : Bytes := slice b 8 97
def rootMldsa (b : Bytes) : Bytes := slice b 105 2592

/-- Subject public key of a certificate, and the code of its algorithm. -/
def certKey (c : Bytes) : Bytes := primBytes .certKey [c] (Config.primLen .certKey [c])
def certAlg (c : Bytes) : Nat := fld (primBytes .certAlg [c] 1) 0 1

/-- A path from its leaf (R359, R360): every certificate is well-formed, its key valid under R127, and it is signed by the key of the next
certificate; the last one is signed by a root key with the algorithm and hash of the codes given. -/
def pathOk (alg hash : Nat) (root : Bytes) : List Bytes → Bool
  | [] => false
  | c :: t =>
    Config.test .certForm [c] && publicOk (certAlg c) ((certKey c).length / 8) (certKey c) &&
    (match t with
      | [] => Config.test (.certSigned alg hash) [root, c]
      | d :: _ => Config.test (.certSigned 0 0) [certKey d, c] && pathOk alg hash root t)

/-- The subject key of a path's leaf. -/
def leafKey (l : List Bytes) : Bytes := match l with | c :: _ => certKey c | [] => []

/-- Algorithm of a path's leaf key. -/
def leafAlg (l : List Bytes) : Nat := match l with | c :: _ => certAlg c | [] => 0

/-- R360 for a signer's two public keys, against this block's trusted hash: ECDSA P-384 with SHA-384 and ML-DSA-87 are the roots', P-384 and
ML-DSA-65 the leaves'. -/
def chainOk (s : State) (chain pub : Bytes) : Bool :=
  match chainPaths chain with
  | none => false
  | some p =>
    decide ((sha384 (slice chain 8 2689)).take 24 = makerHash s) &&
    publicOk 0x11 0 (rootEc chain) && pathOk 0x11 2 (rootEc chain) p.1 && pathOk 0x3A 0 (rootMldsa chain) p.2 &&
    decide (leafAlg p.1 = 0x11 ∧ leafAlg p.2 = 0x39 ∧ leafKey p.1 = pub.take 97 ∧ leafKey p.2 = pub.drop 97)

/-! ### Checking a SIGNATURE (R366) -/

/-- The parts of a migration SIGNATURE in the form of R362: chain, key identifier and the two signatures. None where it has another
form. -/
def coseParts (b : Bytes) : Option (Bytes × Bytes × Bytes × Bytes) :=
  let n := b.length - 3541
  let chain := slice b 13 n
  let kid := slice b (n + 25) 48
  let ec := slice b (n + 75) 96
  let mldsa := slice b (n + 232) 3309
  if 3541 < b.length ∧ b = coseOf (coseHeader (some chain)) [0xF6] kid ec mldsa then some (chain, kid, ec, mldsa) else none

/-- Leaf public keys of a chain: P-384, then ML-DSA-65. -/
def leafKeys (chain : Bytes) : Bytes := match chainPaths chain with | some p => leafKey p.1 ++ leafKey p.2 | none => []

/-- Steps 1 and 3 of R366 on a detached payload: the form, both signatures under the keys of the chain's leaves, and UNIT_ID as their
digest and as each signature's key identifier. -/
def coseOk (payload sig unit : Bytes) : Bool :=
  match coseParts sig with
  | none => false
  | some (chain, kid, ec, mldsa) =>
    let pub := leafKeys chain
    decide (kid = unit ∧ sha384 pub = unit) &&
    Config.test (.signature 0x11 2) [pub.take 97, [], sigStructure protEc payload, ec, le 1 0] &&
    Config.test (.signature 0x39 0) [pub.drop 97, [], sigStructure protMldsa payload, mldsa, le 1 0]

/-- Step 2 of R366: the chain that a SIGNATURE carries is valid for its leaves. -/
def coseChainOk (s : State) (sig : Bytes) : Bool :=
  match coseParts sig with
  | none => false
  | some (chain, _) => chainOk s chain (leafKeys chain)

/-! ### Statements (R363) -/

/-- Jubilee totals by kind. -/
def jubileeTotals (s : State) : Bytes :=
  cborArray ([Kind.seq, .lane, .hash, .pka, .kc, .port, .ns, .mov, .grp, .reg].map fun k =>
    cborUint (((List.range k.count).map fun n => (getUnit s (k.base + n)).jubilee % 2 ^ 32).foldl (· + ·) 0))

/-- Keys common to both kinds that come first. -/
def statementHead (s : State) (kind : Nat) : List (Nat × Bytes) :=
  [(1, cborUint kind), (2, cborBstr (fit 48 s.bring.unitId)), (3, cborUint 0x00020000), (4, cborUint 0x00020003),
   (5, cborBstr (fit 48 s.bring.fwDigest)), (6, cborUint (lcState s)), (7, cborUint s.life.count)]

def chainDigest (s : State) : List (Nat × Bytes) := if certChain s = [] then [] else [(19, cborBstr (sha384 (certChain s)))]

/-- Payload of the block statement (R363, R364). -/
def blockPayload (s : State) (nonce : Bytes) : Bytes :=
  cborMap (statementHead s 1 ++
    [(8, cborBstr (configDigest s)), (9, cborBstr (layoutDigest s)), (10, cborUint s.cnt.commitSer.toNat),
     (11, cborBstr nonce), (12, cborUint (nowNs s)), (13, cborUint (sinceReset s)), (14, jubileeTotals s),
     (15, cborUint (debugEnabled s)), (16, cborUint s.vault.inc), (17, cborUint (s.life.serial + 1).toNat)] ++ chainDigest s)

/-- Public key of a slot's generation (R133). -/
def attestedPub (s : State) (k : Nat × Nat) : Bytes :=
  let p := (getSlot s k.1).policy
  publicOf (polKind p) (polLen p) (entMat s (some k.1) k.2)

/-- An attested key: a slot, and the generation resolved (R156, R158). -/
def attestedKey (s : State) (k : Nat × Nat) : Bytes :=
  let r := getSlot s k.1
  cborArray [cborUint (handleOf s k.1), cborUint (polKind r.policy), cborUint r.policy, cborBstr (fit 16 r.tag), cborBstr (attestedPub s k)]

/-- The keys that a request attests. -/
def attested (q : Req) : List (Nat × Nat) := (q.slot.toList.map fun i => (i, q.gen)) ++ q.slot2.toList.map fun i => (i, q.gen2)

/-- Payload of a VE statement (R363, R365). -/
def vePayload (s : State) (f : Nat) (nonce : Bytes) (keys : List (Nat × Nat)) : Bytes :=
  cborMap (statementHead s 2 ++
    [(11, cborBstr nonce), (15, cborUint (debugEnabled s)), (16, cborUint s.vault.inc)] ++ chainDigest s ++
    [(20, cborUint f), (21, cborArray ([4, 5, 6, 7, 8, 9].map fun k => cborUint (fnCfg s f k))), (22, cborUint (slotsUsed s f)),
     (23, cborArray (keys.map (attestedKey s)))])

/-! ### Randomness of the block's own signatures (R134, R358) -/

/-- The first ready PKA unit whose buffer holds a number of bytes. -/
def pkaSupply (s : State) (n : Nat) : Option Nat :=
  (List.range 16).find? fun i => unitReady s (unitAt .pka i) && decide (n ≤ (tget [] s.rng.pkaBuf i).length)

/-- Bytes that the block's own operations on a PKA unit draw from its buffer, whose refill is asked for. -/
def pkaRandom (s : State) (n : Nat) : Bytes × State :=
  match pkaSupply s n with
  | some i =>
    let b := tget [] s.rng.pkaBuf i
    (b.take n, askWire { s with rng := { s.rng with pkaBuf := tput [] s.rng.pkaBuf i (b.drop n) } } (.pka i))
  | none => ([], s)

/-- No buffer holds enough: the units ask for their refills, and the operation waits for them (R134, R189). -/
def awaitSupply (s : State) : State :=
  ((List.range 16).filter fun i => unitReady s (unitAt .pka i)).foldl (fun s i => askWire s (.pka i)) s

/-! ### VE_ATTEST (R365) -/

/-- The statement of a request, with a given hedge. -/
def veStatement (s : State) (q : Req) (nonce random : Bytes) : Bytes :=
  coseSign s (if certChain s = [] then none else some (certChain s))
    (vePayload s q.fn nonce (attested q)) false random

/-- Check 9, the output length fixed before signing, and the reads. -/
def attestAccept (s : State) (r : Nat) (q : Req) : State :=
  if q.d.dstCap < (veStatement s q (zeros 32) []).length then failStep s r .destOverflow 0
  else match rngStop s with
    | some e => failStep s r e 0
    | none => drawBuffer s r q fun s => beginData s r

/-- The result checks of a statement (R136): the public keys of attested NIST and Edwards keys, and the P-384 signature. -/
def attestChecked (s : State) (q : Req) (random : Bytes) : Bool :=
  let pay := vePayload s q.fn q.srcB (attested q)
  ((attested q).all fun k =>
    let alg := polKind (getSlot s k.1).policy
    !curveChecked alg || Config.test (.resultCheck alg) [entMat s (some k.1) k.2, [], [], [], attestedPub s k]) &&
  Config.test (.resultCheck 0x11) [idEc s, [], [], sigStructure protEc pay, signEc s pay (random.take 32)]

/-- VE_ATTEST: acceptance, and the statement once its nonce is read. One that has grown since check 9 passes no DST_CAP (R63). -/
def veAttestOp (r : Nat) (s : State) : State :=
  match getReq s r with
  | none => s
  | some q =>
    if q.op ≠ .veAttest then s
    else if q.phase = .ready then pumpAll (attestAccept s r q)
    else if q.phase = .loaded then
      let random := q.drawn.take 64
      let out := veStatement s q q.srcB random
      if !attestChecked s q random then pumpAll (resultFails s r q)
      else if q.d.dstCap < out.length then pumpAll (failStep s r .destOverflow 0)
      else pumpAll (writeOut (countPka s) r out .ok out.length)
    else s

/-! ### RANDOM (R190, R196, R197) -/

/-- Check 9, and the read of the additional input. -/
def randomAccept (s : State) (r : Nat) : State :=
  match drbgStop s with
  | some e => failStep s r e 0
  | none => beginData s r

/-- One generate call with the additional input read. PREDICTION_RESISTANCE asks for a reseed first; a reseed, asked for or due, takes the
additional input, and the call that follows it has none (R190, SP 800-90A). -/
def randomLoaded (s : State) (r : Nat) (q : Req) : State :=
  match drbgStop s with
  | some e => failStep s r e 0
  | none =>
    if q.d.mode = 1 ∧ q.taken = false then askWire (modReq s r fun q => { q with phase := .wires }) .drbg
    else match drbgNext s (if q.taken then [] else randomAddl q) with
      | none => awaitDrbg s r
      | some t =>
        let p := drbgCall t.1 t.2 q.d.dstCap
        writeOut p.2 r p.1 .ok q.d.dstCap

/-- RANDOM: acceptance, and its generate call. -/
def randomOp (r : Nat) (s : State) : State :=
  match getReq s r with
  | none => s
  | some q =>
    if q.op ≠ .random then s
    else if q.phase = .ready then
      pumpAll (thenLoaded (randomAccept s r) r fun s q => randomLoaded s r q)
    else if q.phase = .loaded then pumpAll (randomLoaded s r q)
    else s

def execVeAttest (r : Nat) (s : State) : Out State := fin (veAttestOp r s)
def execRandom (r : Nat) (s : State) : Out State := fin (randomOp r s)

end Sys2Proof.Machine
end

