-- ==== Sys2Proof/Machine/Nv.lean ====
section
/-!
DEFINITION. The persistent store (R348 to R353) and the NV port (R313, R387): frames, banks, the record procedures and the
command that the port presents.
-/
namespace Sys2Proof.Machine

open Sys2Proof

/-! ### Records (R351, R352) -/

/-- Records by RECORD_TYPE: 1 LIFECYCLE, 2 AUTHORITY, 3 CERT_CHAIN, 4 JUBILEE, 5 BOOTCFG; 6 stands for the survey sector. -/
def surveyRec : Nat := 6

/-- First sector of a bank, sectors of a bank, bytes of a slot, slots of a bank. -/
def bankSector (rec bank : Nat) : Nat :=
  match rec with
  | 1 => bank | 2 => 2 + bank | 4 => 4 + 2 * bank | 5 => 8 + bank | 3 => 10 + 5 * bank | _ => 20
def bankSectors (rec : Nat) : Nat := match rec with | 4 => 2 | 3 => 5 | _ => 1
def slotSize (rec : Nat) : Nat := match rec with | 4 => 1024 | 3 => 20480 | _ => 256
def bankSlots (rec : Nat) : Nat := match rec with | 4 => 8 | 3 => 1 | _ => 16
def slotPages (rec : Nat) : Nat := slotSize rec / 256
def bankPages (rec : Nat) : Nat := slotPages rec * bankSlots rec

/-- PAYLOAD_LEN is the record's length. -/
def payloadLenOk (rec n : Nat) : Bool :=
  match rec with
  | 1 => decide (n = 112) | 2 => decide (n = 48) | 4 => decide (n = 752) | 5 => decide (n = 52)
  | _ => decide (1 ≤ n ∧ n ≤ 16384)

/-- Fault source of a record (R306, R350). -/
def recSource (rec : Nat) : Nat := 501 + rec

/-- Write budget of a record (R353). -/
def recBudget (rec : Nat) : Nat := match rec with | 1 => 256 | 2 => 16 | 3 => 1024 | 4 => 87660 | 5 => 100000 | _ => 0

/-! ### Copies (R348, R350) -/

def copyMac (s : State) (b : Bytes) : Bytes := primBytes .nvMac [nvKey s, b] 32

/-- The frame of a copy. -/
def copyFrame (s : State) (rec seq : Nat) (payload : Bytes) : Bytes :=
  let b := le 2 rec ++ le 2 1 ++ le 4 seq ++ le 4 payload.length ++ zeros 4 ++ payload
  let b := b ++ copyMac s b
  b ++ le 4 (crc32c b)

/-- Validity of what a slot holds. -/
def copyOk (s : State) (rec : Nat) (b : Bytes) : Bool :=
  let n := fld b 8 4
  decide (fld b 0 2 = rec) && payloadLenOk rec n && decide (52 + n ≤ b.length) &&
  decide (slice b (16 + n) 32 = copyMac s (b.take (16 + n))) && decide (fld b (48 + n) 4 = crc32c (b.take (48 + n)))

def copySeq (b : Bytes) : Nat := fld b 4 4
def copyPayload (b : Bytes) : Bytes := slice b 16 (fld b 8 4)

/-- SEQ a is newer than b. -/
def newer (a b : Nat) : Bool := let d := (a + 2 ^ 32 - b % 2 ^ 32) % 2 ^ 32; decide (1 ≤ d ∧ d ≤ 2 ^ 31 - 1)

/-- What a slot holds. -/
def slotHolds (s : State) (rec : Nat) (b : Bytes) : NvSlot :=
  if b.all fun x => decide (x = 0xFF) then .erased else if copyOk s rec b then .valid (copySeq b) else .bad

/-- The newest valid copy among the slots of a bank: sequence number and bytes. -/
def newestOf (s : State) (rec : Nat) : List Bytes → Option (Nat × Bytes)
  | [] => none
  | b :: t =>
    let r := newestOf s rec t
    if slotHolds s rec b = .valid (copySeq b) then
      (match r with
        | none => some (copySeq b, b)
        | some x => if newer x.1 (copySeq b) then r else some (copySeq b, b))
    else r

/-- A record as its two banks' bytes show it. -/
def readRecord (s : State) (rec : Nat) (b : Bytes) : NvRec :=
  let bank (k : Nat) : List Bytes := blocksOf (slotSize rec) (slice b (k * bankPages rec * 256) (bankPages rec * 256))
  let a := newestOf s rec (bank 0)
  let c := newestOf s rec (bank 1)
  let best := match a, c with
    | some x, some y => if newer y.1 x.1 then some y else some x
    | some x, none => some x
    | none, y => y
  let h (k : Nat) : List NvSlot := (bank k).map (slotHolds s rec)
  { bank0 := h 0, bank1 := h 1, seq := (best.map Prod.fst).getD 0, payload := (best.map fun x => copyPayload x.2).getD []
    valid := best.isSome, failed := best.isNone && (h 0 ++ h 1).any fun x => decide (x ≠ .erased) }

/-! ### The command on the port (R387) -/

/-- Command of a step: operation (0 READ, 1 PROGRAM, 2 ERASE), byte address, words minus one. -/
def nvCommand (j : NvJob) : Nat × Nat × Nat :=
  match j.step with
  | .readPage b p => (0, bankSector j.recId b * 4096 + 256 * p, 63)
  | .erase k => (2, (bankSector j.recId j.bank + k) * 4096, 0)
  | .program p => (1, bankSector j.recId j.bank * 4096 + j.slot * slotSize j.recId + 256 * p, 63)
  | .verify p => (0, bankSector j.recId j.bank * 4096 + j.slot * slotSize j.recId + 256 * p, 63)

/-! ### The words of a PROGRAM (R386, R387) -/

/-- A page of a slot: what its copy fills of it, and erased bytes after the CRC (R348). -/
def pageBytes (frame : Bytes) (p : Nat) : Bytes :=
  let b := slice frame (256 * p) 256
  b ++ List.replicate (256 - b.length) 0xFF

/-- NV_WDATA of a page: 64 words, the lowest address in bits 7 to 0. -/
def pageWords (frame : Bytes) (p : Nat) : List (BitVec 32) :=
  (List.range 64).map fun i => BitVec.ofNat 32 (fld (pageBytes frame p) (4 * i) 4)

/-! ### Beginning a job -/

/-- Sequence number and frame of the copy that a job writes. -/
def jobSeq (s : State) (j : NvJob) : Nat :=
  let r := getNvRec s j.recId
  if r.valid then (r.seq + 1) % 2 ^ 32 else 1
def jobFrame (s : State) (j : NvJob) : Bytes := copyFrame s j.recId (jobSeq s j) (j.write.getD [])

/-- NV_WDATA of the command in progress (R386): none but for a PROGRAM. The survey page is one of zeros (R313). -/
def nvWdata (s : State) (j : NvJob) : List (BitVec 32) :=
  match j.step with
  | .program p => pageWords (if j.recId = surveyRec then j.write.getD [] else jobFrame s j) p
  | _ => []

/-- Pages that the frame takes. -/
def framePages (s : State) (j : NvJob) : Nat := ceilDiv (jobFrame s j).length 256

/-- Slots of a bank; a bank never read holds what its record shows. -/
def bankOfRec (r : NvRec) (k : Nat) : List NvSlot := if k = 0 then r.bank0 else r.bank1

/-- Bank that holds the newest valid copy. -/
def newestBank (r : NvRec) : Option Nat :=
  if !r.valid then none
  else if r.bank0.contains (.valid r.seq) then some 0 else some 1

/-- Place a copy: its first slot that reads erased, or slot 0 after an erase (R350). -/
def placeCopy (s : State) (j : NvJob) (bank : Nat) : NvJob :=
  match (bankOfRec (getNvRec s j.recId) bank).findIdx? (fun x => decide (x = .erased)) with
  | some k => { j with bank := bank, slot := k, step := .program 0, got := [] }
  | none => { j with bank := bank, slot := 0, step := .erase 0, got := [] }

/-- The first command of a job, once the port is its. -/
def startJob (s : State) (j : NvJob) : NvJob :=
  match j.write with
  | none => { j with step := .readPage 0 0, got := [], begun := true }
  | some _ =>
    if j.recId = surveyRec then
      { j with begun := true, bank := 0, slot := if s.nv.pages < 16 then s.nv.pages else 0
               step := if s.nv.pages < 16 then .program 0 else .erase 0 }
    else
      let bank := match newestBank (getNvRec s j.recId) with | some 0 => 1 | some _ => 0 | none => 0
      { placeCopy s j bank with begun := true }

/-- Whose job it is (R23): a region's, for the chain that a request of its groups installs, or the block's own. -/
def jobTurn (s : State) (j : NvJob) : Nat :=
  match j.why with
  | .chain r => (match getReq s r with | some q => reqRegion s q | none => 4)
  | _ => 4

/-- The job that the port takes next: round-robin over the regions and the block's own, the oldest of each (R23). -/
def nvNextJob (s : State) : Option Nat :=
  (List.range 5).findSome? fun k => s.nv.jobs.findIdx? fun j => decide (jobTurn s j = (s.nv.turn + k) % 5)

/-- The port takes up a job. -/
def nvBegin (s : State) : State :=
  if s.safe || s.nv.jobs.any NvJob.begun then s
  else match nvNextJob s with
  | none => s
  | some i =>
    match s.nv.jobs[i]? with
    | none => s
    | some j =>
      { s with nv := { s.nv with jobs := startJob s j :: s.nv.jobs.eraseIdx i, progAt := s.pins.cycles, turn := (jobTurn s j + 1) % 5 } }

/-- A job joins the queue; the block has at most one NV command outstanding. -/
def nvSubmit (s : State) (j : NvJob) : State := nvBegin { s with nv := { s.nv with jobs := s.nv.jobs ++ [j] } }

def nvRead (s : State) (rec : Nat) : State := nvSubmit s { recId := rec, write := none, why := .bring, step := .readPage 0 0 }

/-- Writes of a record that are under way: each will take a sequence number. -/
def queuedWrites (s : State) (rec : Nat) : Nat := (s.nv.jobs.filter fun j => decide (j.recId = rec) && j.write.isSome).length

/-- A further write of a record would pass its budget, those under way counted (R353). -/
def overBudget (s : State) (rec : Nat) : Bool :=
  let r := getNvRec s rec
  decide (rec ≠ surveyRec ∧ rec ≠ 4 ∧ recBudget rec < (if r.valid then r.seq + 1 else 1) + queuedWrites s rec)

/-- A write within its budget; it answers whether it was made (R353). -/
def nvWrite (s : State) (rec : Nat) (payload : Bytes) (why : NvWhy) : State × Bool :=
  if overBudget s rec then (s, false)
  else (nvSubmit s { recId := rec, write := some payload, why := why, step := .program 0 }, true)

/-! ### Going on with a job (R350) -/

/-- How a command's end leaves its job. -/
inductive NvNext where
  | go (j : NvJob)
  /-- The job has ended; whether its record was read or written as it should be. -/
  | ended (ok : Bool)
  deriving DecidableEq, Repr

/-- Mark a slot of a record's bank. -/
def markSlot (s : State) (rec bank slot : Nat) (v : NvSlot) : State :=
  let r := getNvRec s rec
  let set_ (l : List NvSlot) : List NvSlot := l.set slot v
  setNvRec s rec (if bank = 0 then { r with bank0 := set_ r.bank0 } else { r with bank1 := set_ r.bank1 })

/-- An erased bank. -/
def eraseBank (s : State) (rec bank : Nat) : State :=
  let r := getNvRec s rec
  let e := List.replicate (bankSlots rec) NvSlot.erased
  setNvRec s rec (if bank = 0 then { r with bank0 := e } else { r with bank1 := e })

/-- The first attempt at a copy failed: the next erased slot, or slot 0 after an erase; a second failure is final. -/
def retryCopy (s : State) (j : NvJob) : State × NvNext :=
  let s := markSlot s j.recId j.bank j.slot .bad
  if j.tryNo = 0 then (s, .go { placeCopy s j j.bank with tryNo := 1 })
  else (raiseSrc s (recSource j.recId), .ended false)

/-- The copy has been read back (step 4 of R350). -/
def checkCopy (s : State) (j : NvJob) (b : Bytes) : State × NvNext :=
  let f := jobFrame s j
  if copyOk s j.recId b && decide (copySeq b = jobSeq s j) && decide (b.take f.length = f) && (b.drop f.length).all (fun x => decide (x = 0xFF)) then
    let seq := jobSeq s j
    let s := markSlot s j.recId j.bank j.slot (.valid seq)
    let r := getNvRec s j.recId
    (setNvRec s j.recId { r with seq := seq, payload := j.write.getD [], valid := true, failed := false }, .ended true)
  else retryCopy s j

/-- A page of the survey sector has been programmed, or the sector erased (R313). -/
def surveyStep (s : State) (j : NvJob) (err : Bool) : State × NvNext :=
  if err then (s, .ended false)
  else match j.step with
    | .erase _ => ({ s with nv := { s.nv with pages := 0 } }, .go { j with slot := 0, step := .program 0 })
    | _ =>
      ({ s with
          nv := { s.nv with pages := s.nv.pages + 1 }
          bring := { s.bring with nvProgNs := (s.pins.cycles - s.nv.progAt) * refPeriod s, survey := s.bring.survey ||| 8 } },
       .ended true)

/-- What follows a command of a record's job. Bytes that a failed read did not bring count as programmed and invalid. -/
def recordStep (s : State) (j : NvJob) (words : Bytes) (err : Bool) : State × NvNext :=
  let page := if err then zeros 256 else fit 256 words
  match j.step with
  | .readPage b p =>
    let j := { j with got := j.got ++ page }
    if p + 1 < bankPages j.recId then (s, .go { j with step := .readPage b (p + 1) })
    else if b = 0 then (s, .go { j with step := .readPage 1 0 })
    else
      let r := readRecord s j.recId j.got
      let s := setNvRec s j.recId r
      (if r.failed then raiseSrc s (recSource j.recId) else s, .ended r.valid)
  | .erase k =>
    if err then retryCopy s j
    else if k + 1 < bankSectors j.recId then (s, .go { j with step := .erase (k + 1) })
    else (eraseBank s j.recId j.bank, .go { j with slot := 0, step := .program 0 })
  | .program p =>
    if err then retryCopy s j
    else if p + 1 < framePages s j then (s, .go { j with step := .program (p + 1) })
    else (s, .go { j with step := .verify 0, got := [] })
  | .verify p =>
    let j := { j with got := j.got ++ page }
    if p + 1 < framePages s j then (s, .go { j with step := .verify (p + 1) })
    else checkCopy s j j.got

/-- The command in progress has ended (R387): the job that ended with it, if one did. -/
def nvAnswer (s : State) (words : Bytes) (err : Bool) : State × Option (NvJob × Bool) :=
  match s.nv.jobs with
  | [] => (s, none)
  | j :: t =>
    let s := if err then raiseSrc s 507 else s
    let r := if j.recId = surveyRec then surveyStep s j err else recordStep s j words err
    match r.2 with
    | .go j => ({ r.1 with nv := { r.1.nv with jobs := j :: t, progAt := r.1.pins.cycles } }, none)
    | .ended ok => ({ r.1 with nv := { r.1.nv with jobs := t } }, some (j, ok))

end Sys2Proof.Machine
end

