-- ==== Sys2Proof/Machine/Rng.lean ====
section
/-!
DEFINITION. The RNG domain (R185 to R195, R198): Advent, halts, the conditioner and its reserve, what the private wires deliver to
generators, PKA units, key generation and the CTR_DRBG, and the mask generators' seeds (R103 to R106).
-/
namespace Sys2Proof.Machine

open Sys2Proof

/-! ### Sources -/

def srcBit (n : Nat) : BitVec 8 := BitVec.ofNat 8 (2 ^ n)
def failBit (n : Nat) : BitVec 32 := BitVec.ofNat 32 (2 ^ n)

/-- Sources of this Advent that take part in it: active, and settled. -/
def advSources (s : State) : List Nat :=
  (List.range 8).filter fun n => active s (unitAt .ns n) && !s.rng.skipped.contains n

/-- A failed test of a source, by its kind (AL 8000.04, AL 8000.05). -/
def markFailure (s : State) (n : Nat) (adaptive : Bool) : State :=
  { s with rng := if adaptive then { s.rng with apt := s.rng.apt ||| failBit n }
                  else { s.rng with rct := s.rng.rct ||| failBit n } }

/-- Fault source of a noise source (R315). -/
def nsSource (n k : Nat) : Nat := unitSource (unitAt .ns n) k

/-! ### Requests that wait or draw -/

/-- Requests that wait at the private wires, exports that are still to draw, RANDOM requests in progress,
and key generations (R131, R192, R195). -/
def rngReqs (s : State) : List Nat :=
  reqsWith s fun q => decide (q.phase = .wires) ||
    (decide (q.op = .expKem ∧ q.drawn = []) && (match q.phase with | .ready | .reading | .loaded => true | _ => false)) ||
    (decide (q.op = .random) && (match q.phase with | .ready | .reading | .loaded | .writing => true | _ => false)) ||
    (decide (q.op = .keyGen) && (match q.phase with | .loaded | .running => true | _ => false))

def stopRngReqs (s : State) (st : Status) : State := pumpAll ((rngReqs s).foldl (fun s r => failStep s r st 0) s)

/-- Requests that stay at the private wires while the RNG does not run: those of the mask generators (R105), and those of the vault for
its incarnation and the context keys, which no request waits for. -/
def seedWires (s : State) : List Wire := s.rng.wires.filter fun w => match w with | .gen _ | .inc | .ctx _ => true | _ => false

/-! ### Halt and Advent -/

/-- Reserve, conditioner, CTR_DRBG and PKA buffers zeroised; what was asked of the wires but for generators and vault is dropped
(R191, R194). -/
def emptyRng (r : Rng) (wires : List Wire) : Rng :=
  { r with cond := zeros 128, held := [], reserve := [], drbg := [], calls := 0, pkaBuf := [], wires := wires }

/-- The RNG halts (R194, R195). -/
def haltRng (s : State) : State :=
  if s.rng.state = .halted then s
  else
    let s := raiseSrc { s with rng := { emptyRng s.rng (seedWires s) with state := .halted, halts := s.rng.halts + 1 } } 493
    stopRngReqs s .rngHalted

/-- Step 1 of Advent (R191, R198). The noise sources have work (R406). -/
def adventBegin (s : State) (fromReset : Bool) : State :=
  let s := ((List.range 8).map (unitAt .ns)).foldl (fun s u => modUnit s u fun r => { r with gated := false }) s
  { s with rng := { emptyRng s.rng (seedWires s) with
      state := .advent, step := .settle, fromReset := fromReset, passed := [], rerun := [], skipped := [], feeding := 0
      rct := 0, apt := 0, startup := 0, advents := s.rng.advents + 1, beganAt := s.pins.cycles } }

/-- Step 3 is over once every source that takes part has passed or has been fenced; with none left the RNG halts (R191). -/
def startUpOver (s : State) : State :=
  if s.rng.step ≠ .startUp then s
  else if (advSources s).isEmpty then haltRng s
  else if (advSources s).all s.rng.passed.contains then { s with rng := { s.rng with step := .kat } }
  else s

/-- OSCILLATOR_SETTLE: step 2 of Advent ends; a source whose oscillators did not settle takes no part (R191, R315). -/
def oscillatorSettle (failed : BitVec 8) (s : State) : State :=
  if !coreUp s || decide (s.rng.state ≠ .advent ∨ s.rng.step ≠ .settle) then s
  else
    let bad := (advSources s).filter fun n => failed.getLsbD n
    let s := bad.foldl (fun s n => raiseSrc s (nsSource n 1)) { s with rng := { s.rng with step := .startUp, skipped := bad } }
    startUpOver s

/-- START_UP_TEST in Advent (R188). -/
def startUpAdvent (n : Nat) (pass : Bool) (s : State) : State :=
  if !(advSources s).contains n then s
  else if pass then startUpOver { s with rng := { s.rng with passed := addNew s.rng.passed n } }
  else if s.rng.rerun.contains n then
    let s := { s with rng := { s.rng with startup := s.rng.startup ||| failBit n } }
    startUpOver (fenceUnit (raiseSrc s (nsSource n 0)) (unitAt .ns n))
  else { s with rng := { s.rng with rerun := addNew s.rng.rerun n } }

/-- START_UP_TEST. Outside Advent it is that of a readmitted source, which then feeds the conditioner again (R188). -/
def startUpTest (n : Nat) (pass : Bool) (s : State) : State :=
  if !coreUp s then s
  else if s.rng.state = .advent then (if s.rng.step = .startUp then startUpAdvent n pass s else s)
  else if !active s (unitAt .ns n) || s.rng.feeding.getLsbD n then s
  else if pass then { s with rng := { s.rng with feeding := s.rng.feeding ||| srcBit n } }
  else raiseSrc { s with rng := { s.rng with startup := s.rng.startup ||| failBit n } } (nsSource n 0)

/-- The known-answer tests of the conditioner and the CTR_DRBG have ended (step 4 of R191, R194, AL 8000.06 bit 31). -/
def rngTested (pass : Bool) (s : State) : State :=
  if !coreUp s then s
  else if pass then
    if s.rng.state = .advent ∧ s.rng.step = .kat then
      { s with rng := { s.rng with
          step := .fill
          feeding := BitVec.ofNat 8 (maskOf 8 fun n => (advSources s).contains n && s.rng.passed.contains n) } }
    else s
  else
    let t := { s with rng := { s.rng with startup := s.rng.startup ||| failBit 31 } }
    if s.rng.state = .advent ∧ s.rng.step ≠ .kat then s else haltRng t

/-- The blocks that absorbed a raw bit of a failing window are discarded: those that the conditioner still holds. In step 5 of Advent its
count begins again, and the reserve with it (R186, R188; DESIGN CHOICE, log 136). -/
def discardHeld (s : State) : State :=
  { s with rng := { s.rng with held := [], reserve := if s.rng.step = .fill then [] else s.rng.reserve } }

/-- HEALTH_TEST_FAILURE (R187, R188, R194, R325). -/
def healthTestFailure (n : Nat) (adaptive : Bool) (s : State) : State :=
  let u := unitAt .ns n
  if !coreUp s then s
  else if s.rng.state = .halted then markFailure s n adaptive
  else if !active s u then
    (if inTest s u || decide ((getUnit s u).state = .fenced) then raiseSrc (markFailure s n adaptive) (nsSource n 0) else s)
  else if s.rng.state = .running then
    haltRng (raiseSrc (markFailure s n adaptive) (nsSource n 0))
  else if s.rng.step = .settle ∨ s.rng.step = .startUp then s
  else
    let s := discardHeld (fenceUnit (raiseSrc (markFailure s n adaptive) (nsSource n 0)) u)
    if (advSources s).isEmpty then haltRng s else s

/-- Steps 6 and 7 of Advent (R190, R191): the CTR_DRBG is instantiated with 384 bits of the reserve and UNIT_ID as its
personalization string, and every consumer that waits may be served. -/
def adventRun (s : State) : State :=
  let d := takeReserve s 48
  let s := { d.2 with rng := { d.2.rng with
    state := .running, step := .over, drbg := primBytes .drbgSeed [zeros 48, xorB d.1 (fit 48 s.bring.unitId)] 48, calls := 0
    lastNs := (s.pins.cycles - s.rng.beganAt) * refPeriod s } }
  let s := ((List.range 34).filter fun g => !(getGen s g).seeded || (getGen s g).stopped || (getGen s g).watch || (getGen s g).grace).foldl
    (fun s g => askWire s (.gen g)) s
  ((List.range 16).filter fun n => active s (unitAt .pka n)).foldl (fun s n => askWire s (.pka n)) s

/-- ADVENT_COMPLETE: step 5 has filled the reserve of 16,384 bits (R186), and step 6 waits for UNIT_ID (R357). -/
def adventComplete (s : State) : State :=
  if coreUp s && s.bring.unitIdDone && decide (s.rng.state = .advent ∧ s.rng.step = .fill ∧ s.rng.feeding ≠ 0 ∧ 2048 ≤ s.rng.reserve.length)
  then bringWatch (adventRun s)
  else s

/-! ### The conditioner and its reserve (R185, R186) -/

/-- Sources that feed the conditioner. -/
def feedCount (s : State) : Nat := ((List.range 8).filter fun n => s.rng.feeding.getLsbD n).length

/-- The conditioner absorbs raw bits, given in bytes. -/
def absorb (s : State) (n : Nat) : State :=
  useFree { s with rng := { s.rng with cond := primBytes .condStep [s.rng.cond, freeBytes s n] 128 } } n

/-- One more output block, of 1,024 raw bits absorbed; it is held back. -/
def absorbBlock (s : State) : State :=
  let s := absorb s 128
  { s with rng := { s.rng with held := s.rng.held ++ [primBytes .condOut [s.rng.cond] 32] } }

/-- The hold of the oldest block has passed: it enters the reserve, which keeps 16,384 bits. -/
def releaseBlock (s : State) : State :=
  match s.rng.held with
  | [] => s
  | b :: t => { s with rng := { s.rng with held := t, reserve := (s.rng.reserve ++ b).take 2048 } }

/-- CONDITIONER_BLOCK_RELEASE: a block whose windows have passed is released, and the next is absorbed. In step 5 of Advent the first
4,096 raw bits of each source are absorbed and discarded (R185, R186, R191). -/
def conditionerBlockRelease (s : State) : State :=
  if coreUp s && decide (s.rng.feeding ≠ 0) && (decide (s.rng.state = .running) || decide (s.rng.state = .advent ∧ s.rng.step = .fill)) then
    let s :=
      if s.rng.held.isEmpty then absorbBlock (if s.rng.state = .advent then absorb s (512 * feedCount s) else s) else s
    absorbBlock (releaseBlock s)
  else s

/-! ### The private wires (R189) -/

/-- Bits that a request on the private wires draws. -/
def wireBits (s : State) : Wire → Nat
  | .gen _ | .ctx _ => 256
  | .pka n => 8192 - 8 * (tget [] s.rng.pkaBuf n).length
  | .key _ bits => bits
  | .inc => 64
  | .drbg => 384

/-- No incarnation begins while a life-cycle transition changes the root (R183): its value waits at the wires until then. -/
def wireHeld (s : State) (w : Wire) : Bool := s.life.busy && decide (w = .inc)

/-- The request that the reserve serves next: the lowest class, and within it the oldest. -/
def wireHead (s : State) : Option Wire :=
  [1, 2, 3, 4].findSome? fun c => s.rng.wires.find? fun w => decide (wireClass w = c) && !wireHeld s w

/-- Requests that met an uncorrectable error end with FAULT_DETECTED (R318): their own failure, and not an end from outside. Where the
source leads to the safe state, that one ends them (R410). -/
def failAll (s : State) (src : Nat) (rs : List Nat) : State :=
  if leadsSafe s src then s else pumpAll (rs.foldl (fun s r => failWork s r .faultDetected) s)

/-- The watch of a lane's mask generator trips (R103): the lane's uncorrectable source, and what is on the lane ends, unless the source
fences the lane (R17, R318). -/
def laneWatch (s : State) (n : Nat) : State :=
  let u := unitAt .lane n
  let src := unitSource u 1
  raiseSrc (if reactionOf s src = .fence && active s u then s else failAll s src (reqsWith s (usesUnit u))) src

/-- A seed reaches a generator and replaces its 256-bit state (R104, R106). A lane that had stopped, or had no seed, runs its
known-answer tests again, one that the watch of R103 had stopped among them (DESIGN CHOICE, log 176); the walker and the CTR_DRBG pipeline
stay stopped until theirs have ended. A state of zeros fails the watch: the unit takes no block until the next seed, which it asks for. -/
def seedGen (s : State) (g : Nat) (seed : Bytes) : State :=
  let r := getGen s g
  let dead := allZero seed
  let restart := decide (g < 32) && (!r.seeded || r.stopped || r.watch)
  let s := setGen s g { r with
    state := seed, seeded := true, grace := false, stopped := decide (32 ≤ g) && (r.stopped || r.watch), watch := dead }
  let s := if restart then modUnit s (unitAt .lane g) fun u => { u with tested := false } else s
  if !dead then s
  else
    let s := askWire s (.gen g)
    if g < 32 then laneWatch s g else s

/-- A PKA buffer is full; the requests that waited for it go on (R134). -/
def fillBuffer (s : State) (n : Nat) (b : Bytes) : State :=
  let s := { s with rng := { s.rng with pkaBuf := tput [] s.rng.pkaBuf n (tget [] s.rng.pkaBuf n ++ b) } }
  (reqsWith s fun q => decide (q.phase = .wires ∧ q.resume ≠ .drbg ∧ q.unit = some (unitAt .pka n) ∧ q.op ≠ .keyGen ∧ q.op ≠ .replace)).foldl
    (fun s r => modReq s r fun q => { q with phase := if q.op = .expKem then .loaded else .ready }) s

/-- The draw of a key-generation request arrives. -/
def giveKey (s : State) (r : Nat) (b : Bytes) : State :=
  modReq s r fun q => if q.phase = .wires ∧ q.resume ≠ .drbg then { q with drawn := b, phase := .loaded } else q

/-- Requests that wait for a reseed of the CTR_DRBG: one that is due, or the prediction resistance of a RANDOM. -/
def drbgWaiters (s : State) : List Nat := reqsWith s fun q => decide (q.phase = .wires ∧ (q.resume = .drbg ∨ q.op = .random))

/-- The one of them that the CTR_DRBG takes first: round-robin over the regions, the oldest of a region (R23). -/
def drbgFirst (s : State) : Option Nat :=
  (List.range 4).findSome? fun k => (drbgWaiters s).find? fun r =>
    match getReq s r with | some q => decide (reqRegion s q = (s.rng.turn + k) % 4) | none => false

/-- The CTR_DRBG has a reseed, which takes the additional input of the request that it serves first; that request's generate call then has
none (R190, SP 800-90A). The others that waited for a reseed that was due go on, and each that asked for prediction resistance asks for
its own. -/
def giveDrbg (s : State) (seed : Bytes) : State :=
  match (drbgFirst s).bind fun r => (getReq s r).map fun q => (r, q) with
  | none => drbgReseed s seed []
  | some (r, q) =>
    let s := drbgReseed s seed (randomAddl q)
    let s := setReq { s with rng := { s.rng with turn := (reqRegion s q + 1) % 4 } } r
      (some { q with phase := .loaded, taken := q.taken || decide (q.op = .random) })
    let s := (reqsWith s fun q => decide (q.phase = .wires ∧ q.resume = .drbg)).foldl (fun s r => modReq s r fun q => { q with phase := .loaded }) s
    if (drbgWaiters s).isEmpty then s else askWire s .drbg

/-! ### Mask generators and the CTR_DRBG -/

/-- RESEED_DUE (R104, R105): the generator asks for its seed, and one that runs goes on in its grace until it arrives. -/
def reseedDue (g : Nat) (s : State) : State :=
  let r := getGen s g
  if !coreUp s || !decide (g < 34) || !r.seeded then s
  else askWire (setGen s g { r with grace := r.grace || (!r.stopped && !r.watch) }) (.gen g)

/-- A lane stops (R105, R327). -/
def laneStopped (s : State) (n : Nat) : State :=
  let u := unitAt .lane n
  failWith s [unitSource u 3] fun s => pumpAll ((reqsWith s (usesUnit u)).foldl (fun s r => killStep s r .rngHalted) s)

/-- RESEED_GRACE (R105, R189). -/
def reseedGrace (g : Nat) (s : State) : State :=
  let r := getGen s g
  if !coreUp s || !decide (g < 34) || !r.grace then s
  else
    let s := setGen s g { r with grace := false, stopped := true }
    if g < 32 then laneStopped s g
    else if g = walkerGen then
      -- the fetches that the walker works on end with it; an update that it has begun runs to its end
      pumpAll ((s.vault.fetches.map VFetch.req).foldl (fun s r => failStep s r .rngHalted 0) s)
    else if g = drbgGen then
      pumpAll ((reqsWith s fun q => decide (q.op = .random ∧ (q.phase = .ready ∨ q.phase = .loaded ∨ q.phase = .reading ∨ q.phase = .wires))).foldl
        (fun s r => failStep s r .rngHalted 0) s)
    else s

/-- DRBG_RESEED (R190). -/
def drbgReseedDue (s : State) : State := if coreUp s && decide (s.rng.state = .running) then askWire s .drbg else s

/-! ### The rows -/

def execHealthTestFailure (n : Nat) (adaptive : Bool) (s : State) : Out State := fin (healthTestFailure n adaptive s)
def execOscillatorSettle (failed : BitVec 8) (s : State) : Out State := fin (oscillatorSettle failed s)
def execStartUpTest (n : Nat) (pass : Bool) (s : State) : Out State := fin (startUpTest n pass s)
def execAdventComplete (s : State) : Out State := fin (adventComplete s)
def execConditionerBlockRelease (s : State) : Out State := fin (conditionerBlockRelease s)
def execReseedDue (g : Nat) (s : State) : Out State := fin (reseedDue g s)
def execReseedGrace (g : Nat) (s : State) : Out State := fin (reseedGrace g s)
def execDrbgReseed (s : State) : Out State := fin (drbgReseedDue s)

end Sys2Proof.Machine
end

