-- ==== Sys2Proof/Machine/Bring.lean ====
section
/-!
DEFINITION. Warm reset (R302, R303, R180, R268) and bring-up (R304 to R314): its beginning, the steps that events end, what
the NV records bring (R306, R337, R352), a new vault incarnation (R181) and the vault's own bring-up (step 12).
-/
namespace Sys2Proof.Machine

open Sys2Proof

/-! ### Warm reset (R302, R303) -/

/-- A unit over a block reset (R302, R324). -/
def warmUnit (r : UnitRec) : UnitRec :=
  { r with
    state := match r.state with
      | .fenced | .vigil | .selfTest | .retired => .selfTest
      | .outOfService => .outOfService
      | .active => if r.draining then .outOfService else .active
    tested := false, noJub := false, draining := false, kat := false, gated := false, skew := false }

/-- ACTION_STATUS after a warm reset that met an action (R268). -/
def warmAct (r : FnRec) : Nat :=
  match r.act with
  | none => r.actStatus
  | some a => match a.kind with
    | .reset => 2
    | .release => if r.state = .destroying ∨ (r.state = .absent ∧ r.mig = .released) then 0x1A else 0x1B
    | _ => 0x1B

/-- A function record over a warm reset (R303, R268). A reset held on a RESTORED function stays held until its COMMIT. -/
def warmFn (r : FnRec) : FnRec :=
  { r with
    state := match r.state with
      | .running | .quiesced | .resetting => if r.hostEnable then .running else .quiesced
      | .freezing => .frozen
      | st => st
    frozenMark := r.frozenMark || decide (r.state = .freezing)
    actStatus := warmAct r, act := none, held := 0, ctxCtr := r.ctxRes, skew := false, restart := false, atHand := false
    resetHeld := r.resetHeld && decide (r.state = .restored) }

/-- A ring over a warm reset: step 3 of R40, with every request, entry and interrupt gone. -/
def warmRing (s : State) (n : Nat) : State :=
  modRing (ringOff s n) n fun r => { r with open_ := 0, ffOpen := 0, coal := 0, thaw := .disabled }

/-- A channel over a warm reset returns to its defaults in the same hands (R222). -/
def warmChan (s : State) (c : Nat) : State := modChan s c fun r => { owner := r.owner, local_ := r.local_ }

/-- Committed values that a warm reset does not keep (R302, R303): those of channels and timers, and the ring commands. -/
def warmDrops (key : Nat) : Bool :=
  decide ((0xA000 ≤ key / 256 ∧ key / 256 ≤ 0xA10F) ∨ (0x5000 ≤ key / 256 ∧ key / 256 ≤ 0x5FFF ∧ key % 256 = 9))

/-- Updates that a warm reset lets run on (R180): the one in progress. -/
def runningUpd (s : State) : List VUpd := ((s.vault.updates.take 1).filter VUpd.begun).map fun u => { u with req := none }

/-- The core domains' own state over a warm reset. A slot that was ERASING on die alone is noted: an erase is never undone (R177). -/
def warmCore (s : State) : State :=
  { s with
    safe := false, raised := [], bring := {}, cnt := {}, fstat := [], gens := [], cache := []
    cfg := s.cfg.filter fun e => !warmDrops e.1
    txns := s.txns.filter fun t => !t.quar
    alarms := { s.alarms with eraseCount := 0 }
    vault := { s.vault with
      ready := false, nodes := [], frames := [], fetches := [], erasing := [], testShut := false, updates := runningUpd s
      noted := s.vault.erasing.foldl addNew s.vault.noted }
    rng := { advents := s.rng.advents, halts := s.rng.halts, lastNs := s.rng.lastNs, reseeds := s.rng.reseeds }
    mgmt := { eid := s.mgmt.eid, last := s.mgmt.last }
    nv := { keepJub s.nv with jobs := [], retry := none }
    life := { s.life with challenge := none, dbgChal := none, debugEn := 0, busy := false, draining := false, serial := 0 }
    tap := { s.tap with factory := false, wrapper := false, wso := false }
    pins := { s.pins with quiescent := (runningUpd s).isEmpty } }

/-- A warm reset takes hold. The creations that the walker had not begun give back their slots (R159, R180); those whose slots stand are
freed in step 12 (R130). -/
def warmReset (s : State) : State :=
  let s := { s with txns := s.txns.map fun t => match t.own with | .vupd | .vupdR _ => t | _ => { t with cut := true } }
  let s := withdrawAll (disown (dropUpds (noteUnnamed s) fun u => !u.begun) fun o => match o with | .vupd | .vupdR _ => false | _ => true)
  let s := allUnits.foldl (fun s u => modUnit s u warmUnit) (warmCore s)
  let s := (s.fns.map Prod.fst).foldl (fun s f => modFn s f warmFn) s
  let s := (s.rings.map Prod.fst).foldl warmRing s
  let s := (s.chans.map Prod.fst).foldl warmChan s
  alarmOver (holdWarm (rehomeIdle s))

/-! ### Step 1 -/

/-- Bring-up begins once both resets are released and the block is quiescent (R302, R304). -/
def tryBegin (s : State) : State :=
  if s.pins.poRstLow || s.pins.blkRstLow || !s.pins.quiescent || s.bring.begun then s
  else adventBegin { s with bring := { s.bring with begun := true } } false

/-! ### Step 4 (R304, R314, R357) -/

/-- Steps 2 and 3 are over, and a sequencer has passed its self-test. -/
def fourDue (s : State) : Bool :=
  coreUp s && !s.bring.almanacUp && decide (s.bring.fuseCount = 16) && s.bring.clockDone && anyReady s .seq none

/-- Step 4: the ROM digest is taken and the Almanac answers; the two ports are asked for their capabilities, the lookup port by a query of
kind 1 with QID 0 (R314, R394, R395), and the records of step 5 are read. -/
def stepFour (s : State) : State :=
  let s := { s with bring := { s.bring with
    almanacUp := true, fwDigest := primBytes .romDigest [] 48, peerWait := true, lookupWait := true } }
  let s := { s with lookup := { s.lookup with queries := s.lookup.queries ++ [{ qid := 0, req := 0, kind := 1 }] } }
  nvRead (nvRead (sendPeer s { type := 0x01 }) 1) 5

/-- Bring-up goes on where its next step is due. -/
def bringAdvance (s : State) : State := bringWatch (if fourDue s then stepFour s else s)

/-- FUSE_READ (R388, R389): one word, in order; the check follows the last. -/
def fuseRead (word : BitVec 4) (answer : Option (BitVec 32)) (s : State) : State :=
  if !coreUp s || decide (s.bring.fuseCount = 16 ∨ s.bring.fuseCount ≠ word.toNat) then s
  else match answer with
    | none => bringAdvance (raiseSrc { s with bring := { s.bring with fuseCount := 16 } } 508)
    | some v =>
      let s := { s with bring := { s.bring with
        fuse := tput 0 s.bring.fuse word.toNat v.toNat, fuseCount := s.bring.fuseCount + 1 } }
      if s.bring.fuseCount < 16 then s
      else if crc32c (fuseBytes s 0 56) = tget 0 s.bring.fuse 15 then bringAdvance { s with bring := { s.bring with fuseOk := true } }
      else bringAdvance (raiseSrc s 508)

/-- A clock lies in its range (R27, R368), and the strap is not the reserved one. -/
def clocksOk (s : State) (core port mgmt : Nat) : Bool :=
  decide (s.pins.refSel ≠ 3 ∧ 400000 ≤ core ∧ core ≤ 1600000 ∧ 250000 ≤ port ∧ port ≤ 1000000 ∧ 100000 ≤ mgmt ∧ mgmt ≤ 400000)

/-- CLOCK_SURVEY (R310). -/
def clockSurvey (core port mgmt : Nat) (s : State) : State :=
  if !coreUp s || s.bring.clockDone then s
  else
    let s := { s with bring := { s.bring with coreKhz := core, portKhz := port, mgmtKhz := mgmt, clockDone := true } }
    if clocksOk s core port mgmt then bringAdvance { s with bring := { s.bring with survey := s.bring.survey ||| 2 } }
    else bringAdvance (raiseSrc s 512)

/-- HANDSHAKE_TIMEOUT (R314). -/
def handshakeTimeout (lookup : Bool) (s : State) : State :=
  if !coreUp s then s
  else if lookup then
    { s with bring := { s.bring with lookupWait := false }
             lookup := { s.lookup with queries := s.lookup.queries.filter fun k => decide (k.kind ≠ 1) } }
  else { s with bring := { s.bring with peerWait := false } }

/-! ### The records (R306, R337, R352) -/

/-- The entries of the BOOTCFG record, in its order. -/
def bootEntries : List (Nat × Nat) := [(0x2020, 0x11), (0x2020, 0x12), (0x2020, 0x14), (0x2020, 0x1B), (0x7000, 1), (0x7000, 2)]

/-- Length of an entry's value. -/
def entryLen (i sub : Nat) : Nat := match entryAt i sub with | some e => e.ty.len | none => 0

/-- Payload of BOOTCFG: the item form of R294. -/
def bootPayload (s : State) : Bytes := bootEntries.flatMap fun e => le 2 e.1 ++ le 1 e.2 ++ entryValue s e.1 e.2

/-- Commit the values of a payload. -/
def loadItems : List (Nat × Nat) → Bytes → State → State
  | [], _, s => s
  | e :: t, b, s =>
    let n := entryLen e.1 e.2
    loadItems t (b.drop (3 + n)) (cfgSet s e.1 e.2 (fld b 3 n))

/-- What BOOTCFG brings. A warm reset keeps the committed values; a failed record makes them defaults in every case. -/
def bootRead (s : State) : State :=
  let r := getNvRec s 5
  let s :=
    if r.failed then bootEntries.foldl (fun s e => cfgSet s e.1 e.2 (entryDflt e.1 e.2)) s
    else if r.valid && !s.nv.jubLoaded then loadItems bootEntries r.payload s
    else s
  { s with bring := { s.bring with bootRead := true } }

/-- LIFECYCLE counts as failed (R306). -/
def lifeFails (s : State) : State := { s with bring := { s.bring with lcFailed := true } }

def codePhase (n : Nat) : LcPhase :=
  match n with | 1 => .verified | 2 => .keysDestroyed | 3 => .stateWritten | 4 => .done | _ => .none

/-- The fields of a LIFECYCLE payload. -/
def loadLife (s : State) (b : Bytes) : State :=
  let s := { s with life := { s.life with
    state := fld b 0 1, target := fld b 1 1, phase := codePhase (fld b 2 1), count := fld b 4 4, mask := fld b 8 4
    newAuth := slice b 16 48, digest := slice b 64 48 } }
  let s := if 2 ≤ s.life.state then cfgSet s 0x6010 7 s.life.mask else s
  match s.life.phase with
  | .verified | .keysDestroyed | .stateWritten => { s with bring := { s.bring with resume := true } }
  | _ => s

/-- What LIFECYCLE brings: the floor is checked against its state, and against an absent record (R337). -/
def lifeRead (s : State) : State :=
  let r := getNvRec s 1
  let s :=
    if r.failed then lifeFails s
    else if r.valid then
      (if fld r.payload 0 1 < lcFloor s then lifeFails (raiseSrc s 502) else loadLife s r.payload)
    else if lcFloor s ≠ 0 then lifeFails (raiseSrc s 502)
    -- an absent record: MAKER, with nothing recorded (R337, R354)
    else { s with life := { s.life with
        state := 0, count := 0, phase := .none, target := 255, newAuth := [], digest := zeros 48, mask := 15 } }
  { s with bring := { s.bring with lcRead := true } }

/-- The port survey (R312): sixteen reads on every port that is active, if an address is set. -/
def probeAll (s : State) : State :=
  let ps := (List.range 16).filter fun p => active s (unitAt .port p)
  if cfgGet s 0x2020 0x11 = 0 ∨ ps.isEmpty = true then s
  else
    let s := { s with bring := { s.bring with probing := true, probesLeft := ps.foldl (fun t p => tput 0 t p 16) [] } }
    ps.foldl (fun s p => probePort s p false) s

/-- The rest of step 8: the chain, the counts, and the measured page program (R313). -/
def stepEight (s : State) : State :=
  nvSubmit (nvRead (nvRead s 3) 4) { recId := surveyRec, write := some (zeros 256), why := .survey, step := .program 0 }

/-- Step 5 has ended: ports are probed, and AUTHORITY is read. -/
def stepFive (s : State) : State := if s.bring.lcRead && s.bring.bootRead then nvRead (probeAll s) 2 else s

/-- The jubilee counts, loaded once after power-on (R326); a failed record is written anew. -/
def jubileeRead (s : State) : State :=
  let r := getNvRec s 4
  if s.nv.jubLoaded then { s with nv := { s.nv with jubDirty := s.nv.jubDirty || r.failed } }
  else
    let s := if r.valid then allUnits.foldl (fun s u => modUnit s u fun x => { x with jubilee := x.jubilee + fld r.payload (4 * u) 4 }) s
             else s
    { s with nv := { s.nv with jubLoaded := true, jubDirty := s.nv.jubDirty || r.failed } }

/-- The survey page is over, and step 8 with it (R306, R313). -/
def surveyOver (s : State) : State := bringWatch { s with bring := { s.bring with nvDone := !s.bring.lcFailed } }

/-! ### Incarnations (R181 to R183, R256) -/

/-- The vault's content is gone: every slot FREE with epoch 0, every cached copy zeroised, quotas returned. -/
def emptyVault (s : State) : State :=
  let s := s.vault.updates.foldl unassign s
  let s := disown { s with cache := [] } fun o => match o with | .vfetch _ | .vupd | .vupdR _ => true | _ => false
  let s := { s with vault := { ready := false, inc := s.vault.inc, wcount := s.vault.wcount, nextId := s.vault.nextId
                               turn := s.vault.turn, fresh := true, testShut := s.vault.testShut } }
  (s.fns.map Prod.fst).foldl (fun s f => modFn s f fun r =>
    { r with slotsUsed := 0, largeUsed := 0, shadUsed := 0, lostSlots := 0, lostLarge := 0, lostShad := 0 }) s

/-- Requests that hold a reference, or whose vault update the end of the vault's content cuts off. -/
def vaultUsers (s : State) : List Nat :=
  reqsWith s fun q => q.refHeld || (match q.phase with | .vault | .erase => true | _ => false) ||
    decide (q.phase = .ended ∧ (q.resume = .erase ∨ q.resume = .create))

/-- Such a request ends with KEY_ERASED, or with the status that it had. -/
def cutShort (s : State) (r : Nat) : State :=
  match getReq s r with
  | none => s
  | some q =>
    let s := setReq s r (some { q with newSlot := none, resSlot := false, resLarge := false, resShad := false })
    if q.phase = .ended then endFailed s r q.status q.result else killStep s r .keyErased

/-- Context keys that are still to be drawn: those of existing functions that have none in this incarnation, and of functions
commanded into being. -/
def drawMissing (s : State) : State :=
  let missing := (presentFns s).filter (fun f => (getFn s f).ctxKey.isEmpty) ++
    (s.fns.filter fun e => decide (e.1 ≠ 0 ∧ e.2.state = .absent ∧ fnCfg s e.1 1 = 1)).map Prod.fst
  missing.foldl drawCtx s

/-- A new incarnation (R181): its value, and every context key of the former one gone (R256). -/
def incarnate (s : State) (b : Bytes) : State :=
  let s := { s with vault := { s.vault with inc := ofLe b, fresh := false } }
  (presentFns s).foldl (fun s f => modFn s f fun r => { r with ctxKey := [], ctxCtr := 0, ctxRes := 0 }) s

/-! ### Step 12 -/

/-- Slots that were left ERASING. -/
def erasingSlots (s : State) : List Nat :=
  (s.vault.slots.filter fun e => decide (slotCode s e.1 = 3) && !s.vault.damaged.contains (leafSlot e.1) && !freeing s e.1).map Prod.fst

/-- The contents recorded before a cut update are written back (R331). -/
def writeBackCut (s : State) : State :=
  if s.vault.writeBack.isEmpty then s
  else
    let r := vaultWrites s (anyRegion s) 0 (s.vault.writeBack.map Prod.snd)
    { r.1 with vault := { r.1.vault with
      updates := [{ ops := [], lines := (s.vault.writeBack.map Prod.fst).eraseDups, outst := r.2, tryNo := 2, begun := true }] } }

/-- Functions in a state, ascending. -/
def fnsIn (s : State) (st : VeState) : List Nat := (s.fns.filter fun e => decide (e.2.state = st)).map Prod.fst

/-- A freeze that the reset completed (R303): its mark and the replacements that it cancels. -/
def refreeze (s : State) (f : Nat) : State :=
  if (replacingSlots s f).isEmpty then s
  else (replacingSlots s f).foldl (fun s i => submitUpd s [.cancel i] none) (submitUpd s [.freeze f true] none)

/-- A function that COMMIT of a migration had brought to life when the reset came, its update still to be made (R268). -/
def rethaw (s : State) (f : Nat) : State := if (getFn s f).mig = .none then submitUpd s [.freeze f false] none else s

/-- A destruction that the reset met is completed. A release keeps what its receipt needs (R268). With no vault region there is nothing to
free, and the function is gone at once. -/
def redestroy (s : State) (f : Nat) : State :=
  let rel := (getFn s f).image.isSome
  if absenting s f then s else if vaultBase s = 0 then makeAbsent s f rel else queueDestroy s f rel

/-- The updates of step 12. A thaw or destruction that a frozen function was commanded to, and the reset met, follows. -/
def vaultTidy (s : State) : State :=
  let s := (erasingSlots s).foldl (fun s i => submitUpd s [.free i] none) (writeBackCut s)
  let s := (fnsIn s .frozen).foldl (fun s f => veCommand (refreeze s f) f) s
  let s := (fnsIn s .restored).foldl rethaw s
  drawMissing ((fnsIn s .destroying).foldl redestroy s)

/-- Steps 5, 9 and 10 are over, and the vault may be opened in this state (R304, R346): not while a transition changes it (R183). -/
def vaultDue (s : State) : Bool :=
  coreUp s && !s.safe && s.bring.bootRead && mayServe s && !s.life.busy && !s.bring.vaultDone && decide (s.rng.state ≠ .advent) &&
  (!s.vault.fresh || decide (s.rng.state = .running))

/-- Step 12 goes on with the incarnation at hand. The vault is ready once the updates that it queues are over. -/
def vaultOpen (s : State) : State := bringWatch (vaultTidy { s with bring := { s.bring with vaultDone := true } })

/-- The incarnation value arrives (R181): the vault goes on with its bring-up, or, in service, with the keys that it brings. -/
def giveInc (s : State) (b : Bytes) : State :=
  if !s.vault.fresh then s
  else
    let s := incarnate s b
    if vaultDue s then vaultOpen s else bringWatch (drawMissing s)

/-- The incarnation value is drawn: at once where the reserve can serve it, else it is asked for on the private wires (R189). -/
def drawInc (s : State) : State :=
  match takeNow s 8 3 with
  | some d => giveInc d.2 d.1
  | none => askWire s .inc

/-- VAULT_BRINGUP. With VAULT_BASE zero the vault is not ready, and no incarnation is drawn (R181, R184). -/
def vaultBringup (s : State) : State :=
  if !vaultDue s then s
  else if s.vault.fresh && decide (vaultBase s ≠ 0) then drawInc s
  else vaultOpen s

/-! ### PRIVATE_WIRE_DELIVERY (R189) -/

/-- What a delivery brings. -/
def delivered (s : State) (w : Wire) (b : Bytes) : State :=
  match w with
  | .gen g => seedGen s g b
  | .pka n => fillBuffer s n b
  | .key r _ => giveKey s r b
  | .inc => giveInc s b
  | .ctx f => giveCtx s f b
  | .drbg => giveDrbg s b

/-- PRIVATE_WIRE_DELIVERY: served whole or not at all. -/
def privateWireDelivery (s : State) : State :=
  if !coreUp s || decide (s.rng.state ≠ .running) then s
  else match wireHead s with
    | none => s
    | some w =>
      let n := ceilDiv (wireBits s w) 8
      if s.rng.reserve.length < n then s
      else
        let d := takeReserve { s with rng := { s.rng with wires := s.rng.wires.filter fun x => decide (x ≠ w) } } n
        bringWatch (delivered d.2 w d.1)

/-- IDENTITY_KEYS_DERIVED: once the fuses are read and the ROM digest is taken, the sequencers have computed the public keys and UNIT_ID
(R357); once the PKA units are ready, the private keys are loaded (R358, step 14 of R304). -/
def identityKeysDerived (s : State) : State :=
  if !coreUp s || !s.bring.almanacUp then s
  else if !s.bring.unitIdDone then { s with bring := { s.bring with unitIdDone := true, unitId := unitIdOf s } }
  else if readyBit s none 3 then { s with bring := { s.bring with identity := true } }
  else s

def execPrivateWireDelivery (s : State) : Out State := fin (privateWireDelivery s)

end Sys2Proof.Machine
end

