-- ==== Sys2Proof/Machine/Groups.lean ====
section
/-!
DEFINITION. Commit groups (R277 to R279): pending copies, the rules of each group (R33, R34, R184, R202, R219, R239, R249, R295,
R297, R316, R321) and the effects of an applied COMMIT on rings (R34, R40), channels (R222), timers (R220), units (R324) and
functions (R240 to R243, R257, R258).
-/
namespace Sys2Proof.Machine

open Sys2Proof

/-! ### Pending copies (R277) -/

def findPend (s : State) (g : Nat) : Option Pending := s.mgmt.pend.find? fun p => decide (p.group = g)

/-- Value staged for an entry. -/
def pendVal (p : Pending) (i sub : Nat) : Option Bytes :=
  (p.vals.find? fun e => decide (e.1 = 256 * i + sub)).map Prod.snd

/-- The committed values of a group, as its pending copy begins. -/
def committedVals (s : State) (g : Nat) : List (Nat × Bytes) := (groupEntries g).map fun e => (256 * e.1 + e.2, entryValue s e.1 e.2)

/-- Stage a value: the first write makes the writer the holder, and the copy is taken from the committed values. -/
def stage (s : State) (prin : Principal) (g i sub : Nat) (v : Bytes) : State :=
  let p := (findPend s g).getD { group := g, holder := prin, vals := committedVals s g }
  let p := { p with vals := (p.vals.filter fun e => decide (e.1 ≠ 256 * i + sub)) ++ [(256 * i + sub, v)] }
  { s with mgmt := { s.mgmt with pend := (s.mgmt.pend.filter fun x => decide (x.group ≠ g)) ++ [p] } }

/-- The committed state as it would be with the pending values of a group: scalar entries only. -/
def candidate (s : State) (g : Nat) : State :=
  match findPend s g with
  | none => s
  | some p => p.vals.foldl (fun s e =>
      match entryAt (e.1 / 256) (e.1 % 256) with
      | some x => if x.ty.isOct then s else cfgSet s (e.1 / 256) (e.1 % 256) (ofLe e.2)
      | none => s) s

/-! ### Rules of the groups -/

/-- An entry of scalar type differs between two states. -/
def differs (s t : State) (i sub : Nat) : Bool := decide (cfgGet s i sub ≠ cfgGet t i sub)

/-- Every entry of the group is legal (check 6). -/
def groupLegal (t : State) (g : Nat) : Bool :=
  (groupEntries g).all fun e => match entryAt e.1 e.2 with
    | some x => x.ty.isOct || legalValue x (cfgGet t e.1 e.2)
    | none => true

/-- An IDLE-class entry of an index changes. -/
def idleChanges (s t : State) (i : Nat) : Bool :=
  (rwsSubs i).any fun sub => match entryAt i sub with
    | some x => decide (x.cls = .idle) && differs s t i sub
    | none => false

/-- First refusal in the order of R283. -/
def firstCode (l : List (Bool × AapCode)) : Option AapCode := (l.find? Prod.fst).map Prod.snd

/-- Version that a ring negotiates (R34). -/
def negotiate (offer : Nat) : Nat := if offer.testBit 2 then 3 else if offer.testBit 1 then 2 else if offer.testBit 0 then 1 else 0

/-- A restored function's rings and channels take only the changes that R263 names. -/
def restoredOnly (s t : State) (owner : Option Nat) (i : Nat) (free_ : List Nat) : Bool :=
  match owner with
  | some f => decide ((getFn s f).state = .restored) &&
      (rwsSubs i).any fun sub => !free_.contains sub && differs s t i sub
  | none => false

/-- R263 lets this group change although its unit is not idle. -/
def isRestored (s : State) (owner : Option Nat) : Bool :=
  match owner with | some f => decide ((getFn s f).state = .restored) | none => false

/-- R249: VECTOR lies below the owner's VECTOR_COUNT. -/
def vectorBad (t : State) (owner : Option Nat) (v : Nat) : Bool :=
  match owner with | some f => decide (fnCfg t f 9 ≤ v) | none => false

/-- Two rings of a pair overlap (R33). Both use the pair's own PASID. -/
def ringsOverlap (t : State) (n : Nat) : Bool :=
  let k := 2 ^ ringCfg t n 4
  let rq := ringCfg t n 3
  let cq := ringCfg t n 5
  decide (rq < cq + 16 * k ∧ cq < rq + descSize (negotiate (ringCfg t n 7)) * k)

/-- A ring's base is zero or not 4 KiB aligned. -/
def baseBad (a : Nat) : Bool := decide (a = 0 ∨ a % 4096 ≠ 0)

/-- R33, R34, R249, R263. -/
def ringRefusal (s t : State) (n : Nat) : Option AapCode :=
  let r := getRing s n
  let i := 0x5000 + n
  let enabling := decide (ringCfg s n 9 = 0 ∧ ringCfg t n 9 = 1)
  firstCode
    [ (enabling && decide (negotiate (ringCfg t n 7) = 0), .version),
      (r.owner.any (restoring s), .busy),
      (restoredOnly s t r.owner i [6], .busy),
      (idleChanges s t i && decide (r.state ≠ .disabled) && !isRestored s r.owner, .busy),
      (enabling && ringDrains s n, .busy),
      (enabling && (r.owner.isNone || baseBad (ringCfg t n 3) || baseBad (ringCfg t n 5) || ringsOverlap t n), .inconsistent),
      (decide (1 < ringCfg t n 0x10 ∧ ringCfg t n 0x11 = 0), .inconsistent),
      (vectorBad t r.owner (ringCfg t n 0x12), .inconsistent) ]

/-- R202, R249, R263. -/
def chanRefusal (s t : State) (c : Nat) : Option AapCode :=
  let r := getChan s c
  let i := 0xA000 + c
  let after := chanCfg t c 9
  firstCode
    [ (r.owner.any (restoring s), .busy),
      (restoredOnly s t r.owner i [4, 8], .busy),
      (idleChanges s t i && decide (r.state ≠ .disabled) && !isRestored s r.owner, .busy),
      (decide (chanCfg s c 5 = 0 ∧ chanCfg t c 5 = 1) && (r.owner.isNone || decide (chanCfg t c 3 = 0 ∨ chanCfg t c 3 % 64 ≠ 0)), .inconsistent),
      (decide (after ≠ 0xFFFF) && decide ((getChan s after).owner ≠ r.owner), .inconsistent),
      (vectorBad t r.owner (chanCfg t c 0x0A), .inconsistent) ]

/-- Usable pools and the entries that draw on them (R239). -/
def quotaPools (s : State) : List (Nat × Nat) :=
  [(4, 4096), (5, 16777215 - s.vault.lostSlots), (6, 65536 - s.vault.lostLarge), (7, 65536 - s.vault.lostShad), (8, 256)]

/-- Some quota sum passes its usable pool. A COMMIT that raises no quota is not refused for what damage has taken. -/
def poolsPassed (s t : State) (f : Nat) : Bool :=
  (quotaPools s).any (fun p => decide (p.2 < cfgSum t 0x4000 p.1)) &&
  (quotaPools s).any fun p => decide (fnCfg s f p.1 < fnCfg t f p.1)

/-- A ceiling lies below its share, or a class's shares pass the whole. -/
def sharesBad (t : State) (f : Nat) : Bool :=
  [1, 3, 5, 7].any fun k => decide (qosCfg t f (k + 1) < qosCfg t f k) || decide (4096 < shareSum t k)

/-- The group changes an entry other than VE_CMD. -/
def changesBut (s t : State) (f : Nat) : Bool :=
  (groupEntries (0x4000 + f)).any fun e => !(decide (e.1 = 0x4000 + f ∧ e.2 = 1)) && differs s t e.1 e.2

/-- R237, R239, R240. A function that a RESTORE is installing takes no change, nor do its rings and channels (DEDUCED, log 170). -/
def fnRefusal (s t : State) (f : Nat) : Option AapCode :=
  let r := getFn s f
  let cmd := fnCfg t f 1
  let gone := decide (r.state = .absent ∨ fnCfg s f 1 = 0)
  let creates := gone && decide (cmd = 1)
  firstCode
    [ (decide (r.state = .destroying) || restoring s f, .busy),
      (decide (r.state = .restored) && (changesBut s t f || differs s t (0x4000 + f) 1), .busy),
      (decide (r.state = .freezing ∨ r.state = .frozen ∨ r.state = .resetting) && changesBut s t f, .busy),
      (idleChanges s t (0x4000 + f) &&
        ((ringsOf s f).any (fun n => decide ((getRing s n).state ≠ .disabled)) ||
         (chansOf s f).any fun c => decide ((getChan s c).state ≠ .disabled)), .busy),
      (creates && (decide (s.rng.state ≠ .running) || !vaultReady s), .busy),
      (decide (fnCfg t f 5 < slotsUsed s f ∨ fnCfg t f 6 < largeUsed s f ∨ fnCfg t f 7 < r.shadUsed), .inconsistent),
      (poolsPassed s t f, .inconsistent),
      (sharesBad t f, .inconsistent),
      (gone && decide (cmd = 2), .inconsistent),
      (creates && !decide (r.mig = .none ∨ r.mig = .released), .inconsistent) ]

/-- R316, R321. -/
def severityRefusal (t : State) : Option AapCode :=
  let all := List.range 768
  firstCode
    [ (all.any fun x => decide (521 ≤ x) && decide (severity t x ≠ 0), .range),
      (all.any fun x => sevLocked x && decide (severity t x ≠ 3), .inconsistent),
      (all.any fun x => decide (severity t x = 2) && !sevFence x, .inconsistent) ]

/-- The units of the state if every unit commanded out of service had gone there. -/
def unitsCommanded (t : State) : State :=
  allUnits.foldl (fun s u => if unitCmd t u = 1 ∧ (getUnit s u).state = .active then
    (u :: insideOf u).foldl (fun s x => modUnit s x fun r => { r with state := .outOfService }) s else s) t

/-- R297: the last active group, region and noise source stay. -/
def unitRefusal (s t : State) : Option AapCode :=
  let v := unitsCommanded t
  let groups (s : State) : Bool := (List.range 8).any fun g => active s (unitAt .grp g)
  firstCode
    [ ((!(upRegions s).isEmpty && (upRegions v).isEmpty) || (groups s && !groups v) ||
       (decide (0 < activeCount s .ns) && decide (activeCount v .ns = 0)), .inconsistent) ]

/-- R295. -/
def surveyRefusal (t : State) : Option AapCode :=
  firstCode [ (decide (cfgGet t 0x2020 0x11 ≠ 0) && !(cfgGet t 0x2020 0x12).testBit 31 && Config.pasidNeeded, .inconsistent) ]

/-- R184: the vault is idle only when every slot is FREE; otherwise every COMMIT of its group is refused. -/
def vaultRefusal (s : State) : Option AapCode := firstCode [ (decide (0 < slotsInUse s), .busy) ]

/-- R107: the life-cycle states that let EXT_ALARM_ENABLE be written. -/
def maskWritable (s : State) : Bool := decide (lcState s ≤ 1)

/-- The rules of a group that holds no request, token or nonce. -/
def groupRefusal (s t : State) (g : Nat) : Option AapCode :=
  if !groupLegal t g then some .range
  else if g = 0x2020 then surveyRefusal t
  else if g = 0x3100 then severityRefusal t
  else if g = 0x3302 then unitRefusal s t
  else if g = 0x7000 then vaultRefusal s
  else if 0x4000 ≤ g ∧ g ≤ 0x4400 then fnRefusal s t (g - 0x4000)
  else if 0x5000 ≤ g ∧ g ≤ 0x5FFF then ringRefusal s t (g - 0x5000)
  else if 0xA000 ≤ g ∧ g ≤ 0xA0FF then chanRefusal s t (g - 0xA000)
  else none

/-! ### Rings (R34, R40, R275) -/

/-- RING_CMD goes to ENABLED. A ring of a frozen function starts when the function thaws. -/
def ringEnable (s : State) (n : Nat) : State :=
  let held : Bool := match (getRing s n).owner with | some f => decide ((getFn s f).state = .frozen) | none => false
  modRing s n fun r => { r with
    version := negotiate (ringCfg s n 7), state := if held then .frozen else .running, thaw := if held then .running else .disabled
    home := if r.home.isNone then pickHome s r.region else r.home }

/-- RING_CMD goes to DISABLED: the ring drains (R40). -/
def ringDisable (s : State) (n : Nat) : State :=
  if (getRing s n).state = .disabled then s
  else ringSettle (modRing (dropFetch s n) n fun r => { r with state := .draining, eligible := 0 }) n

/-- What an applied COMMIT of a ring's group changes. Any such COMMIT counts as a write of its command entry (R278). Entries
already counted are judged by the new COAL_COUNT (R67). -/
def ringApplied (s t : State) (n : Nat) : State :=
  let t := coalTest (modRing t n fun r => { r with skew := false }) n (ringCfg t n 0x12)
  let t := if differs s t (0x5000 + n) 0x0F ∧ !(chainsOf t n).isEmpty then modRing t n fun r => { r with echoWait := true } else t
  if ringCfg s n 9 = 0 ∧ ringCfg t n 9 = 1 then ringEnable t n
  else if ringCfg s n 9 = 1 ∧ ringCfg t n 9 = 0 then ringDisable t n
  else t

/-- RING_DRAIN_BOUND (R40). -/
def ringDrainBound (n : Nat) (s : State) : State :=
  if coreUp s && ringDrains s n then pumpAll (ringSettle (killRing s n .abortedReset) n) else s

/-! ### Channels (R206, R222) -/

/-- CHAN_CMD goes to ENABLED (R204, R222). A channel whose disable still stops it is enabled anew when that stop has ended (`chanRest`). -/
def chanEnable (s : State) (c : Nat) : State :=
  let held : Bool := match (getChan s c).owner with | some f => decide ((getFn s f).state = .frozen) | none => false
  modChan s c fun r =>
    if r.state = .disabled then
      { r with state := if held then .frozen else .idle, thaw := if held then .idle else .disabled, pending := 0, runs := 0, prev := 0 }
    else r

def chanApplied (s t : State) (c : Nat) : State :=
  if chanCfg s c 5 = 0 ∧ chanCfg t c 5 = 1 then chanEnable t c
  else if chanCfg s c 5 = 1 ∧ chanCfg t c 5 = 0 then stopChan t c true
  else t

/-- CHANNEL_DISABLE_BOUND (R222). -/
def channelDisableBound (c : Nat) (s : State) : State := if coreUp s && !s.safe then pumpAll (chanBound s c) else s

/-! ### Timers (R220) -/

/-- A COMMIT of a timer's group: the period rule first, then the mode rule. -/
def timerApplied (s t : State) (n : Nat) : State :=
  let r := getTimer t n
  if timerCfg t n 1 = 0 then setTimer t n { r with armed := false }
  else if r.armed && differs s t (0xA100 + n) 2 then
    let next := (r.last.getD r.armAt) + timerCfg t n 2
    if next ≤ nowNs t then fireTimer (setTimer t n { r with next := nowNs t }) n else setTimer t n { r with next := next }
  else t

/-- TIMER_ARM: the timer is armed anew. -/
def timerArm (s : State) (n : Nat) : State :=
  setTimer s n { getTimer s n with armed := true, armAt := nowNs s, last := none, next := nowNs s + timerCfg s n 2 }

/-! ### Units (R275, R324) -/

/-- Another sequencer of the group takes a chain: it has work (R406). -/
def reseq (s : State) (cid : Nat) : State :=
  match getChain s cid with
  | some c =>
    let u := pickSeq s c.group
    modUnit (setChain s cid (some { c with seq := u })) u fun x => { x with gated := false }
  | none => s

/-- What a draining unit homes goes elsewhere at once (R324). -/
def rehomeFrom (s : State) (u : Nat) : State :=
  match kindOf u with
  | .grp => rehomeChans (rehomeGroup s (unitNo u)) (unitNo u)
  | .reg => rehomeChans (rehomeChans (rehomeRegion s (unitNo u)) (2 * unitNo u)) (2 * unitNo u + 1)
  | .mov => rehomeChans s (unitNo u)
  | .seq => (s.chains.filterMap fun e => match e.2 with | some c => if c.seq = u ∧ c.started = false then some e.1 else none | none => none).foldl (fun s cid => reseq s cid) s
  | _ => s

/-- UNIT_CMD goes to OUT_OF_SERVICE. A unit that followed its container follows it no longer. -/
def unitOutCmd (s : State) (u : Nat) : State :=
  match (getUnit s u).state with
  | .active =>
    let s := rehomeFrom (modUnit s u fun r => { r with draining := true }) u
    if unitQuiet s u then unitOut s u else s
  | .fenced | .vigil => setUnitState (modUnit s u fun r => { r with byCont := none }) u .outOfService
  | _ => s

/-- UNIT_CMD goes to IN_SERVICE. -/
def unitInCmd (s : State) (u : Nat) : State :=
  match (getUnit s u).state with
  | .outOfService => (u :: followers s u).foldl (fun s x => modUnit s x fun r => { r with state := .selfTest, noJub := true }) s
  | _ => modUnit s u fun r => { r with draining := false }

/-- What an applied COMMIT of group 3302 changes. -/
def unitsApplied (s t : State) : State :=
  let t := { t with units := t.units.map fun (e : Nat × UnitRec) => (e.1, { e.2 with skew := false }) }
  let t := { t with units := t.units.filter fun e => decide (e.2 ≠ ({} : UnitRec)) }
  (allUnits.filter fun u => differs s t 0x3302 u).foldl (fun t u => if unitCmd t u = 1 then unitOutCmd t u else unitInCmd t u) t

/-! ### Functions (R240 to R243, R257, R258) -/

/-- What an applied COMMIT of a function's group changes. -/
def fnApplied (t : State) (f : Nat) : State :=
  let t := modFn t f fun r => { r with skew := false }
  let t := (ringsOf t f).foldl (fun s n => modRing s n fun r => { r with skew := false }) t
  let t := match (getFn t f).state with
    | .running | .quiesced => fitPools t f
    | _ => t
  veCommand t f

/-! ### A COMMIT applied -/

/-- The pending copy ends and COMMIT_SERIAL counts (R277, R278). -/
def committed (s : State) (g : Nat) : State :=
  let s := dropPend s g
  { s with cnt := { s.cnt with commitSer := s.cnt.commitSer + 1 } }

end Sys2Proof.Machine
end

