-- ==== Sys2Proof/Machine/Aap.lean ====
section
/-!
DEFINITION. Almanac Access Protocol messages (R281, R282): message lengths, which exchanges are open on which path (R284, R288,
R289, R399), and how a response leaves.
-/
namespace Sys2Proof.Machine

open Sys2Proof

/-! ### Messages (R281) -/

/-- Message length that a request's header gives. -/
def msgLength (m : AapMsg) : Nat := if m.op = 2 then 16 + m.len else 16

/-- A request from its bytes; a header cut short reads as zeros. -/
def parseMsg (p : Principal) (b : Bytes) : AapMsg :=
  { prin := p, ver := fld b 0 1, op := fld b 1 1, flags := fld b 2 1, status := fld b 3 1, seq := fld b 4 2, index := fld b 6 2
    sub := fld b 8 1, rsvd := fld b 9 1, len := fld b 10 2, off := fld b 12 4, value := b.drop 16, rcvd := b.length }

/-- Bytes of a response. -/
def respBytes (r : Resp) : Bytes :=
  le 1 r.ver ++ le 1 r.op ++ le 1 1 ++ le 1 r.status.code ++ le 2 r.seq ++ le 2 r.index ++ le 1 r.sub ++ le 1 0 ++
    le 2 r.value.length ++ le 4 0 ++ r.value

/-! ### MCTP (R288, R385) -/

/-- Packets of a message from the block to an endpoint, with a tag that the endpoint owns. -/
def mctpPackets (s : State) (eid tag : Nat) (body : Bytes) : List Bytes :=
  let ps := blocksOf 64 body
  (ps.zipIdx).map fun e =>
    le 1 1 ++ le 1 eid ++ le 1 s.mgmt.eid ++
      le 1 ((if e.2 = 0 then 128 else 0) + (if e.2 + 1 = ps.length then 64 else 0) + 16 * (e.2 % 4) + tag % 8) ++ e.1

/-- Queue a message outward. -/
def sendMctp (s : State) (eid tag : Nat) (body : Bytes) : State :=
  { s with mgmt := { s.mgmt with mo := s.mgmt.mo ++ mctpPackets s eid tag body } }

/-- The head of a vendor defined message (R288). -/
def vendorHead : Bytes := [0x7F, 0x00, 0x00, 0xDF, 0x82]

/-! ### Open exchanges -/

/-- Mailbox of a principal. -/
def mailOf : Principal → Option Nat
  | .mgr => some 0
  | .ve f => some f
  | _ => none

/-- The request that a principal's path is serving. -/
def openReq (s : State) (p : Principal) : Option AapMsg :=
  match p with
  | .oob => s.mgmt.oob.head?.map OobReq.msg
  | .dbg => s.mgmt.dbg
  | .mgr => (getMail s 0).req
  | .ve f => (getMail s f).req

/-- Principal of the request that is served next: the oldest open one that does not wait for its answer already (R284). -/
def nextPrin (s : State) : Option Principal :=
  s.mgmt.order.find? fun p => match openReq s p with | some x => decide (s.mgmt.waiting ≠ some x) | none => false

/-- A message is served if it is what is open on its path and its turn has come. One that arrives with the command that serves it is
served if no other waits (log 137). -/
def servable (s : State) (m : AapMsg) : Bool :=
  coreUp s && s.bring.almanacUp && !decide (s.mgmt.waiting = some m) &&
  (match openReq s m.prin with
    | some x => decide (x = m ∧ nextPrin s = some m.prin)
    | none => (nextPrin s).isNone)

/-- A response leaves on the path of its request. -/
def route (s : State) (m : AapMsg) (b : Bytes) : State :=
  if openReq s m.prin ≠ some m then s
  else
    let s := leave s m.prin
    match m.prin with
    | .oob =>
      (match s.mgmt.oob with
        | [] => s
        | x :: t => sendMctp { s with mgmt := { s.mgmt with oob := t } } x.eid x.tag (vendorHead ++ b))
    | .dbg => { s with mgmt := { s.mgmt with dbg := none, dbgOut := b } }
    | .mgr => setMail s 0 { getMail s 0 with busy := false, done := true, req := none, resp := b }
    | .ve f => setMail s f { getMail s f with busy := false, done := true, req := none, resp := b }

/-- Answer a request, with the index and sub-index that its response names. -/
def answerAt (s : State) (m : AapMsg) (ver : Nat) (st : AapCode) (idx sub : Nat) (v : Bytes) : State :=
  let r : Resp := { prin := m.prin, ver := ver, op := m.op, status := st, seq := m.seq, index := idx, sub := sub, value := v }
  route { s with mgmt := { s.mgmt with last := some r } } m (respBytes r)

/-- Answer a request with its own header fields. -/
def answer (s : State) (m : AapMsg) (st : AapCode) (v : Bytes) : State :=
  answerAt s m (if m.ver = 1 ∨ m.ver = 2 then m.ver else 2) st m.index m.sub v

end Sys2Proof.Machine
end

