-- ==== Sys2Proof/Machine/LifeCycle.lean ====
section
/-!
DEFINITION. The life cycle (R335 to R347): requests, tokens and challenges, the transition by its phase marks and its resume;
statements on request (R364), the certificate chain (R361), the jubilee record (R326), and what the end of an NV command brings
(R387).
-/
namespace Sys2Proof.Machine

open Sys2Proof

/-! ### Requests and tokens (R341 to R343) -/

/-- Authorities that may sign a transition (R335): MAKER, INTEGRATOR. -/
def signersOf (from_ target : Nat) : Bool × Bool :=
  match from_, target with
  | 0, 1 | 0, 4 => (true, false)
  | 1, 2 | 1, 3 | 2, 3 | 1, 4 | 2, 4 => (false, true)
  | 3, 4 => (true, true)
  | _, _ => (false, false)

/-- Grants that a token may carry in the present state (R341). -/
def grantOk (s : State) (g : Nat) : Bool :=
  decide (s.life.state = 1 ∧ 1 ≤ g ∧ g ≤ 3) || decide (s.life.state = 2 ∧ g = 1)

/-- The 9-byte context of the second signature. -/
def lcContext : Bytes := ascii "NH1600 LC"

/-- First check that a request or token fails, as its LC_RESULT code; `chal` is the challenge voided by the COMMIT. -/
def requestBad (s : State) (token : Bool) (chal : Option Bytes) (b : Bytes) : Option Nat :=
  let target := fld b 4 1
  let who := if token then (false, true) else signersOf s.life.state target
  let hash := sha384 (slice b 144 97 ++ slice b 244 2592)
  let newAuth := slice b 96 48
  ([ (decide (fld b 0 2 ≠ 1 ∨ fld b 2 1 ≠ (if token then 2 else 1)) || !allZero (slice b 5 3) || !allZero (slice b 12 4) ||
        !allZero (slice b 241 3) || !allZero (b.drop 7559), 0x10),
     (decide (slice b 16 48 ≠ fit 48 s.bring.unitId), 0x11),
     (decide (fld b 3 1 ≠ lcState s ∨ fld b 8 4 ≠ s.life.count), 0x12),
     (if token then !grantOk s target else !(who.1 || who.2), 0x13),
     (decide (chal ≠ some (slice b 64 32)), 0x14),
     (decide (!allZero newAuth) != (!token && decide (s.life.state = 0 ∧ target = 1)), 0x17),
     (!(who.1 && decide (hash.take 24 = makerHash s)) && !(who.2 && decide (s.life.auth = some hash)), 0x15),
     (!publicOk 0x11 0 (slice b 144 97) ||
        !Config.test (.signature 0x11 2) [slice b 144 97, [], b.take 144, slice b 2836 96, le 1 0] ||
        !Config.test (.signature 0x3A 0) [slice b 244 2592, lcContext, b.take 144, slice b 2932 4627, le 1 0], 0x16) ]
    : List (Bool × Nat)).find? Prod.fst |>.map Prod.snd

/-- The signatures of a request or token were checked on a PKA unit: one operation (R299, R343; DESIGN CHOICE, log 185). -/
def countSigned (s : State) (bad : Option Nat) : State := if bad = none ∨ bad = some 0x16 then countPka s else s

/-- LC_RESULT. -/
def setResult (s : State) (n : Nat) : State := { s with life := { s.life with result := n } }

/-- The value that a group's COMMIT submits. -/
def submitted (s : State) (g sub : Nat) : Bytes :=
  ((findPend s g).bind fun p => pendVal p g sub).getD (octRws g)

/-- DEBUG_TOKEN (R341, R343). -/
def commitToken (s : State) (m : AapMsg) : State :=
  if !readyBit s none 3 || s.life.busy then answer s m .busy []
  else
    let b := submitted s 0x9001 1
    let chal := s.life.dbgChal
    let s := { s with life := { s.life with dbgChal := none } }
    let bad := requestBad s true chal b
    let s := countSigned s bad
    match bad with
    | some e => answer (setResult s e) m .lifecycle []
    | none =>
      let s := { s with life := { s.life with debugEn := s.life.debugEn ||| BitVec.ofNat 2 (fld b 4 1) } }
      answer (committed (setResult s 1) 0x9001) m .ok []

/-! ### The transition (R344 to R347) -/

/-- The block is idle in the sense of R344. -/
def lcIdle (s : State) : Bool :=
  !s.life.busy && s.fns.all fun e =>
    !decide (e.2.mig = .opened ∨ e.2.mig = .saved ∨ e.2.mig = .restored ∨ e.2.state = .freezing ∨ e.2.actStatus = 1)

/-- A LIFECYCLE payload (R352). -/
def lifePayload (state target phase count mask : Nat) (newAuth digest : Bytes) : Bytes :=
  le 1 state ++ le 1 target ++ le 1 phase ++ le 1 0 ++ le 4 count ++ le 4 mask ++ le 4 0 ++ fit 48 newAuth ++ fit 48 digest

/-- The mask that STATE_WRITTEN records. -/
def alarmMask (s : State) : Nat := cfgGet s 0x6010 7 % 16

/-- Payload of a phase mark after VERIFIED, from what VERIFIED recorded. -/
def markPayload (s : State) (p : LcPhase) : Bytes :=
  let l := s.life
  match p with
  | .stateWritten => lifePayload l.target l.target 3 ((l.count + 1) % 2 ^ 32) (alarmMask s) l.newAuth l.digest
  | .done => lifePayload l.state 255 4 l.count l.mask l.newAuth l.digest
  | p => lifePayload l.state l.target p.code l.count l.mask l.newAuth l.digest

/-- Record a phase mark or the authority. A write past its budget is not made, and the transition stays pending. -/
def lcWrite (s : State) (rec : Nat) (payload : Bytes) (why : NvWhy) : State :=
  let r := nvWrite s rec payload why
  if r.2 then r.1 else setResult r.1 0x19

def lcMark (s : State) (p : LcPhase) : State := lcWrite s 1 (markPayload s p) (.phase p)

/-- The writes that a transition makes are within the budgets of R353. -/
def budgetOk (s : State) (target : Nat) : Bool :=
  let seq (r : Nat) : Nat := if (getNvRec s r).valid then (getNvRec s r).seq else 0
  decide (seq 1 + 4 ≤ recBudget 1) && (decide (s.life.state ≠ 0 ∨ target ≠ 1) || decide (seq 2 + 1 ≤ recBudget 2))

/-- LIFECYCLE_TRANSITION: step 1, and the write of step 2. The answer waits for the end. -/
def commitRequest (s : State) (m : AapMsg) : State :=
  if !readyBit s none 3 || !lcIdle s then answer s m .busy []
  else
    let b := submitted s 0x9000 5
    let chal := s.life.challenge
    let s := { s with life := { s.life with challenge := none } }
    let target := fld b 4 1
    let bad := requestBad s false chal b
    let s := countSigned s bad
    match bad with
    | some e => answer (setResult s e) m .lifecycle []
    | none =>
      if !budgetOk s target then answer (setResult s 0x19) m .lifecycle []
      else
        let s := { s with life := { s.life with busy := true }, mgmt := { s.mgmt with waiting := some m } }
        lcWrite s 1 (lifePayload s.life.state target 1 s.life.count s.life.mask (slice b 96 48) (sha384 (b.take 144))) (.phase .verified)

/-- Answer the COMMIT that waits. -/
def answerWaiting (s : State) (st : AapCode) : State :=
  match s.mgmt.waiting with
  | none => s
  | some m => answer { s with mgmt := { s.mgmt with waiting := none } } m st []

/-- Nothing of step 3's work is left. What only awaits a vault update ends with the vault's content (`destroyKeys`). -/
def lcQuiet (s : State) : Bool :=
  (reqsWith s fun q => decide (q.phase ≠ .ended)).isEmpty &&
  s.chans.all fun e => match e.2.run with | some x => decide (x.stage = .ccb ∨ e.2.state = .frozen) | none => true

/-- Step 4: keys destroyed (R346). A request that has ended and awaited its slot's update has its entry written now (R130, R345). -/
def destroyKeys (s : State) : State :=
  let rs := vaultUsers s
  let s := rs.foldl cutShort (emptyVault (eraseKeys s))
  -- no context key of the former root is left (R346), and what was asked of the wires under it is asked anew (R183)
  let s := (s.fns.map Prod.fst).foldl (fun s f => modFn s f fun r => { r with ctxKey := [], ctxCtr := 0, ctxRes := 0 }) s
  let s := { s with rng := { s.rng with wires := s.rng.wires.filter fun w => match w with | .inc | .ctx _ => false | _ => true } }
  { s with
    bring := { s.bring with vaultDone := false }
    rng := { s.rng with pkaBuf := [] } }

/-- Steps 4 and 5. -/
def lcDestroy (s : State) : State := lcMark (destroyKeys s) .keysDestroyed

/-- Step 3: rings and channels stop; where no work is left, step 4 follows at once. -/
def lcStop (s : State) : State :=
  let s := { s with life := { s.life with draining := true } }
  let s := (s.rings.map Prod.fst).foldl dropFetch s
  let s := ((s.chans.filter fun e => chanEnabled e.2).map Prod.fst).foldl (fun s c => stopChan s c false) s
  if lcQuiet s then lcDestroy s else s

/-- Step 3 runs: step 4 has not begun, whose mark would be on its way. -/
def lcDrained (s : State) : Bool :=
  s.life.draining && decide (s.life.phase = .verified) &&
  !(s.nv.retry.toList ++ s.nv.jobs).any fun j => decide (j.why = .phase .keysDestroyed)

/-- TRANSITION_WORK_ABANDON: the 100 microseconds of step 3 have passed. -/
def transitionWorkAbandon (s : State) : State :=
  if !coreUp s || s.safe || !lcDrained s then s
  else
    let s := (s.rings.map Prod.fst).foldl (fun s n => killRing s n .abortedReset) s
    let s := ((s.chans.filter fun e => chanEnabled e.2).map Prod.fst).foldl chanBound s
    lcDestroy s

/-- Step 7, and step 6 before it where a new authority is to be recorded. -/
def lcAuthority (s : State) : State :=
  if s.life.state = 0 ∧ s.life.target = 1 then lcWrite s 2 (fit 48 s.life.newAuth) .authority else lcMark s .stateWritten

/-- The end of a transition or of its resume. The warm reset of step 9 follows once the answer has left. -/
def lcDone (s : State) : State :=
  let s := setResult { s with life := { s.life with phase := .done, target := 255 } } 1
  if s.bring.resume then stepEight { s with bring := { s.bring with resume := false } }
  else answerWaiting (committed s 0x9000) .ok

/-- A phase mark has been recorded. -/
def phaseDone (s : State) (p : LcPhase) (b : Bytes) : State :=
  match p with
  | .verified =>
    lcStop { s with life := { s.life with
      phase := .verified, target := fld b 1 1, newAuth := slice b 16 48, digest := slice b 64 48 } }
  | .keysDestroyed => lcAuthority { s with life := { s.life with phase := .keysDestroyed } }
  | .stateWritten =>
    -- a grant of internal debug or of the test modes lasts until the transition (R341)
    lcMark { s with
      life := { s.life with phase := .stateWritten, state := fld b 0 1, count := fld b 4 4, mask := fld b 8 4, debugEn := 0 }
      tap := { s.tap with wrapper := false, wso := false } } .done
  | .done => lcDone s
  | .none => s

/-- A phase mark or the authority could not be written. Only the first mark's failure refuses the COMMIT (R345). -/
def phaseFailed (s : State) (j : NvJob) : State :=
  let s := setResult s 0x19
  if j.why = .phase .verified then
    answerWaiting { s with life := { s.life with busy := false } } .lifecycle
  else { s with nv := { s.nv with retry := some { recId := j.recId, write := j.write, why := j.why, step := .program 0 } } }

/-- NV_WRITE_RETRY (R345): once per second. -/
def nvWriteRetry (s : State) : State :=
  if !coreUp s || s.safe then s
  else match s.nv.retry with
    | none => s
    | some j => nvSubmit { s with nv := { s.nv with retry := none } } { j with again := true }

/-- The resume of R347, once AUTHORITY has been read. -/
def lcResume (s : State) : State :=
  match s.life.phase with
  | .verified => lcDestroy s
  | .keysDestroyed => lcAuthority (destroyKeys s)
  | .stateWritten => lcMark s .done
  | .none | .done => s

/-- Step 9: the warm reset that ends a transition, and the bring-up that follows it, once the COMMIT of this transition has been answered.
-/
def lcReset (s : State) : State :=
  if s.life.busy && decide (s.life.phase = .done) && s.mgmt.waiting.isNone && s.mgmt.mo.isEmpty && !s.safe && coreUp s then
    tryBegin (let s := warmReset s; { s with pins := { s.pins with resetAt := s.pins.cycles } })
  else s

/-- A transition's drain has come to its end by itself. -/
def lcDrainOver (s : State) : State := if lcDrained s && lcQuiet s && coreUp s && !s.safe then lcDestroy s else s

/-! ### Challenges (R298) -/

/-- A read of LC_CHALLENGE or DEBUG_CHALLENGE draws from the CTR_DRBG and replaces what was drawn before. -/
def drawChallenge (s : State) (debug : Bool) : Bytes × State :=
  let d := drbgCall s [] 32
  let l := d.2.life
  (d.1, { d.2 with life := if debug then { l with dbgChal := some d.1 } else { l with challenge := some d.1 } })

/-! ### Statements (R364) -/

/-- ATTEST_NONCE: a COMMIT of group 9002. -/
def commitNonce (s : State) (m : AapMsg) : State :=
  let nonce := submitted s 0x9002 1
  if s.rng.state ≠ .running ∨ s.bring.identity = false ∨ readyBit s none 3 = false then answer s m .busy []
  else if allZero nonce then answer s m .inconsistent []
  -- the COMMIT stays open until a unit's buffer holds what the signatures draw (R134)
  else if (pkaSupply s 64).isNone then awaitSupply s
  else
    let random := pkaRandom s 64
    -- the chain's digest stands in the payload, and the chain itself is left out (R362)
    let b := coseSign s none (blockPayload s nonce) false random.1
    let s := countPka random.2
    answer (committed { s with life := { s.life with statement := b, serial := s.life.serial + 1 } } 0x9002) m .ok []

/-! ### CERT_INSTALL (R361) -/

/-- Test 1 of check 9: the life-cycle state, and the budget with the writes under way (R353, R361). -/
def certDenied (s : State) : Bool := !(decide (s.life.state ≤ 1)) || overBudget s 3

/-- Check 9, and the write. -/
def certLoaded (s : State) (r : Nat) (q : Req) : State :=
  if certDenied s then failStep s r .lifecycleDenied 0
  else
    let s := countPka s
    if !chainOk s q.srcB (idPublic s) then failStep s r .descField 8
    else (nvWrite (modReq s r fun q => { q with phase := .vault }) 3 q.srcB (.chain r)).1

/-- CERT_INSTALL: the chain is read, then tested and written. -/
def certInstall (r : Nat) (s : State) : State :=
  match getReq s r with
  | none => s
  | some q =>
    if q.op ≠ .certInstall then s
    else if q.phase = .ready then
      (if certDenied s then
        pumpAll (failStep s r .lifecycleDenied 0)
      else pumpAll (thenLoaded (beginData s r) r fun s q => certLoaded s r q))
    else if q.phase = .loaded then pumpAll (certLoaded s r q)
    else s

/-- The chain's write has ended. -/
def certEnded (s : State) (r : Nat) (ok : Bool) : State :=
  match getReq s r with
  | none => s
  | some q => if q.phase ≠ .vault then s else if ok then endStep s r .ok 0 else failStep s r .faultDetected 0

/-! ### JUBILEE (R326) -/

/-- 188 counts, in the order of R296. -/
def jubileePayload (s : State) : Bytes := allUnits.flatMap fun u => le 4 (getUnit s u).jubilee

/-- JUBILEE_PERSIST: a count has changed, and 4 hours in REF_CLK cycles have passed since the previous write, or since the release of
PO_RST_N (R326, R353). The write's end begins the next 4 hours. -/
def jubileePersist (s : State) : State :=
  if coreUp s && !s.safe && s.bring.nvDone && s.nv.jubDirty && decide (14400000000000 ≤ (s.pins.cycles - s.nv.jubAt) * refPeriod s) &&
      !(s.nv.jobs.any fun j => decide (j.why = .jubilee)) then
    (nvWrite { s with nv := { s.nv with jubDirty := false } } 4 (jubileePayload s) .jubilee).1
  else s

/-! ### The end of an NV command (R387) -/

/-- A record has been read at bring-up. -/
def recordRead (s : State) (rec : Nat) : State :=
  match rec with
  | 1 => stepFive (lifeRead s)
  | 5 => stepFive (bootRead s)
  | 2 =>
    let r := getNvRec s 2
    let s := { s with life := { s.life with auth := if r.valid then some r.payload else none } }
    if s.bring.resume then lcResume s else stepEight s
  | 4 => jubileeRead s
  | _ => s

/-- What the end of a job brings. -/
def jobOver (s : State) (j : NvJob) (ok : Bool) : State :=
  match j.why with
  | .bring => recordRead s j.recId
  | .survey => surveyOver s
  | .phase p => if ok then phaseDone s p (j.write.getD []) else phaseFailed s j
  | .authority => if ok then lcMark { s with life := { s.life with auth := j.write } } .stateWritten else phaseFailed s j
  | .chain r => pumpAll (certEnded s r ok)
  | .jubilee => { s with nv := { s.nv with jubDirty := s.nv.jubDirty || !ok, jubAt := s.pins.cycles } }
  | .bootcfg => s

/-- The command in progress has ended: its job goes on or ends, and the next job begins. One that was outstanding when the safe state was
entered sets its source as ever (R333), and nothing follows it. -/
def nvEnd (s : State) (words : Bytes) (err : Bool) : State :=
  if !coreUp s then s
  else if s.safe then
    (if s.nv.jobs.isEmpty then s
     else let s := { s with nv := { s.nv with jobs := [] } }; if err then raiseSrc s 507 else s)
  else
    let r := nvAnswer s words err
    match r.2 with
    | none => r.1
    | some (j, ok) => bringWatch (nvBegin (jobOver r.1 j ok))

/-- NV_COMMAND_END. -/
def nvCommandEnd (words : Bytes) (err : Bool) (s : State) : State := nvEnd s words err

/-- NV_TIMEOUT: the command fails as one that reports an error does. -/
def nvTimeout (s : State) : State := nvEnd s [] true

/-! ### The rows -/

def execTransitionWorkAbandon (s : State) : Out State := fin (transitionWorkAbandon s)
def execNvWriteRetry (s : State) : Out State := fin (nvWriteRetry s)
def execNvCommandEnd (words : Bytes) (err : Bool) (s : State) : Out State := fin (nvCommandEnd words err s)
def execNvTimeout (s : State) : Out State := fin (nvTimeout s)
def execJubileePersist (s : State) : Out State := fin (jubileePersist s)
def execCertInstall (r : Nat) (s : State) : Out State := fin (certInstall r s)

end Sys2Proof.Machine
end

