-- ==== Sys2Proof/Machine/Migrate.lean ====
section
/-!
DEFINITION. VE actions (R256, R259 to R267): which states accept them, the objects they check, sign and write, and their
completion.
-/
namespace Sys2Proof.Machine

open Sys2Proof

/-! ### Acceptance (R259) -/

/-- Codes of VE_ACTION (R237). -/
def codeAct (n : Nat) : Option ActKind :=
  match n with
  | 1 => some .reset | 2 => some .save | 3 => some .restore | 4 => some .release | 5 => some .commit | 6 => some .abandon
  | 7 => some .open | 8 => some .receipt | 9 => some .renew | _ => none

/-- A write of VE_ACTION: what refuses it. -/
def actRefusal (s : State) (f : Nat) (k : ActKind) : Option AapCode :=
  if (getFn s f).actStatus = 1 then some .busy else if actAccepted (getFn s f) k then none else some .inconsistent

/-- An accepted action begins; a reset runs its own timeline (R251). -/
def actStart (s : State) (f : Nat) (k : ActKind) : State :=
  let s := actBegin s f k
  if k = .reset then pumpAll (veReset s f) else s

/-! ### Signatures -/

/-- Draws and signatures are possible (R267, code 18h). -/
def signReady (s : State) : Bool := decide (s.rng.state = .running) && readyBit s none 3 && s.bring.identity

/-- An object with its SIGNATURE, hedged with 64 random bytes (R358). -/
def signedWith (s : State) (b random : Bytes) : Bytes :=
  b ++ coseSign s (if certChain s = [] then none else some (certChain s)) b true random

/-- The same with bytes of a PKA unit's buffer; the operation is counted (R299). -/
def signed (s : State) (b : Bytes) : Bytes × State :=
  let r := pkaRandom s 64
  (signedWith s b r.1, countPka r.2)

/-- Bytes that an action draws from a PKA unit's buffer (R134): challenge, key pairs and secrets, and the hedge of its signature. -/
def actDraw : ActKind → Nat
  | .open => 208
  | .save => 144
  | .restore | .release | .receipt => 64
  | .reset | .commit | .abandon | .renew => 0

/-- The action waits until a unit's buffer holds what it draws. -/
def actWaits (s : State) (k : ActKind) : Bool := signReady s && decide (0 < actDraw k) && (pkaSupply s (actDraw k)).isNone

/-- First failing check of a SIGNATURE from byte `k` on, by the unit that the object names (R366; codes 10h, 11h). -/
def sigBad (s : State) (b : Bytes) (k : Nat) (unit : Bytes) : Option Nat :=
  if !coseOk (b.take k) (b.drop k) unit then some 0x10
  else if !coseChainOk s (b.drop k) then some 0x11
  else none

/-- An object of action input is malformed: FORMAT, or too short for its SIGNATURE, which begins at byte `k`. -/
def malformed (b : Bytes) (k : Nat) : Bool := decide (b.length ≤ k ∨ fld b 0 2 ≠ 1)

/-- The SIGNATURE of an object is checked on a PKA unit: one operation (R118, R299; DESIGN CHOICE, log 185). -/
def countChecked (s : State) (b : Bytes) (k : Nat) : State := if malformed b k then s else countPka s

/-- First code whose test fails. -/
def firstAct (l : List (Bool × Nat)) : Option Nat := (l.find? Prod.fst).map Prod.snd

/-- MIG_OUT_CAP of the action in progress. -/
def outCap (s : State) (f : Nat) : Nat := ((getFn s f).act.map ActJob.outCap).getD 0

/-- A signed object that does not fit its buffer fails the action (19h); else it is written. -/
def emit (s : State) (f : Nat) (out : Bytes) : State :=
  if outCap s f < out.length then actEnd s f 0x19 else actWrite s f out

/-- P-384 and ML-KEM-1024. -/
def ecAlg : Nat := 0x11
def kemAlg : Nat := 0x32

/-- The transfer key (R259). -/
def transferKey (ssk ssc src dst chal ct epk : Bytes) : Bytes :=
  kdfCmac ssk (ascii "NH1600 MIGRATE") (ssc ++ src ++ dst ++ chal ++ ct ++ epk) 32

/-! ### OPEN (R260) -/

def myUnit (s : State) : Bytes := fit 48 s.bring.unitId

def actOpen (s : State) (f : Nat) : State :=
  let draw := pkaRandom s 208
  let r := draw.1
  let s := countPka draw.2
  let ses : Session := { challenge := r.take 32, ekPriv := generate kemAlg 0 (slice r 32 64), ecPriv := generate ecAlg 0 (slice r 96 48) }
  let b := le 2 1 ++ le 2 f ++ le 1 (lcState s) ++ zeros 3 ++ myUnit s ++ ses.challenge ++
    publicOf kemAlg 0 ses.ekPriv ++ publicOf ecAlg 0 ses.ecPriv ++ zeros 7
  emit (modAct s f fun a => { a with ses := some ses }) f (signedWith s b (r.drop 144))

/-! ### SAVE (R261, R262) -/

/-- The tests of SAVE on the offer. R267 names no code for a public key that R127 rejects: it is that of a malformed object, here and for
SRC_EPK (DESIGN CHOICE, log 164). -/
def saveBad (s : State) (f : Nat) (b : Bytes) : Option Nat :=
  if malformed b 1760 then some 0x14
  else match sigBad s b 1760 (slice b 8 48) with
    | some e => some e
    | none => firstAct
      [ (decide (fld b 2 2 ≠ f), 0x13),
        (decide (fld b 4 1 ≠ lcState s ∨ (lcState s ≠ 1 ∧ lcState s ≠ 2)), 0x12),
        (!publicOk kemAlg 0 (slice b 88 1568) || !publicOk ecAlg 0 (slice b 1656 97), 0x14) ]

def actSave (s : State) (f : Nat) (b : Bytes) : State :=
  let s := countChecked s b 1760
  match saveBad s f b with
  | some e => actEnd s f e
  | none =>
    if (getFn s f).state ≠ .frozen then actEnd s f 0x13
    else if !signReady s then actEnd s f 0x18
    else
      let draw := pkaRandom s 144
      let r := draw.1
      let s := countPka draw.2
      let dst := slice b 8 48
      let chal := slice b 56 32
      let ek := slice b 88 1568
      let eph := generate ecAlg 0 (slice r 32 48)
      let ct := primBytes (.kemCt kemAlg) [ek, r.take 32] 1568
      let epk := publicOf ecAlg 0 eph
      let key := transferKey (primBytes (.kemSs kemAlg) [ek, r.take 32] 32) (agreed ecAlg eph (slice b 1656 97)) (myUnit s) dst chal ct epk
      let body := bodyBytes (bodyOf s f)
      let head := le 2 1 ++ le 2 f ++ le 1 (lcState s) ++ zeros 3 ++ le 8 body.length ++ myUnit s ++ dst ++ chal ++
        le 8 ((getFn s f).saveSerial + 1) ++ zeros 104 ++ ct ++ epk ++ zeros 15
      let sealed := gcmSeal key (zeros 12) head body
      let image := signedWith s (head ++ sealed.1 ++ sealed.2) (r.drop 80)
      emit (modAct s f fun a => { a with img := some { destUnit := dst, challenge := chal, digest := sha384 image } }) f image

/-! ### RESTORE (R263) -/

/-- The resources of an image fit (R239, R263). -/
def restoreFits (s : State) (f : Nat) (body : Body) : Bool :=
  let t := putQuotas s f body
  vaultReady s && groupLegal t (0x4000 + f) && !poolsPassed s t f && !sharesBad t f && ringsFree s body && chansFree s body &&
  decide (body.rings.length ≤ fnCfg t f 4 ∧ body.chans.length ≤ fnCfg t f 8 ∧ body.slots.length ≤ fnCfg t f 5 ∧
    (body.slots.filter fun x => decide (0 < numOf x 9)).length ≤ fnCfg t f 6)

/-- Length of BODY that an image names. -/
def bodyLen (b : Bytes) : Nat := fld b 8 8

/-- The tests of RESTORE on the image before its body is opened. -/
def restoreBad (s : State) (f : Nat) (ses : Session) (b : Bytes) : Option Nat :=
  if malformed b (1952 + bodyLen b) then some 0x14
  else match sigBad s b (1952 + bodyLen b) (slice b 16 48) with
    | some e => some e
    | none => firstAct
      [ (decide (fld b 2 2 ≠ f ∨ slice b 64 48 ≠ myUnit s ∨ slice b 112 32 ≠ ses.challenge), 0x13),
        (decide (fld b 4 1 ≠ lcState s ∨ (lcState s ≠ 1 ∧ lcState s ≠ 2)), 0x12),
        (!publicOk ecAlg 0 (slice b 1824 97), 0x14) ]

/-- The key that the destination derives for an image. -/
def restoreKey (s : State) (ses : Session) (b : Bytes) : Bytes :=
  let ct := slice b 256 1568
  let epk := slice b 1824 97
  transferKey (primBytes (.kemDec kemAlg) [ses.ekPriv, ct] 32) (agreed ecAlg ses.ecPriv epk) (slice b 16 48) (myUnit s) ses.challenge ct epk

def actRestore (s : State) (f : Nat) (ses : Session) (b : Bytes) : State :=
  let s := countChecked s b (1952 + bodyLen b)
  match restoreBad s f ses b with
  | some e => actEnd s f e
  | none =>
    let key := restoreKey s ses b
    let ct := slice b 1936 (bodyLen b)
    if !gcmOpenOk key (zeros 12) (b.take 1936) ct (slice b (1936 + bodyLen b) 16) then actEnd s f 0x14
    else
      let body := parseBody (gcmOpen key (zeros 12) (b.take 1936) ct)
      if !restoreFits s f body then actEnd s f 0x15
      else if !slotsFree s body then actEnd s f 0x16
      else if !signReady s then actEnd s f 0x18
      else
        let digest := sha384 b
        let ack := signed s (le 2 1 ++ le 2 f ++ zeros 4 ++ myUnit s ++ digest ++ ses.challenge)
        if outCap s f < ack.1.length then actEnd s f 0x19
        else installFn ack.2 f body { ses with srcUnit := slice b 16 48, digest := digest } ses ack.1

/-! ### RELEASE and RECEIPT (R264) -/

/-- The tests of RELEASE on the acknowledgement. -/
def releaseBad (s : State) (f : Nat) (img : ImageRec) (b : Bytes) : Option Nat :=
  if malformed b 136 then some 0x14
  else match sigBad s b 136 (slice b 8 48) with
    | some e => some e
    | none => firstAct
      [ (decide (slice b 8 48 ≠ img.destUnit ∨ slice b 104 32 ≠ img.challenge ∨ fld b 2 2 ≠ f ∨ slice b 56 48 ≠ img.digest), 0x13) ]

/-- The receipt, from the fields retained. -/
def receiptOf (s : State) (f : Nat) (img : ImageRec) : Bytes × State :=
  signed s (le 2 1 ++ le 2 f ++ zeros 4 ++ myUnit s ++ fit 48 img.destUnit ++ fit 48 img.digest ++ fit 32 img.challenge)

/-- RELEASE destroys the function; its receipt follows. -/
def actRelease (s : State) (f : Nat) (b : Bytes) : State :=
  match (getFn s f).image with
  | none => actEnd s f 0x13
  | some img =>
    let s := countChecked s b 136
    match releaseBad s f img b with
    | some e => actEnd s f e
    | none =>
      if !signReady s then actEnd s f 0x18
      else if outCap s f < (receiptOf s f img).1.length then actEnd s f 0x19
      else
        let s := modAct s f fun a => { a with code := some 0 }
        queueDestroy (modFn s f fun r => { r with state := .destroying }) f true

/-- RECEIPT, and the receipt of RELEASE: `late` is the code where it cannot be signed. A receipt of RELEASE that no longer fits its buffer,
since a longer chain has been installed meanwhile, is deferred in the same way: the destruction stands. -/
def actReceipt (s : State) (f late : Nat) : State :=
  match (getFn s f).receipt with
  | none => actEnd s f late
  | some img =>
    if !signReady s then actEnd s f late
    else if (pkaSupply s 64).isNone then awaitSupply s
    else
      let o := receiptOf s f img
      if late = 0x1A ∧ outCap s f < o.1.length then actEnd s f late else emit o.2 f o.1

/-! ### COMMIT, ABANDON, RENEW_CONTEXT_KEY (R256, R265, R266) -/

/-- The tests of COMMIT on the receipt. -/
def commitBad (s : State) (f : Nat) (ses : Session) (b : Bytes) : Option Nat :=
  if malformed b 184 then some 0x14
  else match sigBad s b 184 (slice b 8 48) with
    | some e => some e
    | none => firstAct
      [ (decide (slice b 8 48 ≠ ses.srcUnit ∨ fld b 2 2 ≠ f ∨ slice b 56 48 ≠ myUnit s ∨ slice b 104 48 ≠ ses.digest ∨
          slice b 152 32 ≠ ses.challenge), 0x13) ]

/-- COMMIT brings the function to life; a reset held since its restoration follows, once the function runs (R268). -/
def actCommit (s : State) (f : Nat) (ses : Session) (b : Bytes) : State :=
  let s := countChecked s b 184
  match commitBad s f ses b with
  | some e => actEnd s f e
  | none =>
    if !signReady s then actEnd s f 0x18
    else
      let s := cfgSet (modFn s f fun r => { r with session := none, mig := .none }) (0x4000 + f) 1 1
      actEnd (unmark s f) f 2

/-- An open session is scrubbed. -/
def scrubSession (s : State) (f : Nat) : State := modFn s f fun r => { r with session := none, mig := .none }

/-- What a RESTORED function holds goes in one update: its slots FREE and the function ABSENT, all or nothing (R266, R268). -/
def queueAbandon (s : State) (f : Nat) : State :=
  let is := slotsToFree s f
  submitUpd (is.foldl cacheDrop s) (is.map VOp.free ++ [.absent f false]) none

def actAbandon (s : State) (f : Nat) : State :=
  if (getFn s f).mig = .opened then actEnd (scrubSession s f) f 2
  else queueAbandon (modAct s f fun a => { a with code := some 0 }) f

/-- RENEW_CONTEXT_KEY: a function that is no longer RUNNING or QUIESCED keeps its key. -/
def actRenew (s : State) (f : Nat) : State :=
  if actAccepted (getFn s f) .renew = false then actEnd s f 0x13
  else if s.rng.state ≠ .running ∨ vaultReady s = false then actEnd s f 0x18
  else drawCtx (modAct s f fun a => { a with code := some 2 }) f

/-! ### Completion -/

/-- The input is in hand: the action is carried out. -/
def actRun (s : State) (f : Nat) (a : ActJob) : State :=
  let b := actInput a
  match a.kind with
  | .reset => s
  | .open => if signReady s then actOpen s f else actEnd s f 0x18
  | .save => actSave s f b
  | .restore => (match (getFn s f).session with | some ses => actRestore s f ses b | none => actEnd s f 0x13)
  | .release => actRelease s f b
  | .commit => (match (getFn s f).session with | some ses => actCommit s f ses b | none => actEnd s f 0x13)
  | .abandon => actAbandon s f
  | .receipt => actReceipt s f 0x18
  | .renew => actRenew s f

/-- The destruction of RELEASE or ABANDON is over, or an update of it has failed and is queued again. -/
def actDestroyed (s : State) (f : Nat) (a : ActJob) : State :=
  if absenting s f then s
  else if (getFn s f).state = .absent then (if a.kind = .release then actReceipt s f 0x1A else actEnd s f 2)
  else if a.kind = .release then queueDestroy s f true else queueAbandon s f

/-- The update of a RESTORE is over: the acknowledgement is written, or the action has failed, its update with an error or its
acknowledgement (R263, R267; DESIGN CHOICE, log 171). -/
def actRestored (s : State) (f : Nat) (a : ActJob) : State :=
  if restoring s f then s
  else if a.err.isNone ∧ (getFn s f).mig = .restored then actWrite s f a.out
  else actEnd s f 0x17

/-- ACTION_COMPLETION: the action goes as far as it can. Its output and its vault updates are awaited. -/
def actionCompletion (f : Nat) (s : State) : State :=
  if !coreUp s || s.safe then s
  else match (getFn s f).act with
    | none => s
    | some a =>
      if a.reading || decide (0 < a.outst) then s
      else match a.code with
        | some 0 => if a.kind = .restore then actRestored s f a else actDestroyed s f a
        | some _ => s
        | none => match a.err with
          | some _ => actEnd s f 0x17
          | none => if actWaits s a.kind then awaitSupply s else actRun s f a

/-- MIG_OPEN_TIMEOUT (R260). A session whose RESTORE has passed its checks is no longer open to it (DEDUCED, log 170). -/
def migOpenTimeout (f : Nat) (s : State) : State :=
  if coreUp s && decide ((getFn s f).mig = .opened) && !restoring s f then scrubSession s f else s

def execActionCompletion (f : Nat) (s : State) : Out State := fin (actionCompletion f s)
def execMigOpenTimeout (f : Nat) (s : State) : Out State := fin (migOpenTimeout f s)

end Sys2Proof.Machine
end

