-- ==== Sys2Proof/Machine/Alarms.lean ====
section
/-!
DEFINITION. Tamper alarms (R107 to R112), the conditions of fault sources and what else they bring (R17, R116, R194, R318), vigil,
self-test and jubilee (R302, R324, R325), divergence (R254, R327) and LANTERN (R334).
-/
namespace Sys2Proof.Machine

open Sys2Proof

/-! ### Alarms -/

/-- Fault source of a class (R316). -/
def classSource : AlarmClass → Nat
  | .supply => 488 | .clock => 489 | .light => 490 | .temp => 491 | .parity => 492

/-- The host-chip input of a class is honoured (R107). -/
def inputOn (s : State) (c : AlarmClass) : Bool :=
  match c with
  | .supply => (cfgGet s 0x6010 7).testBit 0
  | .clock => (cfgGet s 0x6010 7).testBit 1
  | .light => (cfgGet s 0x6010 7).testBit 2
  | .temp => (cfgGet s 0x6010 7).testBit 3
  | .parity => false

/-- Absolute limits of the supply detectors, in mV (R369). -/
def suppliesOk (core aon : Nat) : Bool := decide (600 ≤ core ∧ core ≤ 900 ∧ 650 ≤ aon ∧ aon ≤ 950)

/-- A level of a supply, the always-on one or the core's, lies outside its detector's window: the absolute limits until calibration has
ended, the window centred on the measured level then, and the absolute limits at any time (R311, R369). -/
def supplyOut (s : State) (aon : Bool) (mv : Nat) : Bool :=
  let w := if aon then s.bring.aonWin else s.bring.coreWin
  (s.bring.supplyDone && decide (mv < w.1 ∨ w.2 < mv)) || !suppliesOk (if aon then 750 else mv) (if aon then mv else 800)

/-- A trip of the class by this source counts. -/
def trips (s : State) (c : AlarmClass) (src : AlarmSource) : Bool :=
  match src with
  | .sensor => true
  | .supply aon mv => decide (c = .supply) && supplyOut s aon mv
  | .input => inputOn s c
  | .register u => decide (c = .parity ∧ (kindOf u = .lane ∨ kindOf u = .kc))

def addClass (l : List AlarmClass) (c : AlarmClass) : List AlarmClass := if l.contains c then l else l ++ [c]

/-- The request is on a cipher lane or a PKA unit (step 3 of R109). -/
def onErased (q : Req) : Bool :=
  (q.unit.toList ++ q.unit2.toList).any fun u => decide (kindOf u = .lane ∨ kindOf u = .pka)

/-- What acts on the vault record alone goes on as without the alarm (R112). -/
def onRecord : Op → Bool
  | .commit | .erase | .eraseUrg => true
  | _ => false

/-- Requests that hold a key and have not reached a unit, those that need none among them. -/
def keyWaiters (s : State) : List Nat :=
  reqsWith s fun q => q.unit.isNone && q.refHeld &&
    (match q.phase with
      | .resolve | .waitEcho | .waitPeer | .waitGrant | .peer => true
      | .ready => !onRecord q.op
      | _ => false)

/-- Units whose known-answer tests must run again (step 8 of R109). -/
def needKat (s : State) (u : Nat) : State :=
  modUnit s u fun r => if r.state = .active then { r with kat := r.kat || r.tested, tested := false } else r

/-- Step 3 of R109: requests on lanes and PKA units end, those that hold a key and have not reached one go back to its resolution, and
fetches are dropped; an erase whose last holder has ended so goes on (R112). Where the safe state follows, that one ends the
requests (R410). -/
def tripStops (s : State) (safe : Bool) : State :=
  let s := if safe then s else (reqsWith s onErased).foldl (fun s r => killStep s r .faultDetected) s
  let s := (keyWaiters s).foldl backToKey s
  let s := disown { s with vault := { s.vault with fetches := [] } } fun o => match o with | .vfetch _ => true | _ => false
  s.vault.erasing.foldl eraseAdvance s

/-- Steps 2, 3 and 5 of R109: work stops, every key is erased, and key loads and lanes are blocked. -/
def tripErase (s : State) (c : AlarmClass) (safe : Bool) : State :=
  let t := ((List.range 32).map (unitAt .lane) ++ (List.range 16).map (unitAt .pka)).foldl needKat (tripStops s safe)
  { eraseKeys t with alarms := { s.alarms with
      asserted := addClass s.alarms.asserted c, active := addClass s.alarms.active c, blocked := true, holding := false
      eraseCount := s.alarms.eraseCount + 1 } }

/-- Steps 2 to 5 of R109, the trip's fault source among them, with others that the same event sets. The walker goes on with updates that
fetches held back. -/
def tripped (s : State) (c : AlarmClass) (more : List Nat) : State :=
  let srcs := classSource c :: more
  let safe := srcs.any (leadsSafe s)
  let t := srcs.foldl raiseSrc (tripErase s c safe)
  if safe then t else pumpAll (beginUpd t)

/-- ALARM_TRIP (R108, R109). While PO_RST_N is low only the level of an input is of account (R301). -/
def alarmTrip (c : AlarmClass) (src : AlarmSource) (s : State) : State :=
  if s.pins.poRstLow then
    (if src = .input ∧ c ≠ .parity then { s with alarms := { s.alarms with asserted := addClass s.alarms.asserted c } } else s)
  else if !trips s c src then s
  else
    tripped s c (match src with | .register u => [unitSource u 1] | _ => [])

/-- ALARM_INACTIVE: step 6 of R109. -/
def alarmInactive (s : State) : State :=
  let s := { s with alarms := { s.alarms with asserted := [], holding := s.alarms.blocked } }
  if s.pins.poRstLow then s else alarmOver s

/-- ALARM_HOLD_END: step 7 of R109. -/
def alarmHoldEnd (s : State) : State :=
  if s.pins.poRstLow || !s.alarms.blocked || !s.alarms.holding || !s.alarms.asserted.isEmpty then s
  else
    let s := walkOn { s with alarms := { s.alarms with blocked := false, holding := false } }
    bringWatch (pumpAll (alarmOver s))

/-! ### Fault sources -/

/-- The request on a lane whose computations a disagreement can still concern: the oldest that is not yet released whole (R115). -/
def echoVictim (s : State) (u : Nat) : Option Nat :=
  (reqsWith s fun q => q.echo && usesUnit u q && (match q.phase with
    | .writing => decide (65536 < outLen q.op q.d 0) && (q.out.isEmpty || q.spilled)
    | .ctxWrite | .ended => false
    | _ => true)).head?

/-- An echo disagreement on a lane (R116): the request on it, and the other lane's source. -/
def echoDiffers (s : State) (u : Nat) : State :=
  let rs := (echoVictim s u).toList
  let others := rs.flatMap fun r => match getReq s r with
    | some q => (q.unit.toList ++ q.unit2.toList).filter (· ≠ u)
    | none => []
  let s := { s with cnt := { s.cnt with echoMis := s.cnt.echoMis + BitVec.ofNat 32 rs.length } }
  others.foldl (fun s x => raiseSrc s (unitSource x 2)) (raiseSrc (failAll s (unitSource (others.headD u) 2) (if leadsSafe s (unitSource u 2) then [] else rs)) (unitSource u 2))

/-- The steps at which the chains of a sequencer stand: the running one, or, where step 0 has not started, the one whose checks it is at. -/
def seqSteps (s : State) (u : Nat) : List Nat :=
  s.chains.filterMap fun e => match e.2 with
    | some c => if c.seq = u then (if c.started then runningStep c else (c.steps[c.gather]?).orElse fun _ => c.steps.head?) else none
    | none => none

/-- Runs that meet an uncorrectable error end with FAULT_DETECTED (R318), or as their descriptor had failed before (R217). -/
def failRuns (s : State) (src : Nat) (cs : List Nat) : State :=
  if leadsSafe s src then s else cs.foldl (fun s c => match (getChan s c).run with
    | some x => endRun (disown s (ownChan c)) c (x.err.getD .faultDetected) x.errIdx
    | none => s) s

/-- Requests for which the movers of the groups that meet a test are moving something: data, a parameter block, a list, an operand or a
context (R221). -/
def dataReqs (s : State) (p : Nat → Bool) : List Nat :=
  reqsWith s fun q => p (groupOfReq s q) && (match q.phase with
    | .param | .srcList | .dstList | .operand | .ctx | .reading | .writing | .ctxWrite => true
    | _ => false)

/-- Chains whose intermediates lie in a group's buffer. -/
def bufferSteps (s : State) (g : Nat) : List Nat :=
  s.chains.filterMap fun e => match e.2 with
    | some c => if c.group = g ∧ 0 < c.pages then runningStep c else none
    | none => none

/-- Request of the update that the walker works on. -/
def updReq (s : State) : Option Nat :=
  match s.vault.updates with | u :: _ => if u.begun then u.req else none | [] => none

/-- Requests with a transaction on a port, those that the walker issues for them included, and runs. -/
def portReqs (s : State) (p : Nat) : List Nat :=
  ((s.txns.filter fun t => decide (t.port = p) && !t.quar).filterMap fun t => match t.own with
    | .req r _ _ | .out r | .ctx r => some r
    | .vfetch id => (s.vault.fetches.find? fun f => decide (f.id = id)).map VFetch.req
    | .vupd | .vupdR _ => updReq s
    | _ => none).eraseDups
def portRuns (s : State) (p : Nat) : List Nat :=
  ((s.txns.filter fun t => decide (t.port = p) && !t.quar).filterMap fun t => match t.own with
    | .head c | .cdesc c | .cdata c _ _ | .cwrite c _ => some c
    | _ => none).eraseDups

/-- What an uncorrectable error of a unit touched (R318): with a fence, the fence's own rules treat the work (R17, R18, R21, R24). The
model does not say which of a unit's words failed: the work that the unit holds ends, all of it (DESIGN CHOICE, log 33). -/
def touched (s : State) (u k : Nat) : State :=
  let src := unitSource u k
  let fences := decide (reactionOf s src = .fence) && active s u
  let g := unitNo u
  match kindOf u, k with
  | .grp, 1 => failAll s src (bufferSteps s g)
  | .grp, 2 => failAll s src (reqsWith s fun q => decide (0 < q.staged ∧ groupOfReq s q = g))
  | kind, k =>
    if fences then s
    else match kind, k with
      | .seq, 1 => failAll s src (seqSteps s u)
      | .lane, 1 | .hash, 1 | .pka, 1 => failAll s src (reqsWith s (usesUnit u))
      | .mov, 1 => failRuns (failAll s src (dataReqs s fun x => decide (x = g))) src (runsOn s fun m => decide (m = g))
      | .kc, 1 => failAll s src (reqsWith s fun q => q.refHeld &&
          [q.slot, q.slot2].any fun i => match i with | some i => decide (bankOf s i = some g) | none => false)
      | .port, 1 => failRuns (failAll s src (portReqs s g)) src (portRuns s g)
      | .grp, 3 => failAll s src (waitersIn s g .waitGrant)
      | .reg, 1 => failRuns (failAll s src (dataReqs s fun x => decide (x / 2 = g))) src (runsOn s fun m => decide (m / 2 = g))
      | _, _ => s

/-- An uncorrectable error of the walker's memory touched what it fetches, and the update that it works on (R318, R411). -/
def walkerTouched (s : State) : State :=
  failAll s 496 ((reqsWith s fun _ => true).filter fun r => (s.vault.fetches.any fun f => decide (f.req = r)) || decide (updReq s = some r))

/-- The uncorrectable source of a lane does not say what raised it: where it was the watch of its mask generator, the lane takes no further
block until it is reseeded (R103), and asks for the seed (R104). A free bit decides (log 140). In its grace it stays shown as in grace, and
the grace may expire (DESIGN CHOICE, log 178). -/
def watchTrips (s : State) (u : Nat) : State :=
  let hit := decide (fld (freeBytes s 1) 0 1 % 2 = 1)
  let s := useFree s 1
  if hit then askWire (setGen s (unitNo u) { getGen s (unitNo u) with watch := true }) (.gen (unitNo u)) else s

/-- The condition of a unit's source. A noise source's failed health test halts the RNG that it feeds (R188, R194). -/
def unitCondition (s : State) (u src : Nat) : State :=
  let k := src - unitSource u 0
  match kindOf u, k with
  | .ns, 0 =>
    let s := raiseSrc s src
    if coreUp s && active s u && decide (s.rng.state = .running) then haltRng s else s
  | .lane, 1 => raiseSrc (touched (if coreUp s then watchTrips s u else s) u k) src
  | .lane, 2 => echoDiffers s u
  | _, _ => raiseSrc (touched s u k) src

/-- FAULT_SOURCE_SET (R315, R316, R320). Reserved sources are never set. -/
def faultSourceSet (src : BitVec 10) (s : State) : State :=
  let n := src.toNat
  if s.pins.poRstLow || decide (521 ≤ n) then s
  else match sourceUnit n with
    | some u => unitCondition s u n
    | none =>
      if n = 488 then tripped s .supply [] else if n = 489 then tripped s .clock [] else if n = 490 then tripped s .light []
      else if n = 491 then tripped s .temp [] else if n = 492 then tripped s .parity []
      else if n = 493 ∧ coreUp s = true ∧ s.rng.state ≠ .halted then haltRng s
      else if n = 496 then raiseSrc (walkerTouched s) n
      else raiseSrc s n

/-! ### Vigil, self-test, jubilee (R324, R325) -/

/-- Vigils and self-tests of fenced units run: not in the safe state, and only for what leads (R323, R325). -/
def vigilRuns (s : State) (u : Nat) : Bool := coreUp s && !s.safe && decide (u < unitCount ∧ leaderOf s u = u)

/-- FENCE_RESOLVED. -/
def fenceResolved (u : Nat) (s : State) : State :=
  if vigilRuns s u && decide ((getUnit s u).state = .fenced) then setUnitState s u .vigil else s

/-- VIGIL_PERIOD. -/
def vigilPeriod (u : Nat) (s : State) : State :=
  if vigilRuns s u && decide ((getUnit s u).state = .vigil) then setUnitState s u .selfTest else s

/-- VIGIL_CHECK: an error sets the unit's source; a port reads its probe address. -/
def vigilCheck (u : Nat) (err : Bool) (s : State) : State :=
  if !coreUp s || s.safe || !decide (u < unitCount ∧ (getUnit s u).state = .vigil) then s
  else if err then raiseSrc s (mainSource u)
  else if kindOf u = .port ∧ cfgGet s 0x2020 0x11 ≠ 0 then probePort s (unitNo u) true
  else s

/-- A unit in service may end its tests: a lane has its generator, a PKA unit its full buffer when bring-up first makes it ready (step 13 of
R304), and neither is in an alarm's hold. -/
def mayEndTests (s : State) (u : Nat) : Bool :=
  match kindOf u with
  | .lane => (getGen s (unitNo u)).seeded && !(getGen s (unitNo u)).stopped && !(getGen s (unitNo u)).watch && !s.alarms.blocked
  | .pka => !s.alarms.blocked && ((getUnit s u).kat || !s.bring.fixed || decide (1024 ≤ (tget [] s.rng.pkaBuf (unitNo u)).length))
  | _ => true

/-- A unit that passed its self-test rejoins, or stays out where it is commanded so. What else its readiness takes it shows with a later
SELF_TEST_END. -/
def rejoin (s : State) (u : Nat) : State :=
  let st : UnitState := if unitCmd s u = 1 then .outOfService else .active
  let ok := mayEndTests s u
  modUnit s u fun r => { r with state := st, tested := ok, kat := r.kat && !ok, byCont := none, noJub := false, gated := false }

/-- A readmitted port's quarantined tags are free again (R375). One that bring-up readmits issues its reads of the survey then (R302,
R312). A PKA unit asks for its buffer's fill (R134, step 13 of R304). -/
def afterRejoin (s : State) (u : Nat) : State :=
  match kindOf u with
  | .port =>
    let s := { s with txns := s.txns.filter fun t => !(t.quar && decide (t.port = unitNo u)) }
    if s.bring.fixed && s.bring.lcRead && s.bring.bootRead && active s u && decide (cfgGet s 0x2020 0x11 ≠ 0) then
      probePort { s with bring := { s.bring with probing := true, probesLeft := tput 0 s.bring.probesLeft (unitNo u) 16 } } (unitNo u) false
    else s
  | .pka =>
    if active s u && decide (s.rng.state = .running ∧ (tget [] s.rng.pkaBuf (unitNo u)).length < 1024) then askWire s (.pka (unitNo u)) else s
  | _ => s

/-- A readmission (R324): the container and the units that follow it, one jubilee. -/
def readmit (s : State) (u : Nat) : State :=
  let us := u :: (followers s u).filter fun x => decide ((getUnit s x).state = .selfTest)
  let s := if (getUnit s u).noJub then s
    else
      { modUnit s u fun r => { r with jubilee := r.jubilee + 1, readmits := r.readmits ++ [s.pins.cycles] } with
        nv := { s.nv with jubDirty := true } }
  rebank (rehomeIdle (us.foldl afterRejoin (us.foldl rejoin s)))

/-- SELF_TEST_END of a unit. -/
def unitTested (s : State) (u : Nat) (pass : Bool) : State :=
  let r := getUnit s u
  if r.state = .active ∧ r.tested = false then
    (if !pass then raiseSrc s (mainSource u)
     else if mayEndTests s u then alarmOver (modUnit s u fun r => { r with tested := true, kat := false })
     else s)
  else if r.state = .selfTest ∧ s.safe = false then
    (if !pass then raiseSrc s (mainSource u) else if leaderOf s u = u then alarmOver (readmit s u) else s)
  else s

/-- The walker's or the pipeline's generator has passed its tests, once its seed is there (R104, R106). DESIGN CHOICE (log 177): a failed
test sets no source, nor does their watch. -/
def genTested (s : State) (g : Nat) (pass : Bool) : State :=
  if pass && (getGen s g).seeded && !(getGen s g).watch && !s.rng.wires.contains (.gen g) then walkOn (setGen s g { getGen s g with stopped := false }) else s

/-- SELF_TEST_END. -/
def selfTestEnd (t : TestTarget) (pass : Bool) (s : State) : State :=
  if !coreUp s then s
  else match t with
    | .unit u => if u < unitCount then bringAdvance (pumpAll (unitTested s u pass)) else s
    | .rng => rngTested pass s
    | .walker => bringWatch (genTested s walkerGen pass)
    | .drbgPipe => bringWatch (genTested s drbgGen pass)

/-! ### Divergence (R254, R327) -/

/-- A divergence has lasted 10 microseconds. -/
def skewed (s : State) : State := raiseSrc { s with cnt := { s.cnt with skewEvents := s.cnt.skewEvents + 1 } } 498

def stateSkew (t : SkewTarget) (s : State) : State :=
  if !coreUp s then s
  else match t with
    | .fn f =>
      if fnDiverges s f && !(getFn s f).skew then skewed (modFn s f fun r => { r with skew := true }) else s
    | .ring n =>
      if ringDiverges s n && !(getRing s n).skew then skewed (modRing s n fun r => { r with skew := true }) else s
    | .unit u =>
      if unitDiverges s u && !(getUnit s u).skew then skewed (modUnit s u fun r => { r with skew := true }) else s

/-! ### LANTERN (R334) -/

def lanternToggle (s : State) : State :=
  if coreUp s && s.bring.almanacUp && !s.safe then { s with pins := { s.pins with lantern := !s.pins.lantern } } else s

/-! ### The rows -/

def execAlarmTrip (c : AlarmClass) (src : AlarmSource) (s : State) : Out State := fin (alarmTrip c src s)
def execAlarmInactive (s : State) : Out State := fin (alarmInactive s)
def execAlarmHoldEnd (s : State) : Out State := fin (alarmHoldEnd s)
def execFaultSourceSet (src : BitVec 10) (s : State) : Out State := fin (faultSourceSet src s)
def execFenceResolved (u : Nat) (s : State) : Out State := fin (fenceResolved u s)
def execVigilPeriod (u : Nat) (s : State) : Out State := fin (vigilPeriod u s)
def execVigilCheck (u : Nat) (err : Bool) (s : State) : Out State := fin (vigilCheck u err s)
def execSelfTestEnd (t : TestTarget) (pass : Bool) (s : State) : Out State := fin (selfTestEnd t pass s)
def execStateSkew (t : SkewTarget) (s : State) : Out State := fin (stateSkew t s)
def execLanternToggle (s : State) : Out State := fin (lanternToggle s)

end Sys2Proof.Machine
end

