-- ==== Sys2Proof/Machine/Reset.lean ====
section
/-!
DEFINITION. The resets and pins that begin bring-up (R300 to R304, R328), supply calibration (R311, R369), and one step of the block
with no command waiting.
-/
namespace Sys2Proof.Machine

open Sys2Proof

/-! ### Resets (R300 to R302) -/

/-- PO_RST_N_ASSERT: the whole block is reset (`settle` imposes it while the pin is low). -/
def poAssert (s : State) : State := { s with pins := { s.pins with poRstLow := true } }

/-- What is held on the block's inputs acts at the release of a reset (R301, R328). -/
def heldInputs (s : State) : State :=
  let s := s.alarms.asserted.foldl (fun s c => if inputOn s c then tripped s c [] else s) s
  if s.pins.safeReq then raiseSrc s 514 else s

/-- PO_RST_N_RELEASE: the strap is sampled, and bring-up begins (R304). -/
def poRelease (refSel : BitVec 2) (s : State) : State :=
  if !s.pins.poRstLow then s
  else tryBegin (heldInputs { s with pins := { s.pins with poRstLow := false, refSel := refSel, cycles := 0, resetAt := 0 } })

/-- BLK_RST_N_ASSERT: a warm reset takes hold. While PO_RST_N is low it has no effect but its level (R301). -/
def blkAssert (s : State) : State :=
  if s.pins.blkRstLow then s
  else if s.pins.poRstLow then { s with pins := { s.pins with blkRstLow := true } }
  else let s := warmReset s; { s with pins := { s.pins with blkRstLow := true } }

/-- BLK_RST_N_RELEASE: bring-up begins if the block is quiescent. -/
def blkRelease (s : State) : State :=
  if !s.pins.blkRstLow then s
  else if s.pins.poRstLow then { s with pins := { s.pins with blkRstLow := false } }
  else
    let s := { s with pins := { s.pins with blkRstLow := false, resetAt := s.pins.cycles } }
    tryBegin (if s.pins.safeReq then raiseSrc s 514 else s)

/-- QUIESCENCE: the vault update that the reset let run on has completed or rolled back (R180). -/
def quiescence (s : State) : State :=
  if s.pins.poRstLow || s.pins.quiescent || !s.vault.updates.isEmpty then s
  else tryBegin { s with pins := { s.pins with quiescent := true } }

/-! ### Pins and supplies (R29, R311, R328) -/

/-- SAFE_REQ: its rise sets source 514. -/
def safeReqPin (held : Bool) (s : State) : State :=
  let t := { s with pins := { s.pins with safeReq := held } }
  if held && !s.pins.poRstLow then raiseSrc t 514 else t

/-- CORE_SUPPLY_LOST: source 513. -/
def coreSupplyLost (s : State) : State := if s.pins.poRstLow then s else raiseSrc s 513

/-- A detector's window centred on the measured level, with a half-width of 8% of it (R311). DESIGN CHOICE (log 184): its bounds are
rounded down to whole millivolts. -/
def windowOn (mv : Nat) : Nat × Nat := (mv * 92 / 100, mv * 108 / 100)

/-- SUPPLY_CALIBRATION, after step 5. -/
def supplyCalibration (core aon : Nat) (s : State) : State :=
  if !coreUp s || !s.bring.lcRead || !s.bring.bootRead || s.bring.supplyDone then s
  else
    let s := { s with bring := { s.bring with
      coreMv := core, aonMv := aon, coreWin := windowOn core, aonWin := windowOn aon, supplyDone := true } }
    if suppliesOk core aon then { s with bring := { s.bring with survey := s.bring.survey ||| 4 } } else tripped s .supply []

/-! ### One step without a command -/

/-- One REF_CLK cycle passes (the model's choice of what time does; assumption log 2). -/
def idle (s : State) : State :=
  settle (collect (bringWatch (lcReset (lcDrainOver (drainsOver (handOver (tick s)))))))

/-! ### The rows -/

def execPoRstNAssert (s : State) : Out State := fin (poAssert s)
def execPoRstNRelease (refSel : BitVec 2) (s : State) : Out State := fin (poRelease refSel s)
def execBlkRstNAssert (s : State) : Out State := fin (blkAssert s)
def execBlkRstNRelease (s : State) : Out State := fin (blkRelease s)
def execQuiescence (s : State) : Out State := fin (quiescence s)
def execClockSurvey (core port mgmt : Nat) (s : State) : Out State := fin (clockSurvey core port mgmt s)
def execHandshakeTimeout (lookup : Bool) (s : State) : Out State := fin (handshakeTimeout lookup s)
def execVaultBringup (s : State) : Out State := fin (vaultBringup s)
def execIdentityKeysDerived (s : State) : Out State := fin (identityKeysDerived s)
def execSafeReq (held : Bool) (s : State) : Out State := fin (safeReqPin held s)
def execCoreSupplyLost (s : State) : Out State := fin (coreSupplyLost s)
def execSupplyCalibration (core aon : Nat) (s : State) : Out State := fin (supplyCalibration core aon s)
def execFuseRead (word : BitVec 4) (answer : Option (BitVec 32)) (s : State) : Out State := fin (fuseRead word answer s)

end Sys2Proof.Machine
end

