-- ==== Sys2Proof/Machine/Peer.lean ====
section
/-!
DEFINITION. The peer port (R224 to R232, R314, R390 to R393) and the lookup port (R233, R234, R394, R395).
-/
namespace Sys2Proof.Machine

open Sys2Proof

/-! ### Tokens (R393) -/

def findToken (s : State) (t : Nat) : Option Token := s.peer.tokens.find? fun k => decide (k.token = t)

/-- A token may be opened: it is not open, and fewer than 64 are. -/
def mayOpen (s : State) (t : Nat) : Bool := (findToken s t).isNone && decide (s.peer.tokens.length < 64)

/-- Open a token for a request and send its first message. -/
def openToken (s : State) (r t : Nat) (claim : Bool) (m : PeerMsg) : State :=
  let s := { s with peer := { s.peer with tokens := s.peer.tokens ++ [{ token := t, req := r, claim := claim }] } }
  sendPeer (modReq s r fun q => { q with token := some t, phase := .peer }) m

/-- A token closes without a message. -/
def closeToken (s : State) (k : Token) : State :=
  modReq { s with peer := { s.peer with tokens := s.peer.tokens.filter fun x => decide (x.token ≠ k.token) } } k.req fun q =>
    { q with token := none }

/-- Job capacity of a SRC_PEER step, stored length of a DST_PEER step (R227). -/
def jobLen (q : Req) : Nat := q.d.srcLen - 16

/-- The part of a message that a request gives. -/
def msgOf (s : State) (q : Req) (ty tok : Nat) : PeerMsg :=
  { type := ty, fn := q.fn, pasid := ringCfg s q.ring 6, token := tok, len := jobLen q }

/-- A peer step fails (R229, R231): PEER_FAILURES counts it. -/
def peerFail (s : State) (r : Nat) : State :=
  failStep { s with peer := { s.peer with failures := s.peer.failures + 1 } } r .peerFailed 0

/-- A protocol break (R229, R393): source 501, and ABANDON with the end of the step for an open token. -/
def peerBreak (s : State) (t : Nat) : State :=
  failWith s [501] fun s => match findToken s t with
  | none => s
  | some k => pumpAll (peerFail (abandonToken { s with peer := { s.peer with violations := s.peer.violations + 1 } } t) k.req)

/-! ### Steps (R228, R231) -/

/-- Step 1 of R228. -/
def claim (s : State) (r : Nat) (q : Req) : State :=
  if mayOpen s q.d.src then openToken s r q.d.src true (msgOf s q 0x10 q.d.src) else s

/-- SRC_PEER: its claim, its acceptance, its output. -/
def srcPeerOp (r : Nat) (s : State) : State :=
  match getReq s r with
  | none => s
  | some q =>
    if q.op ≠ .aeadEnc || !q.d.flag fSrcPeer || s.safe then s
    else if q.phase = .waitPeer then claim s r q
    else if q.phase = .ready then pumpAll (symAccept s r q)
    else if q.phase = .loaded then pumpAll (symFinish s r q)
    else s

/-- The header of a stored job is well formed (item 2 of R231). -/
def headerOk (q : Req) : Bool :=
  let h := q.srcB
  decide (fld h 0 2 = 1 ∧ fld h 2 1 < 2 ∧ fld h 12 4 = 0 ∧ fld h 8 4 = jobLen q) &&
  (decide (fld h 2 1 = 0) || decide (fld h 4 4 = fld h 8 4))

/-- Item 3 of R231: the offer and the plaintext. -/
def offer (s : State) (r : Nat) (q : Req) : State :=
  if mayOpen s q.d.dst then
    openToken (setReq s r (some { q with sent := true, discard := true })) r q.d.dst false
      { msgOf s q 0x20 q.d.dst with
        origLen := fld q.srcB 4 4, raw := decide (fld q.srcB 2 1 = 1), alg := fld q.srcB 3 1, data := q.out }
  else s

/-- Items 1 and 2 of R231, on a step whose source has been read. Its lane is free once the plaintext is staged, its key registers zero
(R102). A segment with CONTEXT_OUT is checked by its tag like any other, since nothing reaches the peer before that, and writes no
context (DESIGN CHOICE, log 162). -/
def dstLoaded (s : State) (r : Nat) (q : Req) : State :=
  symEnd s r q fun s x =>
    let o := runSeg x
    if o.tag ≠ (prmTag q.prm).take o.tag.length then failStep s r .authFail 0
    else if !headerOk q then failStep s r .descField 8
    else
      let q := { q with phase := .peer, out := o.out, unit := none, unit2 := none, regs := [], regs2 := [], regsB := [] }
      offer (setReq s r (some q)) r q

/-- DST_PEER: its acceptance, its decryption, its offer. -/
def dstPeerOp (r : Nat) (s : State) : State :=
  match getReq s r with
  | none => s
  | some q =>
    if q.op ≠ .aeadDec || !q.d.flag fDstPeer || s.safe then s
    else if q.phase = .ready then pumpAll (symAccept s r q)
    else if q.phase = .loaded then pumpAll (dstLoaded s r q)
    else if q.phase = .peer ∧ q.sent = false then offer s r q
    else s

/-! ### Messages from the peer (R391 to R393) -/

/-- CAPS (R314, R392). In the safe state no message is acted on any more, and a stray one sets its source as ever (R333). -/
def capsMsg (h : PeerHdr) (s : State) : State :=
  if !coreUp s then s
  else if h.stray then raiseSrc s 501
  else if s.safe || !s.bring.peerWait then s
  else bringWatch { s with
    bring := { s.bring with peerWait := false }
    peer := { s.peer with present := true, caps := BitVec.ofNat 2 (h.origLen % 4), maxJob := min h.len 1048576 } }

/-- DATA. -/
def dataMsg (h : PeerHdr) (b : Bytes) (s : State) : State :=
  if !coreUp s then s
  else if h.stray then peerBreak s h.token
  else match findToken s h.token with
    | none => s
    | some k =>
      let room := match getReq s k.req with | some q => jobLen q | none => 0
      if !k.claim || decide (h.len = 0 ∨ 65536 < h.len ∨ b.length ≠ h.len ∨ room < k.got.length + h.len) then peerBreak s h.token
      else { s with peer := { s.peer with tokens := s.peer.tokens.map fun x =>
        if x.token = h.token then { x with got := x.got ++ b } else x } }

/-- The peer header (R226). -/
def peerHeader (h : PeerHdr) : Bytes :=
  le 2 1 ++ le 1 (ofBool h.raw) ++ le 1 h.alg ++ le 4 h.origLen ++ le 4 h.len ++ le 4 0

/-- Step 4 of R228. A key that an alarm erased is resolved again first (R110). Test 1 of R74 comes here, before the tests that R228 places
(DESIGN CHOICE, log 163). -/
def jobReceived (s : State) (r : Nat) (q : Req) : State :=
  if q.slot.isNone then resolve s r
  else if q.d.flag fCtxIn then
    (match ctxTest s q with
      | .error e => failStep s r e 0
      | .ok b => checkNine s r q (some b) (enqueue s r))
  else checkNine s r q none (enqueue s r)

/-- Fields of JOB_END that the job's direction does not use (R392). -/
def jobEndStray (k : Token) (h : PeerHdr) : Bool :=
  h.stray || (!k.claim && (decide (h.len ≠ 0 ∨ h.origLen ≠ 0 ∨ h.alg ≠ 0) || h.raw))

/-- JOB_END. -/
def jobEndMsg (h : PeerHdr) (s : State) : State :=
  if !coreUp s then s
  else match findToken s h.token with
    | none => if h.stray then raiseSrc s 501 else s
    | some k =>
      match getReq s k.req with
      | none => closeToken s k
      | some q =>
        if jobEndStray k h then peerBreak s h.token
        else if h.status ≠ 0 then pumpAll (peerFail (closeToken s k) k.req)
        else if !k.claim then pumpAll (endStep (closeToken s k) k.req .ok (jobLen q))
        else if h.len ≠ k.got.length || (h.raw && decide (h.origLen ≠ h.len)) then peerBreak s h.token
        else
          let q := { q with d := { q.d with srcLen := 16 + h.len }, srcB := peerHeader h ++ k.got, sent := true, token := none }
          pumpAll (jobReceived (setReq (closeToken s k) k.req (some q)) k.req q)

/-- A message of an undefined TYPE. -/
def undefinedPeerMsg (token : Nat) (s : State) : State := if !coreUp s then s else peerBreak s token

/-- PEER_TIMEOUT, for an open job or for the wait for a token (R229, R393). -/
def peerTimeout (r : Nat) (s : State) : State :=
  match getReq s r with
  | none => s
  | some q =>
    if q.phase ≠ .peer ∧ q.phase ≠ .waitPeer then s
    else match q.token with
      | some t => failWith (abandonToken s t) [501] fun s => pumpAll (peerFail s r)
      | none => pumpAll (peerFail s r)

/-! ### The lookup port (R233, R234, R395) -/

/-- The request has a query outstanding. -/
def queried (s : State) (r : Nat) : Bool := s.lookup.queries.any fun k => decide (k.req = r)

/-- Requests whose query waits for a free QID, in order of arrival. -/
def qidWaiters (s : State) : List Nat :=
  (reqsWith s fun q => decide (q.phase = .lookup ∧ q.tries % 2 = 0)).filter fun r => !queried s r

/-- QIDs that have become free go to the queries that wait. -/
def sendWaiting (s : State) : State :=
  (qidWaiters s).foldl (fun s r => match getReq s r with | some q => sendQuery s r q | none => s) s

/-- Several matches (item 3 of R233): two retries, then KEY_AMBIGUOUS. -/
def ambiguous (s : State) (r : Nat) (q : Req) : State :=
  if q.tries < 4 then setReq s r (some { q with tries := q.tries + 1 })
  else failStep { s with lookup := { s.lookup with fails := s.lookup.fails + 1 } } r .keyAmbiguous 0

/-- The answer to a request's query (R233). -/
def queryAnswered (s : State) (r : Nat) (q : Req) (result slot : Nat) : State :=
  match result with
  | 0 => failStep s r .keyNotFound 0
  | 1 => if slot = 0 then falseHit s r else resolve (setReq s r (some { q with target := some slot })) r
  | _ => ambiguous s r q

/-- LOOKUP_ANSWER. -/
def lookupAnswer (qid : BitVec 6) (result : BitVec 2) (slot : BitVec 24) (s : State) : State :=
  if !coreUp s || s.safe then s
  else if s.bring.lookupWait then
    (if result = 3 ∧ qid = 0 then
      bringWatch { s with bring := { s.bring with lookupWait := false }
                          lookup := { s.lookup with present := true, queries := s.lookup.queries.filter fun k => decide (k.kind ≠ 1) } }
    else s)
  else match s.lookup.queries.find? fun k => decide (k.qid = qid.toNat) with
    | some k =>
      if result = 3 then s
      else
        let s := { s with lookup := { s.lookup with queries := s.lookup.queries.filter fun x => decide (x.qid ≠ k.qid) } }
        let s := match getReq s k.req with
          | some q => if q.phase = .lookup then queryAnswered s k.req q result.toNat slot.toNat else s
          | none => s
        pumpAll (sendWaiting s)
    | none => if result = 3 then s else sendWaiting { s with lookup := { s.lookup with quar := s.lookup.quar.filter (· ≠ qid.toNat) } }

/-- LOOKUP_RETRY: 2 microseconds after an ambiguous answer. -/
def lookupRetry (r : Nat) (s : State) : State :=
  match getReq s r with
  | none => s
  | some q =>
    if q.phase ≠ .lookup ∨ q.tries % 2 = 0 then s
    else sendQuery { s with lookup := { s.lookup with retries := s.lookup.retries + 1 } } r { q with tries := q.tries + 1 }

/-- LOOKUP_TIMEOUT: the QID stays quarantined until its late answer. Between an ambiguous answer and its retry no query is out, and no
time runs (R233, R234). -/
def lookupTimeout (r : Nat) (s : State) : State :=
  match getReq s r with
  | none => s
  | some q =>
    if q.phase ≠ .lookup ∨ q.tries % 2 = 1 then s
    else
      let mine := (s.lookup.queries.filter fun k => decide (k.req = r)).map Query.qid
      let s := { s with lookup := { s.lookup with
        queries := s.lookup.queries.filter fun k => decide (k.req ≠ r), quar := s.lookup.quar ++ mine
        timeouts := s.lookup.timeouts + 1 } }
      failWith s [500] fun s => pumpAll (failStep s r .keyNotFound 0)

/-! ### The rows -/

def execSrcPeer (r : Nat) (s : State) : Out State := fin (srcPeerOp r s)
def execDstPeer (r : Nat) (s : State) : Out State := fin (dstPeerOp r s)
def execCaps (h : PeerHdr) (s : State) : Out State := fin (capsMsg h s)
def execData (h : PeerHdr) (bytes : Bytes) (s : State) : Out State := fin (dataMsg h bytes s)
def execJobEnd (h : PeerHdr) (s : State) : Out State := fin (jobEndMsg h s)
def execUndefinedPeerMessage (token : Nat) (s : State) : Out State := fin (undefinedPeerMsg token s)
def execPeerTimeout (r : Nat) (s : State) : Out State := fin (peerTimeout r s)
def execLookupAnswer (qid : BitVec 6) (result : BitVec 2) (slot : BitVec 24) (s : State) : Out State :=
  fin (lookupAnswer qid result slot s)
def execLookupRetry (r : Nat) (s : State) : Out State := fin (lookupRetry r s)
def execLookupTimeout (r : Nat) (s : State) : Out State := fin (lookupTimeout r s)

end Sys2Proof.Machine
end

