-- ==== Sys2Proof/Machine/Drain.lean ====
section
/-!
DEFINITION. The bounds of drains (R40, R222, R275, R324): what is left is aborted, and the change applies.
-/
namespace Sys2Proof.Machine

open Sys2Proof

/-! ### A unit (R324) -/

/-- A run is aborted; one that its descriptor has failed ends with that failure (R217). Its CCB is written by the mover that serves the
channel now. -/
def abortRun (s : State) (c : Nat) : State :=
  match (getChan s c).run with
  | some x => endRun (modRun (disown s (ownChan c)) c fun x => { x with mover := chanMover s c }) c (x.err.getD .abortedReset) x.errIdx
  | none => s

/-- The request or run that a transaction of a draining port serves is aborted. -/
def abortOwner (s : State) (o : Own) : State :=
  match o with
  | .req r _ _ | .out r | .ctx r => killStep s r .abortedReset
  | .head c | .cdesc c | .cdata c _ _ | .cwrite c _ =>
    (match (getChan s c).run with
      | some x => if x.stage = .ccb then s else abortRun s c
      | none => s)
  | _ => s

/-- Owners of the transactions on the ports that meet a test. -/
def portOwners (s : State) (p : Nat → Bool) : List Own := (s.txns.filter fun t => p t.port && !t.quar).map Txn.own

/-- Started chains of the groups that meet a test. -/
def chainsIn (s : State) (p : Nat → Bool) : List Nat :=
  s.chains.filterMap fun e => match e.2 with
    | some c => if p c.group && c.started then some e.1 else none
    | none => none

def abortReqs (s : State) (rs : List Nat) : State := rs.foldl (fun s r => killStep s r .abortedReset) s
def abortChains (s : State) (cs : List Nat) : State := cs.foldl (fun s c => killChain s c .abortedReset) s

/-- Runs of the movers that meet a test are aborted. -/
def abortRuns (s : State) (p : Nat → Bool) : State :=
  (runsOn s p).foldl abortRun s

/-- Work still running on a unit at the end of its drain completes with ABORTED_RESET. -/
def abortOn (s : State) (u : Nat) : State :=
  let n := unitNo u
  match kindOf u with
  | .lane | .hash | .pka => abortReqs s (reqsWith s (usesUnit u))
  | .port => (portOwners s fun p => decide (p = n)).foldl abortOwner s
  | .mov => abortRuns (abortReqs s (movReqs s n)) fun m => decide (m = n)
  | .grp => abortRuns (abortChains s (chainsIn s fun g => decide (g = n))) fun m => decide (m = n)
  | .reg =>
    let s := abortRuns (abortChains s (chainsIn s fun g => decide (g / 2 = n))) fun m => decide (m / 2 = n)
    (portOwners s fun p => decide (p / 4 = n)).foldl abortOwner s
  | .seq => abortChains s (s.chains.filterMap fun e => match e.2 with
      | some c => if c.seq = u ∧ c.started = true then some e.1 else none
      | none => none)
  | .kc | .ns => s

def unitDrainBound (u : Nat) (s : State) : State :=
  if coreUp s && !s.safe && (getUnit s u).draining then bringWatch (pumpAll (unitOut (abortOn s u) u)) else s

/-! ### A ring's ECHO (R275) -/

def echoDrainBound (n : Nat) (s : State) : State :=
  if coreUp s && !s.safe && (getRing s n).echoWait then
    pumpAll (modRing (abortChains s (chainsOf s n)) n fun r => { r with echoWait := false })
  else s

/-- DRAIN_BOUND. -/
def drainBound (t : DrainTarget) (s : State) : State :=
  match t with
  | .ringEcho n => echoDrainBound n s
  | .unit u => unitDrainBound u s

/-! ### The rows -/

def execRingDrainBound (n : Nat) (s : State) : Out State := fin (ringDrainBound n s)
def execChannelDisableBound (c : Nat) (s : State) : Out State := fin (channelDisableBound c s)
def execDrainBound (t : DrainTarget) (s : State) : Out State := fin (drainBound t s)

end Sys2Proof.Machine
end

