-- ==== Sys2Proof/Machine/Procession.lean ====
section
/-!
DEFINITION. Rows of Procession: channel doorbells and stop words (R204, R206), run starts (R205), the five operations (R209 to
R212) and the firing of timers (R220).
-/
namespace Sys2Proof.Machine

open Sys2Proof

/-! ### Doorbells, stop words and starts -/

/-- The channel that a word of the doorbell page names, if it takes writes (R204, R379): a channel that a disable is stopping takes none
(DESIGN CHOICE, log 165). -/
def chanWord (s : State) (f off : Nat) (stop : Bool) : Option Nat :=
  if !targetOpen s f || decide (off < 0x800 ∨ 0xA00 ≤ off ∨ off % 8 ≠ (if stop then 4 else 0)) then none
  else match chanAt s f ((off - 0x800) / 8) with
    | some c => if chanEnabled (getChan s c) && !(getChan s c).disable then some c else none
    | none => none

/-- CHANNEL_DOORBELL (R204). -/
def channelDoorbell (f : Nat) (off : BitVec 13) (v : U32) (s : State) : State :=
  match chanWord s f off.toNat false with
  | none => s
  | some c =>
    let r := getChan s c
    let d := (v - r.prev).toNat
    if d = 0 then s
    else if r.pending + d ≤ 255 then setChan s c { r with pending := r.pending + d, prev := v }
    else setChan s c (startLost r)

/-- STOP (R206). -/
def stopWord (f : Nat) (off : BitVec 13) (v : U32) (s : State) : State :=
  match chanWord s f off.toNat true with
  | none => s
  | some c => if v.getLsbD 0 then stopChan s c false else s

/-- A channel may take a start: it is IDLE with one pending, its function is RUNNING, its mover works and a port of the mover's
region is ready (R205, R253, R308). -/
def mayStart (s : State) (c : Nat) : Bool :=
  let r := getChan s c
  coreUp s && !s.safe && !s.life.draining && decide (r.state = .idle ∧ 0 < r.pending) &&
  (match r.owner with | some f => decide ((getFn s f).state = .running) | none => false) &&
  movOpen s (chanMover s c) &&
  (activePorts s (chanMover s c / 2)).any fun p => unitReady s (unitAt .port p)

/-- CHANNEL_RUN_START: HEAD is read (R203, R205). -/
def channelRunStart (c : Nat) (s : State) : State :=
  if !mayStart s c then s
  else
    let s := modChan s c fun r => { r with
      pending := r.pending - 1, state := .running, run := some { hopLim := chanCfg s c 7, vector := chanCfg s c 0x0A, outst := 1,
                                                                  mover := chanMover s c } }
    let s := modUnit s (unitAt .mov (chanMover s c)) fun u => { u with gated := false }
    if hitsVault s c (chanCfg s c 3) 8 then ccbFailed s c
    else readPieces s (chanWho s c) [(0, chanCfg s c 3, 8)] (fun _ => .head c) false

/-! ### The operations -/

/-- The run of a channel, if its descriptor is of an operation and stands at a stage that its command goes on from. -/
def runAt (s : State) (c op : Nat) : Option Run :=
  match (getChan s c).run with
  | some x => if ctlOp x.ctl = op ∧ x.outst = 0 ∧ x.stop = false ∧ s.safe = false then some x else none
  | none => none

/-- COPY: A is read, and B is written as it arrives. -/
def copyRun (c : Nat) (s : State) : State :=
  match runAt s c 1 with
  | none => s
  | some x =>
    match x.stage with
    | .checked => runReads s c .data (onStream 1 (piecesOf x.a x.c))
    | _ => s

/-- FILL: byte i of B is byte i mod 8 of A. -/
def fillRun (c : Nat) (s : State) : State :=
  match runAt s c 2 with
  | none => s
  | some x =>
    match x.stage with
    | .checked => runWrites s c (piecesOf x.b x.c) ((List.range x.c).map fun i => (le 8 x.a).getD (i % 8) 0)
    | _ => s

/-- COMPARE: both sources are read; the first byte that differs ends the run (R212). -/
def compareRun (c : Nat) (s : State) : State :=
  match runAt s c 3 with
  | none => s
  | some x =>
    match x.stage with
    | .checked => runReads s c .data (onStream 1 (piecesOf x.a x.c) ++ onStream 2 (piecesOf x.b x.c))
    | .data =>
      (match firstDiff 0 (runStream x 1) (runStream x 2) with
        | none => retireDesc s c 0
        | some i => endRun s c .verifyMismatch i)
    | _ => s

/-- The index table of a descriptor, as a stage of reads. -/
def tablePieces (x : Run) : List (Nat × Nat × Nat × Nat) := onStream 0 (piecesOf x.a (ctlCount x.ctl * idxWidth x.ctl))

/-- GATHER: the table, then the elements; B is written as they arrive. -/
def gatherRun (c : Nat) (s : State) : State :=
  match runAt s c 4 with
  | none => s
  | some x =>
    match x.stage with
    | .checked => runReads s c .index (tablePieces x)
    | .index =>
      let addrs := elemAddrs x (runStream x 0)
      (match badElem s c x addrs with
        | some i => endRun s c .memDecode i
        | none => runReads s c .data (onStream 1 (elemPieces x addrs)))
    | _ => s

/-- SCATTER: the table and B, then the elements. -/
def scatterRun (c : Nat) (s : State) : State :=
  match runAt s c 5 with
  | none => s
  | some x =>
    match x.stage with
    | .checked => runReads s c .index (tablePieces x ++ onStream 2 (piecesOf x.b (ctlCount x.ctl * ctlElem x.ctl)))
    | .index =>
      let addrs := elemAddrs x (runStream x 0)
      (match badElem s c x addrs with
        | some i => endRun s c .memDecode i
        | none => runWrites s c (elemPieces x addrs) (runStream x 2))
    | _ => s

/-- TIMER_FIRING: an armed timer reaches its next firing (R220). -/
def timerFiring (t : Nat) (s : State) : State := if coreUp s && (getTimer s t).armed then fireTimer s t else s

def execChannelDoorbell (f : Nat) (off : BitVec 13) (v : U32) (s : State) : Out State := fin (channelDoorbell f off v s)
def execStop (f : Nat) (off : BitVec 13) (v : U32) (s : State) : Out State := fin (stopWord f off v s)
def execChannelRunStart (c : Nat) (s : State) : Out State := fin (channelRunStart c s)
def execCopy (c : Nat) (s : State) : Out State := fin (copyRun c s)
def execFill (c : Nat) (s : State) : Out State := fin (fillRun c s)
def execCompare (c : Nat) (s : State) : Out State := fin (compareRun c s)
def execGather (c : Nat) (s : State) : Out State := fin (gatherRun c s)
def execScatter (c : Nat) (s : State) : Out State := fin (scatterRun c s)
def execTimerFiring (t : Nat) (s : State) : Out State := fin (timerFiring t s)

end Sys2Proof.Machine
end

