-- ==== Sys2Proof/Machine/Serve.lean ====
section
/-!
DEFINITION. The Almanac service (R270 to R289, R333): the checks of R283 in their order, and what each operation does.
-/
namespace Sys2Proof.Machine

open Sys2Proof

/-! ### Checks 1 to 7 of R283 -/

/-- Check 1. -/
def headBad (m : AapMsg) : Bool :=
  !decide (m.ver = 1 ∨ m.ver = 2) || decide (7 < m.op ∨ (m.ver = 1 ∧ 4 < m.op)) ||
  decide (m.flags ≠ 0 ∨ m.status ≠ 0 ∨ m.rsvd ≠ 0) || decide ((m.op = 3 ∨ m.op = 4) ∧ m.sub ≠ 0) || decide (m.ver = 1 ∧ m.off ≠ 0)

/-- The operation acts on an entry. -/
def onEntry (op : Nat) : Bool := decide (op = 1 ∨ op = 2 ∨ op = 5 ∨ op = 6)

/-- Rights of a principal on the entries of a group. -/
def groupRights (s : State) (p : Principal) (g : Nat) : Rights :=
  { read := (groupEntries g).any fun e => (rightsAt s p e.1 e.2).read
    write := mayStage p g && (groupEntries g).any fun e => (rightsAt s p e.1 e.2).write }

/-- First sub-index from `lo` on that the principal can read or write. -/
def visibleSub (s : State) (p : Principal) (i lo : Nat) : Option Nat :=
  (List.range 256).find? fun k => decide (lo ≤ k) && (rightsAt s p i k).any

/-- The entries that SCRAPPED leaves open (R280). -/
def scrapOpen (i sub : Nat) : Bool := decide (i = 0x1000 ∨ i = 0x1001 ∨ (i = 0x9000 ∧ (sub = 1 ∨ sub = 2)))

/-- The next entry after an address that the principal can read or write (R282), of all or of those that SCRAPPED leaves open. -/
def nextAmong (s : State) (p : Principal) (i sub : Nat) (cut : Bool) : Option (Nat × Nat) :=
  let idx := directory.filter fun j => !cut || decide (j = 0x1000 ∨ j = 0x1001 ∨ j = 0x9000)
  let see (j lo : Nat) : Option Nat := (visibleSub s p j lo).filter fun k => !cut || scrapOpen j k
  match if !cut || idx.contains i then see i (sub + 1) else none with
  | some k => some (i, k)
  | none => (idx.filter fun j => decide (i < j)).findSome? fun j => (see j 0).map fun k => (j, k)

/-- The entry that NEXT names (R282, R280). -/
def nextEntry (s : State) (p : Principal) (i sub : Nat) : Option (Nat × Nat) := nextAmong s p i sub (scrapped s)

/-- Check 2. -/
def noEntry (s : State) (m : AapMsg) : Bool :=
  if onEntry m.op then !(rightsAt s m.prin m.index m.sub).any
  else if m.op = 7 then (nextAmong s m.prin m.index m.sub false).isNone
  else !(groupRights s m.prin m.index).any

/-- The group's pending copy has another holder (R277). -/
def heldByOther (s : State) (p : Principal) (g : Nat) : Bool :=
  match findPend s g with | some x => decide (x.holder ≠ p) | none => false

/-- Check 3. -/
def noAccess (s : State) (m : AapMsg) : Bool :=
  match m.op with
  | 1 | 5 => !(rightsAt s m.prin m.index m.sub).read
  | 2 => !(rightsAt s m.prin m.index m.sub).write
  | 3 | 4 => !(groupRights s m.prin m.index).write || heldByOther s m.prin m.index
  | _ => false

/-- What SCRAPPED leaves open: READ, DESCRIBE and NEXT of the open entries (R280). -/
def scrapMay (m : AapMsg) : Bool := decide (m.op = 1 ∨ m.op = 6 ∨ m.op = 7) && scrapOpen m.index m.sub

/-- Check 4. -/
def lcRefused (s : State) (m : AapMsg) : Bool :=
  (scrapped s && !scrapMay m) || (decide (m.op = 2 ∧ m.index = 0x6010 ∧ m.sub = 7) && !maskWritable s)

/-- LENGTH and OFFSET against the type of an entry (R285). -/
def segmentBad (m : AapMsg) (e : Entry) : Option AapCode :=
  let n := e.ty.len
  if e.ty.isOct then
    if m.ver = 1 then (if 1024 < n then some .version else if m.len ≠ n then some .type else none)
    else if m.op = 2 ∧ n < m.off + m.len then some .type
    else none
  else if m.off ≠ 0 then some .type
  else if m.len = n ∨ (m.ver = 1 ∧ m.op = 1 ∧ m.len = 0) then none
  else some .type

/-- Check 5. -/
def lengthBad (m : AapMsg) : Option AapCode :=
  if m.rcvd ≠ msgLength m ∨ 1024 < m.len then some .type
  else if m.op = 1 ∨ m.op = 2 ∨ m.op = 5 then (entryAt m.index m.sub).bind (segmentBad m)
  else if m.len ≠ 0 ∨ m.off ≠ 0 then some .type
  else none

/-- Check 6. -/
def rangeBad (m : AapMsg) : Bool :=
  decide (m.op = 2) &&
  (match entryAt m.index m.sub with | some e => !e.ty.isOct && !legalValue e (ofLe m.value) | none => false)

/-- What the safe state leaves open (R333). -/
def safeMay (m : AapMsg) : Bool :=
  decide (m.op = 1 ∨ m.op = 4 ∨ m.op = 5 ∨ m.op = 6 ∨ m.op = 7) || decide (m.op = 2 ∧ m.index = 0x3000 ∧ 1 ≤ m.sub ∧ m.sub ≤ 0x18)

/-- A transition or its resume restricts the service (R305, R345). The safe state ends a transition. -/
def restricted (s : State) : Bool := s.bring.resume || (s.life.busy && !s.safe)

def resumeMay (m : AapMsg) : Bool :=
  decide (m.op = 1 ∨ m.op = 6 ∨ m.op = 7) &&
  decide (m.index = 0x1000 ∨ m.index = 0x1001 ∨ m.index = 0x2000 ∨ m.index = 0x3000 ∨ m.index = 0x9000)

/-- Check 7. -/
def classBusy (s : State) (m : AapMsg) : Bool :=
  (s.safe && !safeMay m) || (restricted s && !resumeMay m) ||
  (decide (m.op = 2) && (match groupOfEntry m.index m.sub with | some g => heldByOther s m.prin g | none => false))

/-- Checks 1 to 6. -/
def refusedEarly (s : State) (m : AapMsg) : Option AapCode :=
  if headBad m then some .version
  else if noEntry s m then some .noEntry
  else if noAccess s m then some .access
  else if lcRefused s m then some .lifecycle
  else match lengthBad m with
    | some e => some e
    | none => if rangeBad m then some .range else none

/-- Checks 1 to 7. -/
def refused (s : State) (m : AapMsg) : Option AapCode :=
  match refusedEarly s m with
  | some e => some e
  | none => if classBusy s m then some .busy else none

/-! ### Reads (R282, R285, R286) -/

/-- The part of a value that a read asks for. -/
def segment (m : AapMsg) (e : Entry) (v : Bytes) : Bytes := if e.ty.isOct ∧ m.ver = 2 then slice v m.off m.len else v

/-- A read of a challenge draws it (R298). While the CTR_DRBG waits for its reseed the read stays open (log 138); while its pipeline has
stopped it is refused, as without the RNG (DESIGN CHOICE, log 62). -/
def readChallenge (s : State) (m : AapMsg) (e : Entry) : State :=
  if s.rng.state ≠ .running ∨ drbgUp s = false then answer s m .busy []
  else match drbgReady s with
    | none => askWire s .drbg
    | some s => let d := drawChallenge s (decide (m.index = 0x9001)); answer d.2 m .ok (segment m e d.1)

/-- A read of AL 8000.0D (R193, R198). R193 names no code for an RNG that runs while the pipeline's own generator has stopped; it is that
of a halt (DESIGN CHOICE, log 62). -/
def readRandom (s : State) (m : AapMsg) (e : Entry) : State :=
  match drbgStop s with
  | some st => answer s m .ok (segment m e (le 2 st.code ++ zeros 32))
  | none => match drbgReady s with
    | none => askWire s .drbg
    | some s => let d := drbgCall s [] 32; answer d.2 m .ok (segment m e (le 2 0 ++ d.1))

/-- A read of a long value through its snapshot (R286). -/
def readLong (s : State) (m : AapMsg) (e : Entry) : State :=
  let key := 256 * m.index + m.sub
  let mine (x : Snapshot) : Bool := decide (x.prin = m.prin ∧ x.key = key)
  if m.off = 0 then
    let v := entryValue s m.index m.sub
    let snaps := (s.mgmt.snaps.filter fun x => !mine x) ++ [{ prin := m.prin, key := key, val := v }]
    answer { s with mgmt := { s.mgmt with snaps := snaps } } m .ok (segment m e v)
  else match s.mgmt.snaps.find? mine with
    | some x => answer s m .ok (segment m e x.val)
    | none => answer s m .busy []

/-- An interval counter is returned and set to zero (R274, R299). -/
def readInterval (s : State) (m : AapMsg) : State :=
  let f := m.index - 0xC100
  let v := entryValue s m.index m.sub
  answer (modStat s f fun r => if m.sub = 6 then { r with intReq := 0 } else { r with intUnits := 0 }) m .ok v

def isChallenge (i sub : Nat) : Bool := decide ((i = 0x9000 ∨ i = 0x9001) ∧ sub = 3)

/-- READ. -/
def readEntry (s : State) (m : AapMsg) (e : Entry) : State :=
  if isInterval m.index m.sub then readInterval s m
  else if isChallenge m.index m.sub then readChallenge s m e
  else if m.index = 0x8000 ∧ m.sub = 0x0D then readRandom s m e
  else if e.acc = .ro ∧ e.ty.isOct = true ∧ 1024 < e.ty.len then readLong s m e
  else answer s m .ok (segment m e (entryValue s m.index m.sub))

/-- READ_PENDING: the holder's value, or what READ gives where none is pending for it (R277, R282). -/
def readPend (s : State) (m : AapMsg) (e : Entry) : State :=
  match groupOfEntry m.index m.sub with
  | none => readEntry s m e
  | some g =>
    let v := match findPend s g with
      | some p => if p.holder = m.prin then (pendVal p m.index m.sub).getD (entryValue s m.index m.sub) else entryValue s m.index m.sub
      | none => entryValue s m.index m.sub
    answer s m .ok (segment m e v)

/-! ### DESCRIBE and NEXT (R282, R287) -/

/-- The function for which the VE column of a descriptor speaks: the requester, or the one whose record the entry is. -/
def veOf (s : State) (m : AapMsg) : Nat :=
  let i := m.index
  let f := match m.prin with
    | .ve f => f
    | _ =>
      if 0x4000 ≤ i ∧ i ≤ 0x4400 then i - 0x4000
      else if 0x5000 ≤ i ∧ i ≤ 0x5FFF then (getRing s (i - 0x5000)).owner.getD 0
      else if 0xA000 ≤ i ∧ i ≤ 0xA0FF then (getChan s (i - 0xA000)).owner.getD 0
      else if 0xC100 ≤ i ∧ i ≤ 0xC500 then i - 0xC100
      else 1
  if f = 0 then 1 else f

/-- Access that a principal has, as a descriptor codes it. -/
def accessCode (e : Entry) (r : Rights) : Nat :=
  if r.write then e.acc.code else if r.read then (if e.acc = .rc then 5 else 1) else 0

/-- A descriptor (R287). -/
def describeBytes (s : State) (m : AapMsg) (e : Entry) : Bytes :=
  let code (p : Principal) : Bytes := le 1 (accessCode e (rightsOn s p m.index m.sub e))
  let dflt : Nat := if e.ty.isOct ∨ (0x3100 ≤ m.index ∧ m.index ≤ 0x3102) then 0 else entryDflt m.index m.sub
  le 1 e.ty.code ++ le 1 0 ++ le 2 e.ty.len ++ code .oob ++ code .mgr ++ code (.ve (veOf s m)) ++ code .dbg ++ le 1 e.cls.code ++ le 1 0 ++
    le 2 ((groupOfEntry m.index m.sub).getD 0xFFFF) ++ le 4 0 ++ le 8 dflt

def answerNext (s : State) (m : AapMsg) : State :=
  match nextEntry s m.prin m.index m.sub with
  | some e => answerAt s m m.ver .ok e.1 e.2 []
  | none => answer s m .noEntry []

/-! ### Writes (R274) -/

/-- An RWS write: the pending copy takes the value, or the segment of it (R277, R286). -/
def stageWrite (s : State) (m : AapMsg) (e : Entry) (g : Nat) : State :=
  let v :=
    if e.ty.isOct then
      let old := ((findPend s g).bind fun p => pendVal p m.index m.sub).getD (zeros e.ty.len)
      old.take m.off ++ m.value ++ old.drop (m.off + m.value.length)
    else m.value
  answer (stage s m.prin g m.index m.sub v) m .ok []

/-- W1C words. -/
def clearBits (s : State) (m : AapMsg) : State :=
  let v := ofLe m.value
  if m.index = 0x3000 then { s with sticky := s.sticky &&& ~~~(BitVec.ofNat 768 (v * 2 ^ (32 * (m.sub - 1)))) }
  else if m.index < 0x6000 then modRing s (m.index - 0x5000) fun r => { r with errors := r.errors &&& ~~~(BitVec.ofNat 3 v) }
  else modChan s (m.index - 0xA000) fun r => { r with errors := r.errors &&& ~~~(BitVec.ofNat 2 v) }

/-- Function-level changes survive a new incarnation of the vault: their updates are made again. -/
def VOp.ofFn : VOp → Bool
  | .ctxKey _ _ | .freeze _ _ | .absent _ _ | .unrestore _ _ => true
  | _ => false

/-- A new incarnation begins (R181, R182, R184): holders are abandoned, keys zeroised, every slot is FREE. -/
def newIncarnation (s : State) : State :=
  let again := (s.vault.updates.map fun u => u.ops.filter VOp.ofFn).filter fun o => !o.isEmpty
  let rs := vaultUsers s
  let s := rs.foldl cutShort (emptyVault (eraseKeys s))
  -- while the RNG cannot serve it, the value is drawn by the vault's bring-up
  let s := if s.rng.state = .running && !s.life.busy then drawInc s else { s with bring := { s.bring with vaultDone := false } }
  bringWatch (pumpAll (retryResolve (again.foldl (fun s o => submitUpd s o none) s)))

/-- Some function is frozen or in migration (R182). -/
def migrating (s : State) : Bool :=
  s.fns.any fun e => decide (e.2.state = .frozen ∨ e.2.state = .freezing ∨ e.2.state = .restored ∨ e.2.mig = .opened ∨ e.2.mig = .saved ∨
    e.2.mig = .restored)

def writeVaultClear (s : State) (m : AapMsg) : State :=
  if ofLe m.value = 0 then answer s m .ok []
  else if migrating s then answer s m .busy []
  else answer (newIncarnation s) m .ok []

def writeRngReset (s : State) (m : AapMsg) : State :=
  if ofLe m.value = 0 then answer s m .ok [] else answer (bringWatch (adventBegin (stopRngReqs s .rngAdvent) true)) m .ok []

def writeTimerArm (s : State) (m : AapMsg) : State :=
  let t := m.index - 0xA100
  if ofLe m.value = 0 then answer s m .ok []
  else if timerCfg s t 1 = 0 then answer s m .inconsistent []
  else answer (timerArm s t) m .ok []

def writeSafe (s : State) (m : AapMsg) : State :=
  if ofLe m.value = 0 then answer s m .ok [] else raiseSrc (answer s m .ok []) 515

/-- VE_ACTION (R259). The answer is given before a reset ends the exchanges of its function (R289). -/
def writeAction (s : State) (m : AapMsg) : State :=
  let f := m.index - 0x4000
  match codeAct (ofLe m.value) with
  | none => answer s m .range []
  | some k =>
    match actRefusal s f k with
    | some e => answer s m e []
    | none => actStart (answer s m .ok []) f k

/-- A WO write carries out its command. -/
def writeCommand (s : State) (m : AapMsg) : State :=
  if m.index = 0x3000 then writeSafe s m
  else if m.index = 0x7000 then writeVaultClear s m
  else if m.index = 0x8000 then writeRngReset s m
  else if m.index < 0x5000 then writeAction s m
  else writeTimerArm s m

/-- WRITE. -/
def writeEntry (s : State) (m : AapMsg) (e : Entry) : State :=
  match e.acc with
  | .rws => (match groupOfEntry m.index m.sub with | some g => stageWrite s m e g | none => s)
  | .rw => answer (cfgSet s m.index m.sub (ofLe m.value)) m .ok []
  | .w1c => answer (clearBits s m) m .ok []
  | .wo => writeCommand s m
  | .ro | .rc => answer s m .access []

/-! ### COMMIT (R278) -/

/-- BOOTCFG is written anew where its values have changed (R279, R352, R353). -/
def rewriteBoot (s t : State) : State :=
  if bootPayload s = bootPayload t then t
  else
    let r := nvWrite t 5 (bootPayload t) .bootcfg
    if r.2 then r.1 else raiseSrc r.1 506

/-- A COMMIT of group 7000 (R184). -/
def vaultApplied (s t : State) : State :=
  rewriteBoot s (if differs s t 0x7000 1 || differs s t 0x7000 2 then newIncarnation t else t)

/-- What an applied COMMIT changes beyond the values; `t` has them. -/
def applied (s t : State) (g : Nat) : State :=
  if g = 0x2020 then rewriteBoot s t
  else if g = 0x3302 then unitsApplied s t
  else if g = 0x7000 then vaultApplied s t
  else if 0x4000 ≤ g ∧ g ≤ 0x4400 then fnApplied t (g - 0x4000)
  else if 0x5000 ≤ g ∧ g ≤ 0x5FFF then ringApplied s t (g - 0x5000)
  else if 0xA000 ≤ g ∧ g ≤ 0xA0FF then chanApplied s t (g - 0xA000)
  else if 0xA100 ≤ g ∧ g ≤ 0xA10F then timerApplied s t (g - 0xA100)
  else t

/-- COMMIT. -/
def commitGroup (s : State) (m : AapMsg) : State :=
  let g := m.index
  if g = 0x9000 then commitRequest s m
  else if g = 0x9001 then commitToken s m
  else if g = 0x9002 then commitNonce s m
  else
    let t := candidate s g
    match groupRefusal s t g with
    | some e => answer s m e []
    | none => answer (bringWatch (pumpAll (committed (applied s t g) g))) m .ok []

/-! ### The service -/

/-- VERSIONS, whatever its header holds. -/
def answerVersions (s : State) (m : AapMsg) : State :=
  answerAt s m (if m.ver = 1 ∨ m.ver = 2 then m.ver else 2) .ok m.index m.sub [3]

/-- A request that has passed the checks. -/
def perform (s : State) (m : AapMsg) : State :=
  match m.op with
  | 3 => commitGroup s m
  | 4 => answer (dropPend s m.index) m .ok []
  | 7 => answerNext s m
  | op =>
    match entryAt m.index m.sub with
    | none => s
    | some e =>
      match op with
      | 1 => readEntry s m e
      | 2 => writeEntry s m e
      | 5 => readPend s m e
      | 6 => answer s m .ok (describeBytes s m e)
      | _ => s

/-- Serve a request. -/
def serve (m : AapMsg) (s : State) : State :=
  if !servable s m then s
  else if m.op = 0 then answerVersions s m
  else match refused s m with
    | some e => answer s m e []
    | none => perform s m

/-- Serve a request if it is of the row's kind. -/
def serveIf (p : Bool) (m : AapMsg) (s : State) : State := if p then serve m s else s

/-! ### Time (R277, R286) -/

/-- PENDING_TIMEOUT. -/
def pendingTimeout (g : Nat) (s : State) : State := dropPend s g

/-- SNAPSHOT_EXPIRY: the oldest snapshot of the principal ends. -/
def snapshotExpiry (p : Principal) (s : State) : State :=
  { s with mgmt := { s.mgmt with snaps := s.mgmt.snaps.eraseP fun x => decide (x.prin = p) } }

/-! ### Kinds of request -/

def isRead (m : AapMsg) (i sub : Nat) : Bool := decide (m.op = 1 ∧ m.index = i ∧ m.sub = sub)
def isWrite (m : AapMsg) (i sub : Nat) : Bool := decide (m.op = 2 ∧ m.index = i ∧ m.sub = sub)
def inTable (m : AapMsg) (lo hi : Nat) : Bool := decide (lo ≤ m.index ∧ m.index ≤ hi)

/-- A COMMIT of a ring's, channel's or function's group that takes its command entry to a value. -/
def commits (s : State) (m : AapMsg) (sub v : Nat) : Bool :=
  decide (m.op = 3 ∧ cfgGet (candidate s m.index) m.index sub = v)

/-- VE_STATE of the function whose group or action the request names. -/
def veIs (s : State) (m : AapMsg) (st : VeState) : Bool := decide ((getFn s (m.index - 0x4000)).state = st)

/-- A COMMIT of group 3302 that takes some unit's command to a value. -/
def commitsUnit (s : State) (m : AapMsg) (v : Nat) : Bool :=
  decide (m.op = 3 ∧ m.index = 0x3302) &&
  allUnits.any fun u => differs s (candidate s 0x3302) 0x3302 u && decide (unitCmd (candidate s 0x3302) u = v)

/-- A write of VE_ACTION with a code. -/
def isAction (m : AapMsg) (code : Nat) : Bool := decide (m.op = 2 ∧ m.sub = 0x0D ∧ ofLe m.value = code) && inTable m 0x4000 0x4400

/-! ### The rows -/

def execVersions (m : AapMsg) (s : State) : Out State := fin (serveIf (m.op == 0) m s)
def execRead (m : AapMsg) (s : State) : Out State := fin (serveIf (m.op == 1) m s)
def execWrite (m : AapMsg) (s : State) : Out State := fin (serveIf (m.op == 2) m s)
def execCommit (m : AapMsg) (s : State) : Out State := fin (serveIf (m.op == 3) m s)
def execDiscard (m : AapMsg) (s : State) : Out State := fin (serveIf (m.op == 4) m s)
def execReadPending (m : AapMsg) (s : State) : Out State := fin (serveIf (m.op == 5) m s)
def execDescribe (m : AapMsg) (s : State) : Out State := fin (serveIf (m.op == 6) m s)
def execNext (m : AapMsg) (s : State) : Out State := fin (serveIf (m.op == 7) m s)
def execPendingTimeout (g : Nat) (s : State) : Out State := fin (pendingTimeout g s)
def execSnapshotExpiry (p : Principal) (s : State) : Out State := fin (snapshotExpiry p s)
def execFnIntervalReq (m : AapMsg) (s : State) : Out State := fin (serveIf (decide (m.op = 1 ∧ m.sub = 6) && inTable m 0xC100 0xC500) m s)
def execFnIntervalUnits (m : AapMsg) (s : State) : Out State := fin (serveIf (decide (m.op = 1 ∧ m.sub = 7) && inTable m 0xC100 0xC500) m s)
def execSticky (m : AapMsg) (s : State) : Out State := fin (serveIf (decide (m.op = 2 ∧ m.index = 0x3000 ∧ 1 ≤ m.sub ∧ m.sub ≤ 0x18)) m s)
def execRingErrors (m : AapMsg) (s : State) : Out State := fin (serveIf (decide (m.op = 2 ∧ m.sub = 0x0E) && inTable m 0x5000 0x5FFF) m s)
def execChanErrors (m : AapMsg) (s : State) : Out State := fin (serveIf (decide (m.op = 2 ∧ m.sub = 0x0D) && inTable m 0xA000 0xA0FF) m s)
def execSafeCommand (m : AapMsg) (s : State) : Out State := fin (serveIf (isWrite m 0x3000 0x1C) m s)
def execRngReset (m : AapMsg) (s : State) : Out State := fin (serveIf (isWrite m 0x8000 2) m s)
def execVaultClear (m : AapMsg) (s : State) : Out State := fin (serveIf (isWrite m 0x7000 0x10) m s)
def execTimerArm (m : AapMsg) (s : State) : Out State := fin (serveIf (decide (m.op = 2 ∧ m.sub = 3) && inTable m 0xA100 0xA10F) m s)
def execLcChallenge (m : AapMsg) (s : State) : Out State := fin (serveIf (isRead m 0x9000 3) m s)
def execDebugChallenge (m : AapMsg) (s : State) : Out State := fin (serveIf (isRead m 0x9001 3) m s)
def execRandomEntryRead (m : AapMsg) (s : State) : Out State := fin (serveIf (isRead m 0x8000 0x0D) m s)
def execRingEnable (m : AapMsg) (s : State) : Out State :=
  fin (serveIf (inTable m 0x5000 0x5FFF && decide (cfgGet s m.index 9 = 0) && commits s m 9 1) m s)
def execRingDisable (m : AapMsg) (s : State) : Out State :=
  fin (serveIf (inTable m 0x5000 0x5FFF && decide (cfgGet s m.index 9 = 1) && commits s m 9 0) m s)
def execChanEnable (m : AapMsg) (s : State) : Out State :=
  fin (serveIf (inTable m 0xA000 0xA0FF && decide (cfgGet s m.index 5 = 0) && commits s m 5 1) m s)
def execChanDisable (m : AapMsg) (s : State) : Out State :=
  fin (serveIf (inTable m 0xA000 0xA0FF && decide (cfgGet s m.index 5 = 1) && commits s m 5 0) m s)
def execTimerCommit (m : AapMsg) (s : State) : Out State := fin (serveIf (m.op == 3 && inTable m 0xA100 0xA10F) m s)
def execVaultCommit (m : AapMsg) (s : State) : Out State := fin (serveIf (m.op == 3 && inTable m 0x7000 0x7000) m s)
def execUnitOutOfService (m : AapMsg) (s : State) : Out State := fin (serveIf (commitsUnit s m 1) m s)
def execUnitInService (m : AapMsg) (s : State) : Out State := fin (serveIf (commitsUnit s m 0) m s)
def execVeCreate (m : AapMsg) (s : State) : Out State :=
  fin (serveIf (inTable m 0x4000 0x4400 && veIs s m .absent && commits s m 1 1) m s)
def execVeDestroy (m : AapMsg) (s : State) : Out State :=
  fin (serveIf (inTable m 0x4000 0x4400 && !veIs s m .absent && commits s m 1 0) m s)
def execVeFreeze (m : AapMsg) (s : State) : Out State := fin (serveIf (inTable m 0x4000 0x4400 && commits s m 1 2) m s)
def execVeThaw (m : AapMsg) (s : State) : Out State :=
  fin (serveIf (inTable m 0x4000 0x4400 && veIs s m .frozen && commits s m 1 1) m s)
def execVeResetAction (m : AapMsg) (s : State) : Out State := fin (serveIf (isAction m 1) m s)
def execSave (m : AapMsg) (s : State) : Out State := fin (serveIf (isAction m 2) m s)
def execRestore (m : AapMsg) (s : State) : Out State := fin (serveIf (isAction m 3) m s)
def execRelease (m : AapMsg) (s : State) : Out State := fin (serveIf (isAction m 4) m s)
def execMigrationCommit (m : AapMsg) (s : State) : Out State := fin (serveIf (isAction m 5) m s)
def execAbandon (m : AapMsg) (s : State) : Out State := fin (serveIf (isAction m 6) m s)
def execOpenAction (m : AapMsg) (s : State) : Out State := fin (serveIf (isAction m 7) m s)
def execReceipt (m : AapMsg) (s : State) : Out State := fin (serveIf (isAction m 8) m s)
def execRenewContextKey (m : AapMsg) (s : State) : Out State := fin (serveIf (isAction m 9) m s)
def execLifecycleTransition (m : AapMsg) (s : State) : Out State := fin (serveIf (m.op == 3 && inTable m 0x9000 0x9000) m s)
def execDebugToken (m : AapMsg) (s : State) : Out State := fin (serveIf (m.op == 3 && inTable m 0x9001 0x9001) m s)
def execAttestNonce (m : AapMsg) (s : State) : Out State := fin (serveIf (m.op == 3 && inTable m 0x9002 0x9002) m s)

end Sys2Proof.Machine
end

