-- ==== Sys2Proof/Machine/Transport.lean ====
section
/-!
DEFINITION. The paths on which Almanac requests arrive: mailboxes (R289, R308, R379), the management port with its MCTP packets
and control messages (R288, R308, R384, R385).
-/
namespace Sys2Proof.Machine

open Sys2Proof

/-! ### Mailboxes (R289) -/

/-- MB_STATUS. Before step 4 it holds BUSY set (R308). -/
def mbStatus (s : State) (f : Nat) : Nat :=
  let m := getMail s f
  ofBool (m.busy || !s.bring.almanacUp) + 2 * ofBool m.done + 4 * ofBool m.ovr + 65536 * (m.resp.length % 2048)

/-- The word that a host read of a function's window returns (R36, R204, R289, R379). No row of the table is such a read; it changes
nothing. The write-only words of the mailbox page read as zero (DESIGN CHOICE, log 151). -/
def windowWord (s : State) (f off : Nat) : Nat :=
  if !coreUp s || decide (1024 < f ∨ off % 4 ≠ 0 ∨ (getFn s f).state = .absent) then 0
  else if off < 0xA00 then
    (if off % 8 ≠ 0 then 0
     else if off < 0x800 then ((ringAt s f (off / 8)).map fun n => (getRing s n).prev.toNat).getD 0
     else ((chanAt s f ((off - 0x800) / 8)).map fun c => (getChan s c).prev.toNat).getD 0)
  else if off = 0x1004 then mbStatus s f
  else if 0x1600 ≤ off ∧ off < 0x1A10 then fld (getMail s f).resp (off - 0x1600) 4
  else 0

/-- MB_REQ. -/
def mbReq (f : Nat) (word : U32) (request : Bytes) (s : State) : State :=
  let n := word.toNat % 2048
  let m := getMail s f
  if !coreUp s || decide (1024 < f ∨ (getFn s f).state = .absent) || !word.getLsbD 31 then s
  else if (mbStatus s f).testBit 0 || decide (n < 16 ∨ 1040 < n) then setMail s f { m with ovr := true }
  else
    arrive (setMail s f { m with busy := true, done := false, ovr := false, req := some (parseMsg (mailPrin f) (fit n request)) }) (mailPrin f)

/-! ### Packets inward (R385) -/

/-- A malformed packet, or one that breaks its message, is discarded. -/
def badPacket (s : State) : State := raiseSrc s 519

/-- Message under reassembly of an endpoint and tag. -/
def findReasm (s : State) (eid tag : Nat) : Option Reasm := s.mgmt.reasm.find? fun r => decide (r.eid = eid ∧ r.tag = tag)
def dropReasm (s : State) (eid tag : Nat) : State :=
  { s with mgmt := { s.mgmt with reasm := s.mgmt.reasm.filter fun r => !decide (r.eid = eid ∧ r.tag = tag) } }

/-- A request that comes while four are open is answered at once: with what checks 1 to 6 find, or BUSY (R283, R288). -/
def answerFull (s : State) (eid tag : Nat) (m : AapMsg) : State :=
  let ver := if m.ver = 1 ∨ m.ver = 2 then m.ver else 2
  let st := if m.op = 0 then AapCode.ok else (refusedEarly s m).getD .busy
  let r : Resp := { prin := .oob, ver := ver, op := m.op, status := st, seq := m.seq, index := m.index, sub := m.sub
                    value := if m.op = 0 then [3] else [] }
  sendMctp s eid tag (vendorHead ++ respBytes r)

/-- A whole message. Control messages have rows of their own; messages of other types and a vendor's own are not for the block. -/
def oobMessage (s : State) (eid tag : Nat) (body : Bytes) : State :=
  if body.take 5 ≠ vendorHead then s
  else
    let m := parseMsg .oob (body.drop 5)
    if s.mgmt.oob.length < 4 then
      arrive { s with mgmt := { s.mgmt with oob := s.mgmt.oob ++ [{ eid := eid, tag := tag, msg := m }] } } .oob
    else answerFull s eid tag m

/-- MCTP_PACKET. Bit 3 of the flags is the tag owner's: a message without it is a response, and the block asks for none. -/
def mctpPacket (p : Bytes) (s : State) : State :=
  if !coreUp s || !s.bring.almanacUp then s
  else if decide (p.length < 5 ∨ 68 < p.length ∨ fld p 0 1 ≠ 1) then badPacket s
  else
    let eid := fld p 2 1
    let fl := fld p 3 1
    let tag := fl % 16
    let seq := fl / 16 % 4
    let som := fl.testBit 7
    let old := findReasm s eid tag
    let s := dropReasm s eid tag
    let next : Option Bytes :=
      if som then some (p.drop 4)
      else match old with
        | some r => if seq = (r.seq + 1) % 4 then some (r.body ++ p.drop 4) else none
        | none => none
    match next with
    | none => badPacket s
    | some body =>
      if 1045 < body.length then badPacket s
      else if fl.testBit 6 then (if fl.testBit 3 then oobMessage s eid (tag % 8) body else s)
      else { s with mgmt := { s.mgmt with reasm := s.mgmt.reasm ++ [{ eid := eid, tag := tag, seq := seq, body := body }] } }

/-! ### Control messages (R288; formats PRESUMED from DSP0236, assumption log 110) -/

/-- Answer a control request: the instance, the command, the completion code and the response data. -/
def ctrlAnswer (s : State) (m : CtrlMsg) (cmd cc : Nat) (data : Bytes) : State :=
  sendMctp s m.eid m.tag (le 1 0 ++ le 1 (fld m.data 0 1 % 32) ++ le 1 cmd ++ le 1 cc ++ data)

/-- The management port serves control requests from step 4 on. -/
def ctrlUp (s : State) (t : State) : State := if coreUp s && s.bring.almanacUp then t else s

/-- SET_ENDPOINT_ID. -/
def setEndpointId (m : CtrlMsg) (s : State) : State :=
  let op := fld m.data 1 1 % 4
  let eid := fld m.data 2 1
  ctrlUp s (
    if m.data.length ≠ 3 then ctrlAnswer s m 1 3 []
    else if op ≤ 1 ∧ 8 ≤ eid ∧ eid ≤ 254 then
      ctrlAnswer { s with mgmt := { s.mgmt with eid := eid } } m 1 0 (le 1 0 ++ le 1 eid ++ le 1 0)
    else ctrlAnswer s m 1 2 [])

/-- GET_ENDPOINT_ID. -/
def getEndpointId (m : CtrlMsg) (s : State) : State := ctrlUp s (ctrlAnswer s m 2 0 (le 1 s.mgmt.eid ++ le 1 0 ++ le 1 0))

/-- GET_MCTP_VERSION_SUPPORT. The version of the standard that the block claims is not stated: four free bytes. -/
def getVersionSupport (m : CtrlMsg) (s : State) : State :=
  let ty := fld m.data 1 1
  ctrlUp s (
    if m.data.length ≠ 2 then ctrlAnswer s m 4 3 []
    else if ty = 255 ∨ ty = 0 then ctrlAnswer (useFree s 4) m 4 0 (le 1 1 ++ freeBytes s 4)
    else ctrlAnswer s m 4 0x80 [])

/-- GET_MESSAGE_TYPE_SUPPORT: vendor defined messages with an IANA number. -/
def getTypeSupport (m : CtrlMsg) (s : State) : State := ctrlUp s (ctrlAnswer s m 5 0 (le 1 1 ++ le 1 0x7F))

/-- GET_VENDOR_DEFINED_MESSAGE_SUPPORT: Obgebin's enterprise number, the only one. The command set version is not stated. -/
def getVendorSupport (m : CtrlMsg) (s : State) : State :=
  ctrlUp s (
    if m.data.length ≠ 2 then ctrlAnswer s m 6 3 []
    else if fld m.data 1 1 ≠ 0 then ctrlAnswer s m 6 2 []
    else ctrlAnswer (useFree s 2) m 6 0 (le 1 255 ++ le 1 1 ++ vendorHead.drop 1 ++ freeBytes s 2))

/-- UNSUPPORTED_CONTROL_COMMAND. -/
def unsupportedControl (m : CtrlMsg) (cmd : Nat) (s : State) : State := ctrlUp s (ctrlAnswer s m cmd 5 [])

/-! ### The rows -/

def execMbReq (f : Nat) (word : U32) (request : Bytes) (s : State) : Out State := fin (mbReq f word request s)
def execMctpPacket (packet : Bytes) (s : State) : Out State := fin (mctpPacket packet s)
def execSetEndpointId (m : CtrlMsg) (s : State) : Out State := fin (setEndpointId m s)
def execGetEndpointId (m : CtrlMsg) (s : State) : Out State := fin (getEndpointId m s)
def execGetMctpVersionSupport (m : CtrlMsg) (s : State) : Out State := fin (getVersionSupport m s)
def execGetMessageTypeSupport (m : CtrlMsg) (s : State) : Out State := fin (getTypeSupport m s)
def execGetVendorDefinedMessageSupport (m : CtrlMsg) (s : State) : Out State := fin (getVendorSupport m s)
def execUnsupportedControlCommand (m : CtrlMsg) (cmd : Nat) (s : State) : Out State := fin (unsupportedControl m cmd s)

end Sys2Proof.Machine
end

