-- ==== Sys2Proof/Machine/Tap.lean ====
section
/-!
DEFINITION. The test access port (R338 to R340, R397 to R400).
-/
namespace Sys2Proof.Machine

open Sys2Proof

/-! ### Instructions (R398) -/

/-- An instruction is selected: Capture-IR has loaded 01h, shifted out ahead of it (R398). A command is a scan that has ended, and TDO is at
high impedance outside a scan (R397). -/
def tapSelect (s : State) (i : TapInstr) : State := { s with tap := { s.tap with ir := i, irOut := 1, tdo := none } }

/-- TAP_RESET: IDCODE is selected. -/
def tapReset (s : State) : State := tapSelect s .idcode

/-- An instruction that drives the outputs from the boundary register acts as SAFE_REQ (R340). -/
def tapDrive (i : TapInstr) (s : State) : State := if s.pins.poRstLow then tapSelect s i else raiseSrc (tapSelect s i) 514

/-- SAMPLE/PRELOAD. What the boundary register captures is the level of every pin, which the block's service does not feel. -/
def samplePreload (s : State) : State := tapSelect s .samplePreload

/-- IDCODE. -/
def idcode (s : State) : State := let s := tapSelect s .idcode; { s with tap := { s.tap with dr := 0x21600C5B } }

/-- Codes of the instructions other than BYPASS. -/
def tapCodes : List Nat := [0x00, 0x01, 0x02, 0x03, 0x04, 0x10, 0x11, 0x12]

/-- BYPASS: FFh and every undefined code. -/
def bypass (code : BitVec 8) (s : State) : State := if tapCodes.contains code.toNat then s else tapSelect s .bypass

/-! ### The ALMANAC register (R399) -/

/-- Message length of the request that the words so far begin. -/
def dbgLength (b : Bytes) : Nat := if fld b 1 1 = 2 then 16 + fld b 10 2 else 16

/-- The request is complete once all its words are in, and none is being served. -/
def dbgComplete (s : State) : State :=
  let b := s.mgmt.dbgIn
  let n := dbgLength b
  if s.mgmt.dbg.isNone && decide (16 ≤ b.length ∧ n ≤ b.length) then
    arrive { s with mgmt := { s.mgmt with dbgIn := [], dbg := some (parseMsg .dbg (b.take n)) } } .dbg
  else s

/-- Capture-DR: the next response word with bit 32 set, or bit 32 clear. -/
def dbgCapture (s : State) : State :=
  let b := s.mgmt.dbgOut
  { s with
    tap := { s.tap with dr := if b.isEmpty then 0 else BitVec.ofNat 64 (2 ^ 32 + fld (fit 4 b) 0 4) }
    mgmt := { s.mgmt with dbgOut := b.drop 4 } }

/-- Update-DR with bit 32 set: a word of the request. The first one discards what is unread of the previous response. -/
def dbgWord (s : State) (w : Nat) : State :=
  let first := s.mgmt.dbgIn.isEmpty
  { s with mgmt := { s.mgmt with dbgIn := s.mgmt.dbgIn ++ le 4 w, dbgOut := if first then [] else s.mgmt.dbgOut } }

/-- ALMANAC: one scan of its register. -/
def almanacScan (word : BitVec 33) (s : State) : State :=
  let s := tapSelect s .almanac
  if !coreUp s || !s.bring.almanacUp then { s with tap := { s.tap with dr := 0 } }
  else
    let s := dbgCapture s
    dbgComplete (if word.getLsbD 32 then dbgWord s (word.toNat % 2 ^ 32) else s)

/-! ### DEBUG_READ and WRAPPER (R340, R400) -/

/-- A fetched RP2 or RP3 descriptor as its 64 bytes (R41, R42). -/
def descBytes (d : Desc) : Bytes :=
  le 2 d.opcode ++ le 2 (d.flags + 8192 * d.rsvd) ++ le 4 d.key ++ le 8 d.src ++ le 8 d.dst ++ le 4 d.srcLen ++ le 4 d.dstCap ++
    le 4 d.aadLen ++ le 4 d.mode ++ le 8 d.param ++ le 8 d.ctx ++ le 8 d.tag

/-- Descriptors queued at a sequencer: the steps of its chains that have not completed, in the order in which they were taken (R400). -/
def seqQueue (s : State) (u : Nat) : List Req :=
  (s.chains.flatMap fun e => match e.2 with | some c => if c.seq = u then c.steps else [] | none => []).filterMap (getReq s)

/-- Word of a sequencer that a selector names, where the model holds it: words 1 to 256 are its 16 queued descriptors (R400). The program
counter, a place with no descriptor and the form in which an RP1 descriptor is queued are not of the manual's description (log 106). -/
def seqWord (s : State) (sel : BitVec 64) : Option Nat :=
  let u := sel.toNat / 2 ^ 56
  let k := sel.toNat / 2 ^ 32 % 2 ^ 24
  if u < 64 ∧ 1 ≤ k ∧ k ≤ 256 then
    match (seqQueue s u)[(k - 1) / 16]? with
    | some q => if q.ver = 1 then none else some (fld (descBytes q.d) (4 * ((k - 1) % 16)) 4)
    | none => none
  else none

/-- DEBUG_READ: Capture-DR takes the word that the selector in force names, and zero while internal debug is not enabled; Update-DR loads
the selector that is shifted in (R339, R400). A word that the model does not hold reads as free bytes, and bits 63 to 32 are not stated. -/
def debugReadScan (sel : BitVec 64) (s : State) : State :=
  let word := if debugEnabled s % 2 = 1 then (match seqWord s s.tap.sel with | some w => le 4 w | none => freeBytes s 4) else zeros 4
  let high := freeBytes (useFree s 4) 4
  let s := tapSelect (useFree s 8) .debugRead
  { s with tap := { s.tap with sel := sel, dr := BitVec.ofNat 64 (ofLe (word ++ high)) } }

/-- Holders of a key reference, and requests whose keys the zeroisation takes. -/
def keyHolders (s : State) : List Nat := reqsWith s fun q => q.refHeld

/-- The first selection of a memory factory test mode since the block reset (R340): the unwrap staging goes with the registers, and requests
whose fetches filled it wait for the vault, which the mode has shut. -/
def factoryTest (s : State) : State :=
  let rs := keyHolders s
  let s := disown { s with vault := { s.vault with fetches := [] } } fun o => match o with | .vfetch _ => true | _ => false
  let s := eraseKeys { s with
    tap := { s.tap with factory := true }
    vault := { s.vault with testShut := true } }
  bringWatch (pumpAll (rs.foldl (fun s r => killStep s r .keyErased) s))

/-- WRAPPER. While the test modes are not enabled the wrapper ignores its inputs and holds WSO low; with them WSO is a bit of the test that
runs, which the manual does not describe (R400, log 121). -/
def wrapperSelect (factoryMode : Bool) (s : State) : State :=
  let s := tapSelect s .wrapper
  let open_ := decide (2 ≤ debugEnabled s)
  let out := open_ && decide (ofLe (freeBytes s 1) % 2 = 1)
  let s := useFree { s with tap := { s.tap with wrapper := open_, wso := out } } 1
  if open_ && factoryMode && !s.tap.factory then factoryTest s else s

/-! ### The rows -/

def execTapReset (s : State) : Out State := fin (tapReset s)
def execExtest (s : State) : Out State := fin (tapDrive .extest s)
def execSamplePreload (s : State) : Out State := fin (samplePreload s)
def execIdcode (s : State) : Out State := fin (idcode s)
def execClamp (s : State) : Out State := fin (tapDrive .clamp s)
def execHighz (s : State) : Out State := fin (tapDrive .highz s)
def execAlmanac (word : BitVec 33) (s : State) : Out State := fin (almanacScan word s)
def execDebugRead (selector : BitVec 64) (s : State) : Out State := fin (debugReadScan selector s)
def execWrapper (factoryMode : Bool) (s : State) : Out State := fin (wrapperSelect factoryMode s)
def execBypass (code : BitVec 8) (s : State) : Out State := fin (bypass code s)

end Sys2Proof.Machine
end

