-- ==== Sys2Proof/Machine/Dispatch.lean ====
section
/-!
DEFINITION. One arm per command: its meaning.
-/
namespace Sys2Proof.Machine

open Sys2Proof

def exec (i : Instr) (s : State) : Host.Outcome State Fault Refusal :=
  match i with
  | .poRstNAssert => Sys2Proof.Machine.execPoRstNAssert s
  | .poRstNRelease refSel => Sys2Proof.Machine.execPoRstNRelease refSel s
  | .blkRstNAssert => Sys2Proof.Machine.execBlkRstNAssert s
  | .blkRstNRelease => Sys2Proof.Machine.execBlkRstNRelease s
  | .quiescence => Sys2Proof.Machine.execQuiescence s
  | .clockSurvey coreKhz portKhz mgmtKhz => Sys2Proof.Machine.execClockSurvey coreKhz portKhz mgmtKhz s
  | .handshakeTimeout lookup => Sys2Proof.Machine.execHandshakeTimeout lookup s
  | .vaultBringup => Sys2Proof.Machine.execVaultBringup s
  | .identityKeysDerived => Sys2Proof.Machine.execIdentityKeysDerived s
  | .safeReq held => Sys2Proof.Machine.execSafeReq held s
  | .coreSupplyLost => Sys2Proof.Machine.execCoreSupplyLost s
  | .alarmTrip cls src => Sys2Proof.Machine.execAlarmTrip cls src s
  | .alarmHoldEnd => Sys2Proof.Machine.execAlarmHoldEnd s
  | .faultSourceSet src => Sys2Proof.Machine.execFaultSourceSet src s
  | .fenceResolved unit => Sys2Proof.Machine.execFenceResolved unit s
  | .vigilPeriod unit => Sys2Proof.Machine.execVigilPeriod unit s
  | .vigilCheck unit err => Sys2Proof.Machine.execVigilCheck unit err s
  | .selfTestEnd target pass => Sys2Proof.Machine.execSelfTestEnd target pass s
  | .stateSkew target => Sys2Proof.Machine.execStateSkew target s
  | .lanternToggle => Sys2Proof.Machine.execLanternToggle s
  | .jubileePersist => Sys2Proof.Machine.execJubileePersist s
  | .powerEstimate => Sys2Proof.Machine.execPowerEstimate s
  | .clockGate unit => Sys2Proof.Machine.execClockGate unit s
  | .calendarEpoch => Sys2Proof.Machine.execCalendarEpoch s
  | .calendarGrant c => Sys2Proof.Machine.execCalendarGrant c s
  | .interruptStall => Sys2Proof.Machine.execInterruptStall s
  | .coalTime ring => Sys2Proof.Machine.execCoalTime ring s
  | .ringDoorbell fn offset value => Sys2Proof.Machine.execRingDoorbell fn offset value s
  | .descriptorFetch ring => Sys2Proof.Machine.execDescriptorFetch ring s
  | .chainWaitEnd group => Sys2Proof.Machine.execChainWaitEnd group s
  | .echoStagingWaitEnd group => Sys2Proof.Machine.execEchoStagingWaitEnd group s
  | .cacheWayRelease bank set => Sys2Proof.Machine.execCacheWayRelease bank set s
  | .readBeat port tag resp last data => Sys2Proof.Machine.execReadBeat port tag resp last data s
  | .writeResponse port tag resp => Sys2Proof.Machine.execWriteResponse port tag resp s
  | .portTimeout port tag => Sys2Proof.Machine.execPortTimeout port tag s
  | .vaultTimeout port tag => Sys2Proof.Machine.execVaultTimeout port tag s
  | .nop r => Sys2Proof.Machine.execNop r s
  | .nopSignal r => Sys2Proof.Machine.execNopSignal r s
  | .encrypt r => Sys2Proof.Machine.execEncrypt r s
  | .decrypt r => Sys2Proof.Machine.execDecrypt r s
  | .aeadEncrypt r => Sys2Proof.Machine.execAeadEncrypt r s
  | .aeadDecrypt r => Sys2Proof.Machine.execAeadDecrypt r s
  | .gmacGenerate r => Sys2Proof.Machine.execGmacGenerate r s
  | .gmacVerify r => Sys2Proof.Machine.execGmacVerify r s
  | .hash r => Sys2Proof.Machine.execHash r s
  | .macGenerate r => Sys2Proof.Machine.execMacGenerate r s
  | .macVerify r => Sys2Proof.Machine.execMacVerify r s
  | .decryptVerify r => Sys2Proof.Machine.execDecryptVerify r s
  | .reencryptVerify r => Sys2Proof.Machine.execReencryptVerify r s
  | .digestVerify r => Sys2Proof.Machine.execDigestVerify r s
  | .srcPeer r => Sys2Proof.Machine.execSrcPeer r s
  | .dstPeer r => Sys2Proof.Machine.execDstPeer r s
  | .contextInfo r => Sys2Proof.Machine.execContextInfo r s
  | .contextClose r => Sys2Proof.Machine.execContextClose r s
  | .sign r => Sys2Proof.Machine.execSign r s
  | .verify r => Sys2Proof.Machine.execVerify r s
  | .rsaEncrypt r => Sys2Proof.Machine.execRsaEncrypt r s
  | .rsaDecrypt r => Sys2Proof.Machine.execRsaDecrypt r s
  | .keyAgree r => Sys2Proof.Machine.execKeyAgree r s
  | .kemEncapsulate r => Sys2Proof.Machine.execKemEncapsulate r s
  | .kemDecapsulate r => Sys2Proof.Machine.execKemDecapsulate r s
  | .keyGenerate r => Sys2Proof.Machine.execKeyGenerate r s
  | .rsaKeygenTimeout r => Sys2Proof.Machine.execRsaKeygenTimeout r s
  | .publicKey r => Sys2Proof.Machine.execPublicKey r s
  | .pkaOperationEnd r => Sys2Proof.Machine.execPkaOperationEnd r s
  | .generateSym r => Sys2Proof.Machine.execGenerateSym r s
  | .derive r => Sys2Proof.Machine.execDerive r s
  | .importWrapped r => Sys2Proof.Machine.execImportWrapped r s
  | .importKem r => Sys2Proof.Machine.execImportKem r s
  | .exportWrapped r => Sys2Proof.Machine.execExportWrapped r s
  | .exportKem r => Sys2Proof.Machine.execExportKem r s
  | .replace r => Sys2Proof.Machine.execReplace r s
  | .keyCommit r => Sys2Proof.Machine.execKeyCommit r s
  | .cancel r => Sys2Proof.Machine.execCancel r s
  | .erase r => Sys2Proof.Machine.execErase r s
  | .eraseDrain slot => Sys2Proof.Machine.execEraseDrain slot s
  | .eraseUrgent r => Sys2Proof.Machine.execEraseUrgent r s
  | .keyInfo r => Sys2Proof.Machine.execKeyInfo r s
  | .random r => Sys2Proof.Machine.execRandom r s
  | .veAttest r => Sys2Proof.Machine.execVeAttest r s
  | .certInstall r => Sys2Proof.Machine.execCertInstall r s
  | .lookupAnswer qid result slot => Sys2Proof.Machine.execLookupAnswer qid result slot s
  | .lookupRetry r => Sys2Proof.Machine.execLookupRetry r s
  | .lookupTimeout r => Sys2Proof.Machine.execLookupTimeout r s
  | .caps h => Sys2Proof.Machine.execCaps h s
  | .data h bytes => Sys2Proof.Machine.execData h bytes s
  | .jobEnd h => Sys2Proof.Machine.execJobEnd h s
  | .peerTimeout r => Sys2Proof.Machine.execPeerTimeout r s
  | .channelDoorbell fn offset value => Sys2Proof.Machine.execChannelDoorbell fn offset value s
  | .stop fn offset value => Sys2Proof.Machine.execStop fn offset value s
  | .channelRunStart chan => Sys2Proof.Machine.execChannelRunStart chan s
  | .copy chan => Sys2Proof.Machine.execCopy chan s
  | .fill chan => Sys2Proof.Machine.execFill chan s
  | .compare chan => Sys2Proof.Machine.execCompare chan s
  | .gather chan => Sys2Proof.Machine.execGather chan s
  | .scatter chan => Sys2Proof.Machine.execScatter chan s
  | .timerFiring timer => Sys2Proof.Machine.execTimerFiring timer s
  | .functionLevelReset fn => Sys2Proof.Machine.execFunctionLevelReset fn s
  | .veResetAbandon fn => Sys2Proof.Machine.execVeResetAbandon fn s
  | .enableIndication fn value => Sys2Proof.Machine.execEnableIndication fn value s
  | .mbReq fn word request => Sys2Proof.Machine.execMbReq fn word request s
  | .mctpPacket packet => Sys2Proof.Machine.execMctpPacket packet s
  | .setEndpointId m => Sys2Proof.Machine.execSetEndpointId m s
  | .getEndpointId m => Sys2Proof.Machine.execGetEndpointId m s
  | .getMctpVersionSupport m => Sys2Proof.Machine.execGetMctpVersionSupport m s
  | .getMessageTypeSupport m => Sys2Proof.Machine.execGetMessageTypeSupport m s
  | .getVendorDefinedMessageSupport m => Sys2Proof.Machine.execGetVendorDefinedMessageSupport m s
  | .unsupportedControlCommand m cmd => Sys2Proof.Machine.execUnsupportedControlCommand m cmd s
  | .versions m => Sys2Proof.Machine.execVersions m s
  | .read m => Sys2Proof.Machine.execRead m s
  | .write m => Sys2Proof.Machine.execWrite m s
  | .commit m => Sys2Proof.Machine.execCommit m s
  | .discard m => Sys2Proof.Machine.execDiscard m s
  | .readPending m => Sys2Proof.Machine.execReadPending m s
  | .describe m => Sys2Proof.Machine.execDescribe m s
  | .next m => Sys2Proof.Machine.execNext m s
  | .pendingTimeout group => Sys2Proof.Machine.execPendingTimeout group s
  | .snapshotExpiry p => Sys2Proof.Machine.execSnapshotExpiry p s
  | .fnIntervalReq m => Sys2Proof.Machine.execFnIntervalReq m s
  | .fnIntervalUnits m => Sys2Proof.Machine.execFnIntervalUnits m s
  | .sticky m => Sys2Proof.Machine.execSticky m s
  | .ringErrors m => Sys2Proof.Machine.execRingErrors m s
  | .chanErrors m => Sys2Proof.Machine.execChanErrors m s
  | .safeCommand m => Sys2Proof.Machine.execSafeCommand m s
  | .rngReset m => Sys2Proof.Machine.execRngReset m s
  | .vaultClear m => Sys2Proof.Machine.execVaultClear m s
  | .timerArm m => Sys2Proof.Machine.execTimerArm m s
  | .lcChallenge m => Sys2Proof.Machine.execLcChallenge m s
  | .debugChallenge m => Sys2Proof.Machine.execDebugChallenge m s
  | .randomEntryRead m => Sys2Proof.Machine.execRandomEntryRead m s
  | .ringEnable m => Sys2Proof.Machine.execRingEnable m s
  | .ringDisable m => Sys2Proof.Machine.execRingDisable m s
  | .ringDrainBound ring => Sys2Proof.Machine.execRingDrainBound ring s
  | .chanEnable m => Sys2Proof.Machine.execChanEnable m s
  | .chanDisable m => Sys2Proof.Machine.execChanDisable m s
  | .channelDisableBound chan => Sys2Proof.Machine.execChannelDisableBound chan s
  | .drainBound t => Sys2Proof.Machine.execDrainBound t s
  | .timerCommit m => Sys2Proof.Machine.execTimerCommit m s
  | .vaultCommit m => Sys2Proof.Machine.execVaultCommit m s
  | .unitOutOfService m => Sys2Proof.Machine.execUnitOutOfService m s
  | .unitInService m => Sys2Proof.Machine.execUnitInService m s
  | .veCreate m => Sys2Proof.Machine.execVeCreate m s
  | .veDestroy m => Sys2Proof.Machine.execVeDestroy m s
  | .veFreeze m => Sys2Proof.Machine.execVeFreeze m s
  | .freezeBound fn channels => Sys2Proof.Machine.execFreezeBound fn channels s
  | .veThaw m => Sys2Proof.Machine.execVeThaw m s
  | .veResetAction m => Sys2Proof.Machine.execVeResetAction m s
  | .openAction m => Sys2Proof.Machine.execOpenAction m s
  | .save m => Sys2Proof.Machine.execSave m s
  | .restore m => Sys2Proof.Machine.execRestore m s
  | .release m => Sys2Proof.Machine.execRelease m s
  | .migrationCommit m => Sys2Proof.Machine.execMigrationCommit m s
  | .abandon m => Sys2Proof.Machine.execAbandon m s
  | .receipt m => Sys2Proof.Machine.execReceipt m s
  | .renewContextKey m => Sys2Proof.Machine.execRenewContextKey m s
  | .actionCompletion fn => Sys2Proof.Machine.execActionCompletion fn s
  | .migOpenTimeout fn => Sys2Proof.Machine.execMigOpenTimeout fn s
  | .lifecycleTransition m => Sys2Proof.Machine.execLifecycleTransition m s
  | .transitionWorkAbandon => Sys2Proof.Machine.execTransitionWorkAbandon s
  | .nvWriteRetry => Sys2Proof.Machine.execNvWriteRetry s
  | .debugToken m => Sys2Proof.Machine.execDebugToken m s
  | .attestNonce m => Sys2Proof.Machine.execAttestNonce m s
  | .nvCommandEnd words err => Sys2Proof.Machine.execNvCommandEnd words err s
  | .nvTimeout => Sys2Proof.Machine.execNvTimeout s
  | .healthTestFailure source adaptive => Sys2Proof.Machine.execHealthTestFailure source adaptive s
  | .oscillatorSettle failed => Sys2Proof.Machine.execOscillatorSettle failed s
  | .startUpTest source pass => Sys2Proof.Machine.execStartUpTest source pass s
  | .adventComplete => Sys2Proof.Machine.execAdventComplete s
  | .conditionerBlockRelease => Sys2Proof.Machine.execConditionerBlockRelease s
  | .privateWireDelivery => Sys2Proof.Machine.execPrivateWireDelivery s
  | .reseedDue gen => Sys2Proof.Machine.execReseedDue gen s
  | .reseedGrace gen => Sys2Proof.Machine.execReseedGrace gen s
  | .drbgReseed => Sys2Proof.Machine.execDrbgReseed s
  | .tapReset => Sys2Proof.Machine.execTapReset s
  | .extest => Sys2Proof.Machine.execExtest s
  | .samplePreload => Sys2Proof.Machine.execSamplePreload s
  | .idcode => Sys2Proof.Machine.execIdcode s
  | .clamp => Sys2Proof.Machine.execClamp s
  | .highz => Sys2Proof.Machine.execHighz s
  | .almanac word => Sys2Proof.Machine.execAlmanac word s
  | .debugRead selector => Sys2Proof.Machine.execDebugRead selector s
  | .wrapper factoryMode => Sys2Proof.Machine.execWrapper factoryMode s
  | .bypass code => Sys2Proof.Machine.execBypass code s
  | .alarmInactive => Sys2Proof.Machine.execAlarmInactive s
  | .supplyCalibration coreMv aonMv => Sys2Proof.Machine.execSupplyCalibration coreMv aonMv s
  | .fuseRead word answer => Sys2Proof.Machine.execFuseRead word answer s
  | .undefinedPeerMessage token => Sys2Proof.Machine.execUndefinedPeerMessage token s

end Sys2Proof.Machine
end

