-- ==== Sys2Proof/Safety.lean ====
section
/-!
DEFINITION. What counts as a sound state, in the terms that statements use: the invariants of every step.
-/
namespace Sys2Proof.Safety

open Sys2Proof Sys2Proof.Machine

/-- The reset in force rules: while PO_RST_N is low the block is what R300 leaves of it. -/
def HeldReset (s : State) : Prop := s.pins.poRstLow = true → s = poImage s

/-- FATAL and SAFE_ACK show the safe state (R329, R382, R396). -/
def PinsShow (s : State) : Prop := s.pins.fatal = s.safe ∧ s.pins.safeAck = s.safe

/-- No work lives through a warm reset but the vault update in progress (R302). -/
def HeldWarm (s : State) : Prop :=
  s.pins.poRstLow = false → s.pins.blkRstLow = true →
    s.reqs = [] ∧ s.chains = [] ∧ s.timers = [] ∧ (∀ b ∈ s.bursts, b.isUpd = true) ∧ s.lookup.queries = [] ∧ s.peer.tokens = []

/-- No work lives in the safe state, and nothing more is issued (R329, R330). -/
def HeldSafe (s : State) : Prop :=
  s.safe = true → s.reqs = [] ∧ s.chains = [] ∧ s.bursts = [] ∧ s.peer.out = [] ∧ s.lookup.queries = []

/-- The collector has reacted to every source before the next command (R317, R320). -/
def Quiet (s : State) : Prop := s.raised = []

/-- No reset is in force, the block is not in the safe state and its pins show that, and no condition waits for the collector. -/
def awake (s : State) : Bool :=
  !s.pins.poRstLow && !s.pins.blkRstLow && !s.safe && !s.pins.fatal && !s.pins.safeAck && s.raised.isEmpty

/-- Awake, and the core domains run: bring-up has begun since the last block reset. -/
def atWork (s : State) : Bool := awake s && coreUp s

/-- No update of the vault waits that would bring the function of a RESTORE: what ends it has nothing to give back (R259). -/
def noRestoral (s : State) : Bool :=
  s.vault.updates.all fun u => u.ops.all fun o => match o with | .restore _ _ => false | _ => true

/-- The block has entered the safe state from `s` by source `src` (R329): nothing is in flight and nothing more is issued, but an NV command
that its device has begun runs on (R330), every key is gone, FATAL and SAFE_ACK are high, LANTERN holds its level, and a message stands on
EVENT_VECTOR of function 0. Configuration and slots stay; but a RESTORE whose update is cut gives back what it held (R259). -/
def Entered (src : Nat) (s t : State) : Prop :=
  t.safe = true ∧ t.pins.fatal = true ∧ t.pins.safeAck = true ∧ t.pins.lantern = s.pins.lantern ∧
  t.sticky = s.sticky ||| BitVec.ofNat 768 (2 ^ src) ∧ t.reqs = [] ∧ t.chains = [] ∧ t.bursts = [] ∧ t.cache = [] ∧
  t.vault.frames = [] ∧ t.vault.updates = [] ∧ t.vault.fetches = [] ∧ t.nv.jobs = (s.nv.jobs.take 1).filter NvJob.begun ∧ t.peer.out = [] ∧ t.peer.tokens = [] ∧
  t.lookup.queries = [] ∧ (∀ x ∈ t.txns, x.own = .none) ∧
  (noRestoral s = true → t.vault.slots = s.vault.slots ∧ t.cfg = s.cfg) ∧
  t.irq.any (fun m => decide (m.fn = 0 ∧ m.vec = eventVector s) && m.own) = true

/-- Request `r` is `q`, of opcode `o`, and stands at phase `p`. -/
def Stands (s : State) (r : Nat) (q : Req) (o : Op) (p : Phase) : Prop := getReq s r = some q ∧ q.op = o ∧ q.phase = p

/-- What a request's command leaves of `x`: chains and rings that may go on do so (R56 to R58), the collector has reacted, and the
reset in force rules. -/
def leaves (x : State) : State := settle (collect (pumpAll x))

/-- A symmetric request that is no peer step, the whole of a message or a segment of it, with its data read; if it is echoed, its two lanes
agree (R114). -/
def segment (s : State) (r : Nat) (q : Req) (o : Op) : Prop :=
  Stands s r q o .loaded ∧ q.d.flag fSrcPeer = false ∧ q.d.flag fDstPeer = false ∧ (q.echo = true → echoDiff s q (segOf s q) = none)

/-- The block counts the units of a symmetric request (R299). -/
def counted (s : State) (q : Req) : State := countUnits s q.fn (onLane q.op (modeOf q.d.opcode)) q.d.srcLen

/-- With its units counted, a segment with CONTEXT_OUT holds the context that it is to save (R87). -/
def kept (s : State) (r : Nat) (q : Req) : State :=
  if q.d.flag fCtxOut then setReq (counted s q) r (some { q with ctxOut := ctxBytes (counted s q) q (runSeg (segOf s q)).st })
  else counted s q

/-- Canonical form of the functions' table, from a key on: keys rising, no entry at its default. -/
def fnsCanonFrom : Nat → Tbl FnRec → Bool
  | _, [] => true
  | lo, (k, v) :: t => decide (lo ≤ k) && !decide (v = fnDflt k) && fnsCanonFrom (k + 1) t

/-- The tables of units, rings, channels, functions, requests, chains, generators and slots are in canonical form. -/
def canon (s : State) : Bool :=
  twf ({} : UnitRec) s.units && twf ({} : RingRec) s.rings && twf ({} : ChanRec) s.chans && fnsCanonFrom 0 s.fns &&
  twf none s.reqs && twf none s.chains && twf ({} : GenRec) s.gens && twf ({} : SlotRec) s.vault.slots

/-- The Almanac's rows for a request, and whether the request is of the row's kind (R282). -/
def aapRows (s : State) (m : AapMsg) : List (Instr × Bool) :=
  [ (.versions m, m.op == 0),
    (.read m, m.op == 1),
    (.write m, m.op == 2),
    (.commit m, m.op == 3),
    (.discard m, m.op == 4),
    (.readPending m, m.op == 5),
    (.describe m, m.op == 6),
    (.next m, m.op == 7),
    (.fnIntervalReq m, decide (m.op = 1 ∧ m.sub = 6) && inTable m 0xC100 0xC500),
    (.fnIntervalUnits m, decide (m.op = 1 ∧ m.sub = 7) && inTable m 0xC100 0xC500),
    (.sticky m, decide (m.op = 2 ∧ m.index = 0x3000 ∧ 1 ≤ m.sub ∧ m.sub ≤ 0x18)),
    (.ringErrors m, decide (m.op = 2 ∧ m.sub = 0x0E) && inTable m 0x5000 0x5FFF),
    (.chanErrors m, decide (m.op = 2 ∧ m.sub = 0x0D) && inTable m 0xA000 0xA0FF),
    (.safeCommand m, isWrite m 0x3000 0x1C),
    (.rngReset m, isWrite m 0x8000 2),
    (.vaultClear m, isWrite m 0x7000 0x10),
    (.timerArm m, decide (m.op = 2 ∧ m.sub = 3) && inTable m 0xA100 0xA10F),
    (.lcChallenge m, isRead m 0x9000 3),
    (.debugChallenge m, isRead m 0x9001 3),
    (.randomEntryRead m, isRead m 0x8000 0x0D),
    (.ringEnable m, inTable m 0x5000 0x5FFF && decide (cfgGet s m.index 9 = 0) && commits s m 9 1),
    (.ringDisable m, inTable m 0x5000 0x5FFF && decide (cfgGet s m.index 9 = 1) && commits s m 9 0),
    (.chanEnable m, inTable m 0xA000 0xA0FF && decide (cfgGet s m.index 5 = 0) && commits s m 5 1),
    (.chanDisable m, inTable m 0xA000 0xA0FF && decide (cfgGet s m.index 5 = 1) && commits s m 5 0),
    (.timerCommit m, m.op == 3 && inTable m 0xA100 0xA10F),
    (.vaultCommit m, m.op == 3 && inTable m 0x7000 0x7000),
    (.unitOutOfService m, commitsUnit s m 1),
    (.unitInService m, commitsUnit s m 0),
    (.veCreate m, inTable m 0x4000 0x4400 && veIs s m .absent && commits s m 1 1),
    (.veDestroy m, inTable m 0x4000 0x4400 && !veIs s m .absent && commits s m 1 0),
    (.veFreeze m, inTable m 0x4000 0x4400 && commits s m 1 2),
    (.veThaw m, inTable m 0x4000 0x4400 && veIs s m .frozen && commits s m 1 1),
    (.veResetAction m, isAction m 1),
    (.save m, isAction m 2),
    (.restore m, isAction m 3),
    (.release m, isAction m 4),
    (.migrationCommit m, isAction m 5),
    (.abandon m, isAction m 6),
    (.openAction m, isAction m 7),
    (.receipt m, isAction m 8),
    (.renewContextKey m, isAction m 9),
    (.lifecycleTransition m, m.op == 3 && inTable m 0x9000 0x9000),
    (.debugToken m, m.op == 3 && inTable m 0x9001 0x9001),
    (.attestNonce m, m.op == 3 && inTable m 0x9002 0x9002) ]

/-- The request is what its path serves next, with the block at work, and it passes the checks of R283. -/
def Served (s : State) (m : AapMsg) : Prop := atWork s = true ∧ servable s m = true ∧ refused s m = none

/-- The severities that R316 locks stand at SAFE, and every pending copy holds entries of its own group only (R277). -/
def Locked (s : State) : Prop :=
  (∀ x, sevLocked x = true → severity s x = 3) ∧
  ∀ p ∈ s.mgmt.pend, ∀ v ∈ p.vals, groupOfEntry (v.1 / 256) (v.1 % 256) = some p.group

/-- The invariant of every step. -/
def Inv (s : State) : Prop := HeldReset s ∧ PinsShow s ∧ HeldWarm s ∧ HeldSafe s ∧ Quiet s

end Sys2Proof.Safety
end

