-- ==== Sys2Proof/Certificates/Slice0/Obligations.lean ====
section
/-!
DEFINITION. Statements for the provers.
-/
open Sys2Proof Sys2Proof.Machine Sys2Proof.Safety

/-! ### The machine -/

/-- The command at the front of the queue takes effect on the rest of the state, with the rest of the queue. -/
def Obligations.StepTakesTheFrontCommand : Prop :=
  ∀ (c : Instr) (rest : List Instr) (s : State), s.pending = c :: rest → step s = exec c { s with pending := rest }

/-- A step without a command lets one REF_CLK cycle pass: that it does, and that each port takes one message in it, is the model's choice
(assumption log 2). R300: while PO_RST_N is low nothing changes. R299, R383, R384, R390: at work the cycle is counted, and the first
interrupt message, MCTP packet and peer message leave the block. R275, R324: a unit whose drain has nothing left to wait for goes out of
service. R345: a transition whose work has ended destroys the keys, and step 9's warm reset comes once the COMMIT is answered. R292, R304,
R309: the vault is ready once the updates of step 12 are over, BRINGUP_TIME is taken with the last of READY bits 7 to 0, and the regime
leaves FIXED, with one message, once bits 8 and 9 are set and every test is over. Nothing else changes. -/
def Obligations.IdleStepLetsACyclePass : Prop :=
  (∀ s : State, s.pending = [] → s.pins.poRstLow = true → s = poImage s → step s = .next s) ∧
  ∀ s : State, s.pending = [] → atWork s = true → canon s = true →
    let y : State := { s with
      pins := { s.pins with cycles := s.pins.cycles + 1 }
      irq := s.irq.tail
      mgmt := { s.mgmt with mo := s.mgmt.mo.tail }
      peer := { s.peer with out := s.peer.out.tail } }
    let noDrainOver := ∀ u, (getUnit y u).draining = true → unitQuiet y u = false
    let still := noDrainOver ∧ s.life.draining = false ∧ s.life.busy = false
    let vaultOver := s.bring.vaultDone = true ∧ s.vault.ready = false ∧ s.vault.fresh = false ∧ s.vault.updates = [] ∧
      (∀ e ∈ s.fns, e.2.state ≠ .destroying) ∧ (∀ w ∈ s.rng.wires, w ≠ .inc ∧ ∀ f, w ≠ .ctx f)
    let timeDue := s.bring.bringupNs = 0 ∧ readyMask y none = 255
    let normalDue := s.bring.fixed = true ∧ (readyWord y).testBit 8 = true ∧ (readyWord y).testBit 9 = true ∧
      ∀ u ∈ allUnits, testsOver y u = true
    -- no drain and no transition
    (still → ¬vaultOver → ¬timeDue → ¬normalDue → step s = .next y) ∧
    (still → vaultOver → ∃ t, step s = .next t ∧ t.vault.ready = true ∧ t.pins.cycles = s.pins.cycles + 1) ∧
    (still → ¬vaultOver → timeDue → s.bring.fixed = false →
      step s = .next { y with bring := { y.bring with bringupNs := (s.pins.cycles + 1 - s.pins.resetAt) * refPeriod s } }) ∧
    (still → ¬vaultOver → ¬timeDue → normalDue →
      step s = .next (settle (collect (applyEnables (raiseOwn { y with bring := { y.bring with fixed := false } }))))) ∧
    -- the end of a unit's drain
    (∀ u, (getUnit y u).draining = true → unitQuiet y u = true → (∀ v, v ≠ u → (getUnit y v).draining = true → unitQuiet y v = false) →
      step s = .next (settle (collect (bringWatch (lcReset (lcDrainOver (takeDown y u .outOfService))))))) ∧
    -- a transition of the life cycle
    (noDrainOver → lcDrained y = true → lcQuiet y = true → step s = .next (settle (collect (bringWatch (lcReset (lcDestroy y)))))) ∧
    (noDrainOver → s.life.draining = false → s.life.busy = true → s.life.phase = .done → s.mgmt.waiting = none → s.mgmt.mo.tail = [] →
      s.vault.updates = [] →
      ∃ t, step s = .next t ∧ t.life.busy = false ∧ t.reqs = [] ∧ t.chains = [] ∧ t.pins.resetAt = s.pins.cycles + 1 ∧
        t.bring.begun = true ∧ t.rng.state = .advent ∧ t.rng.advents = s.rng.advents + 1 ∧ t.sticky = s.sticky)

def Obligations.ResetStateMeetsTheInvariant : Prop := Inv State.reset

/-- What the resets and the safe state impose (R300, R302, R329, R330) is never broken by a command or an idle step. -/
def Obligations.EveryStepKeepsTheInvariant : Prop := ∀ s t : State, Inv s → step s = .next t → Inv t

/-- Every command answers a next state; but the host's answers on a data port while PO_RST_N is low stop the model
(assumption log 11). -/
def Obligations.EveryCommandAnswersButAnswersInReset : Prop :=
  ∀ (c : Instr) (s : State),
    (s.pins.poRstLow = false → ∃ t, exec c s = .next t) ∧
    (s.pins.poRstLow = true →
      match c with
      | .readBeat _ _ _ _ _ | .writeResponse _ _ _ => exec c s = .fault .answerInReset
      | _ => ∃ t, exec c s = .next t)

/-! ### Resets and bring-up -/

/-- R300, R301: PO_RST_N low resets everything but the queue, the free-value counter, the levels held on the inputs, the instruction of the
test access port (assumption log 23, DEDUCED) and the count of survey pages that the NV device holds (log 64, DEDUCED). -/
def Obligations.PowerOnResetTakesHold : Prop :=
  ∀ s : State, s.raised = [] →
    exec .poRstNAssert s = .next
      { State.reset with
        pending := s.pending, free := s.free
        pins := { State.reset.pins with poRstLow := true, blkRstLow := s.pins.blkRstLow, safeReq := s.pins.safeReq }
        alarms := { State.reset.alarms with asserted := s.alarms.asserted }
        tap := { State.reset.tap with ir := s.tap.ir }
        nv := { State.reset.nv with pages := s.nv.pages } }

/-- R301, R304 (step 1), R328: at the release of PO_RST_N the strap is sampled and Advent begins; with SAFE_REQ held the block
enters the safe state at once.
R302: a warm reset takes no command of its inputs while PO_RST_N is low but their levels (R301); its release begins bring-up
in a quiescent block, and quiescence begins it in one that was not. -/
def Obligations.ReleasesBeginBringup : Prop :=
  (∀ (sel : BitVec 2) (s : State), s.pins.poRstLow = true → s = poImage s → s.alarms.asserted = [] →
    ∃ t, exec (.poRstNRelease sel) s = .next t ∧ t.pins.poRstLow = false ∧ t.pins.refSel = sel ∧ t.pins.cycles = 0 ∧
      t.safe = s.pins.safeReq ∧ t.pins.fatal = s.pins.safeReq ∧
      (s.pins.blkRstLow = false → t.bring.begun = true ∧ t.rng.state = .advent ∧ t.rng.step = .settle ∧ t.rng.advents = 1) ∧
      (s.pins.blkRstLow = true → t.bring.begun = false)) ∧
  (∀ s : State, s.pins.poRstLow = false → s.safe = false → s.pins.fatal = false → s.pins.safeAck = false → s.raised = [] →
    s.bring.begun = false → s.pins.safeReq = false →
    (s.pins.blkRstLow = true → s.pins.quiescent = true →
      ∃ t, exec .blkRstNRelease s = .next t ∧ t.pins.blkRstLow = false ∧ t.pins.resetAt = s.pins.cycles ∧ t.bring.begun = true ∧
        t.rng.state = .advent ∧ t.rng.advents = s.rng.advents + 1 ∧ t.cfg = s.cfg ∧ t.sticky = s.sticky) ∧
    (s.pins.blkRstLow = true → s.pins.quiescent = false →
      exec .blkRstNRelease s = .next { s with pins := { s.pins with blkRstLow := false, resetAt := s.pins.cycles } }) ∧
    (s.pins.blkRstLow = false → s.pins.quiescent = false → s.vault.updates = [] →
      ∃ t, exec .quiescence s = .next t ∧ t.pins.quiescent = true ∧ t.bring.begun = true ∧ t.rng.state = .advent ∧
        t.rng.advents = s.rng.advents + 1))

/-- R302, R303: what a warm reset ends, keeps and clears, from every state, the safe state included. Configuration, slots and functions are
kept; but a RESTORE whose update is cut gives back what it held (R259). -/
def Obligations.WarmResetTakesHold : Prop :=
  ∀ s : State, canon s = true → s.pins.poRstLow = false → s.pins.blkRstLow = false →
    ∃ t, exec .blkRstNAssert s = .next t ∧ t.pins.blkRstLow = true ∧
      -- work ends
      t.reqs = [] ∧ t.chains = [] ∧ t.timers = [] ∧ t.lookup = {} ∧ t.peer = {} ∧ t.mgmt.pend = [] ∧ t.mgmt.snaps = [] ∧
      (∀ b ∈ t.bursts, b.isUpd = true) ∧
      -- the safe state and its pins
      t.safe = false ∧ t.pins.fatal = false ∧ t.pins.safeAck = false ∧
      -- counters since block reset
      t.cnt = {} ∧ t.fstat = [] ∧ t.bring = {} ∧
      -- kept
      t.sticky = s.sticky ∧ t.ledgerR = s.ledgerR ∧ t.ledgerC = s.ledgerC ∧
      t.vault.inc = s.vault.inc ∧ t.vault.writeBack = s.vault.writeBack ∧ t.nv.recs = s.nv.recs ∧
      (noRestoral s = true → t.vault.slots = s.vault.slots ∧
        t.cfg = s.cfg.filter (fun e => !decide ((0xA000 ≤ e.1 / 256 ∧ e.1 / 256 ≤ 0xA10F) ∨
          (0x5000 ≤ e.1 / 256 ∧ e.1 / 256 ≤ 0x5FFF ∧ e.1 % 256 = 9)))) ∧
      -- units keep no fence
      (∀ u < unitCount, (getUnit t u).jubilee = (getUnit s u).jubilee ∧
        (getUnit t u).state =
          match (getUnit s u).state with
          | .fenced | .vigil | .selfTest | .retired => .selfTest
          | .outOfService => .outOfService
          | .active => if (getUnit s u).draining then .outOfService else .active) ∧
      -- rings and functions
      (∀ n, (getRing t n).state = .disabled) ∧
      (∀ f, noRestoral s = true → (getFn t f).mig = (getFn s f).mig ∧
        (getFn t f).state =
          match (getFn s f).state with
          | .running | .quiesced | .resetting => if (getFn s f).hostEnable then .running else .quiesced
          | .freezing => .frozen
          | st => st)

/-- R310, R311, R314, R357, R358, R388: what the steps of bring-up record. The sixteen fuse words are read in order; once the last one is
and the clocks are measured, step 4 begins if a sequencer has passed its self-test: the Almanac answers, and both ports are asked for
their capabilities, the lookup port by a query of kind 1 with QID 0. That step 4 opens though the fuse check failed (assumption log 68) and
that the NV port reads records 1 and 5, in this order (log 81), are the model's choices. -/
def Obligations.BringupStepsRecordWhatTheyMeasure : Prop :=
  ∀ s : State, atWork s = true →
    (∀ core port mgmt, s.bring.clockDone = false → s.bring.fuseCount ≠ 16 → s.pins.refSel ≠ 3 →
      400000 ≤ core → core ≤ 1600000 → 250000 ≤ port → port ≤ 1000000 → 100000 ≤ mgmt → mgmt ≤ 400000 →
      ∃ t, exec (.clockSurvey core port mgmt) s = .next t ∧ t.bring.coreKhz = core ∧ t.bring.portKhz = port ∧
        t.bring.mgmtKhz = mgmt ∧ t.bring.clockDone = true ∧ t.bring.survey = s.bring.survey ||| 2 ∧ t.safe = false) ∧
    (∀ core port mgmt, s.bring.clockDone = false → s.bring.fuseCount = 16 → clocksOk s core port mgmt = true →
      let y : State := { s with bring := { s.bring with
        coreKhz := core, portKhz := port, mgmtKhz := mgmt, clockDone := true, survey := s.bring.survey ||| 2 } }
      exec (.clockSurvey core port mgmt) s = .next (settle (collect (bringWatch
        (if s.bring.almanacUp = false ∧ anyReady s .seq none = true then stepFour y else y))))) ∧
    (∀ v : BitVec 32, s.bring.fuseCount = 15 →
      let y : State := { s with bring := { s.bring with fuse := tput 0 s.bring.fuse 15 v.toNat, fuseCount := 16 } }
      exec (.fuseRead 15 (some v)) s = .next (settle (collect (bringAdvance
        (if crc32c (fuseBytes y 0 56) = tget 0 y.bring.fuse 15 then { y with bring := { y.bring with fuseOk := true } }
         else raiseSrc y 508))))) ∧
    (fourDue s = true → bringAdvance s = bringWatch (stepFour s)) ∧ (fourDue s = false → bringAdvance s = bringWatch s) ∧
    ((stepFour s).bring = { s.bring with almanacUp := true, fwDigest := primBytes .romDigest [] 48, peerWait := true, lookupWait := true } ∧
      (stepFour s).lookup.queries = s.lookup.queries ++ [{ qid := 0, req := 0, kind := 1 }] ∧
      (stepFour s).peer.out = s.peer.out ++ [{ type := 0x01 }] ∧
      (s.nv.jobs = [] → (stepFour s).nv.jobs.map NvJob.recId = [1, 5])) ∧
    (∀ core aon, s.bring.lcRead = true → s.bring.bootRead = true → s.bring.supplyDone = false →
      600 ≤ core → core ≤ 900 → 650 ≤ aon → aon ≤ 950 →
      exec (.supplyCalibration core aon) s = .next { s with bring := { s.bring with
        coreMv := core, aonMv := aon, coreWin := (core * 92 / 100, core * 108 / 100), aonWin := (aon * 92 / 100, aon * 108 / 100)
        supplyDone := true, survey := s.bring.survey ||| 4 } }) ∧
    exec (.handshakeTimeout true) s = .next { s with
      bring := { s.bring with lookupWait := false }
      lookup := { s.lookup with queries := s.lookup.queries.filter fun k => decide (k.kind ≠ 1) } } ∧
    exec (.handshakeTimeout false) s = .next { s with bring := { s.bring with peerWait := false } } ∧
    (∀ (w : BitVec 4) (v : BitVec 32), w.toNat < 15 → s.bring.fuseCount = w.toNat →
      exec (.fuseRead w (some v)) s = .next { s with bring := { s.bring with
        fuse := tput 0 s.bring.fuse w.toNat v.toNat, fuseCount := w.toNat + 1 } }) ∧
    (s.bring.almanacUp = true → s.bring.unitIdDone = false →
      exec .identityKeysDerived s = .next { s with bring := { s.bring with unitIdDone := true, unitId := unitIdOf s } }) ∧
    (s.bring.almanacUp = true → s.bring.unitIdDone = true → readyBit s none 3 = true →
      exec .identityKeysDerived s = .next { s with bring := { s.bring with identity := true } })

/-- R181, R189, R304 (step 12): VAULT_BRINGUP, once the steps before it are over. With the vault placed and its content gone, an incarnation
value of 64 bits is taken from the reserve, every context key of the former incarnation goes, and the updates of step 12 follow; where the
reserve cannot serve it at once, it is asked for on the private wires. With the content kept, or VAULT_BASE zero, none is drawn (log 94).
With no slot, no cut update, no function that a reset met in a change and no context key missing, step 12 has no updates. Before the steps
that it waits for are over, the command has no effect. -/
def Obligations.VaultBringupDrawsAnIncarnation : Prop :=
  (∀ s : State, atWork s = true → vaultDue s = true →
    let opened := fun (y : State) =>
      (Host.Outcome.next (settle (collect (bringWatch (vaultTidy { y with bring := { y.bring with vaultDone := true } })))) : Out State)
    (vaultBase s ≠ 0 → s.vault.fresh = true → s.rng.state = .running → 8 ≤ s.rng.reserve.length →
      (∀ w ∈ s.rng.wires, 3 < wireClass w) →
      let y := incarnate { s with rng := { s.rng with reserve := s.rng.reserve.drop 8 } } (s.rng.reserve.take 8)
      exec .vaultBringup s = opened y ∧
      y.vault.inc = ofLe (s.rng.reserve.take 8) ∧ y.vault.fresh = false ∧ y.vault.slots = s.vault.slots) ∧
    (vaultBase s ≠ 0 → s.vault.fresh = true → s.rng.state = .running → s.rng.reserve.length < 8 →
      exec .vaultBringup s = .next (askWire s .inc)) ∧
    ((vaultBase s = 0 ∨ s.vault.fresh = false) → exec .vaultBringup s = opened s)) ∧
  (∀ s : State, s.vault.slots = [] → s.vault.writeBack = [] →
    (∀ e ∈ s.fns, e.2.state = .running ∨ e.2.state = .quiesced ∨ (e.2.state = .absent ∧ fnCfg s e.1 1 ≠ 1)) →
    (∀ f ∈ presentFns s, (getFn s f).ctxKey ≠ []) → vaultTidy s = s) ∧
  (∀ s : State, atWork s = true → vaultDue s = false → exec .vaultBringup s = .next s)

/-! ### The safe state and the fault collector -/

/-- R310, R328, R329, R340, R388: SAFE_REQ, a TAP instruction that drives the outputs, the loss of the core supply, a clock out of its
range and fuses that do not read lead to the safe state (their sources are locked to SAFE, R316; LockedSeveritiesStaySafe), and so does
every source whose reaction is SAFE once the collector has it. With the fuses read first, a survey out of range opens step 4 and the
collector ends it: that the collector acts at the end of the command (assumption log 32), that step 4 opens first (log 68), and that the
instructions of the test access port drive the outputs (log 97) are the model's readings. -/
def Obligations.EntriesToTheSafeState : Prop :=
  (∀ s : State, atWork s = true →
    (severity s 514 = 3 →
      (∃ t, exec (.safeReq true) s = .next t ∧ Entered 514 s t) ∧ (∃ t, exec .extest s = .next t ∧ Entered 514 s t) ∧
      (∃ t, exec .clamp s = .next t ∧ Entered 514 s t) ∧ (∃ t, exec .highz s = .next t ∧ Entered 514 s t)) ∧
    (severity s 513 = 3 → ∃ t, exec .coreSupplyLost s = .next t ∧ Entered 513 s t) ∧
    exec (.safeReq false) s = .next { s with pins := { s.pins with safeReq := false } }) ∧
  (∀ s : State, atWork s = true → s.bring.fuseCount ≠ 16 →
    (∀ core port mgmt, s.bring.clockDone = false → severity s 512 = 3 →
      (s.pins.refSel = 3 ∨ core < 400000 ∨ 1600000 < core ∨ port < 250000 ∨ 1000000 < port ∨ mgmt < 100000 ∨ 400000 < mgmt) →
      ∃ t, exec (.clockSurvey core port mgmt) s = .next t ∧ t.safe = true ∧ t.pins.fatal = true ∧ t.bring.survey = s.bring.survey ∧
        t.bring.coreKhz = core) ∧
    (∀ w : BitVec 4, s.bring.fuseCount = w.toNat → severity s 508 = 3 →
      ∃ t, exec (.fuseRead w none) s = .next t ∧ t.safe = true ∧ t.pins.fatal = true)) ∧
  (∀ s : State, atWork s = true → s.bring.fuseCount = 16 →
    ∀ core port mgmt, s.bring.clockDone = false → clocksOk s core port mgmt = false →
      let y : State := { s with bring := { s.bring with coreKhz := core, portKhz := port, mgmtKhz := mgmt, clockDone := true } }
      exec (.clockSurvey core port mgmt) s = .next (settle (collect (bringAdvance (raiseSrc y 512))))) ∧
  (∀ (src : Nat) (y : State), y.pins.poRstLow = false → src < 521 → src ∈ y.raised → reactionOf y src = .safe →
    (settle (collect y)).safe = true ∧ (settle (collect y)).pins.fatal = true)

/-- R300: the safe state is left only by a block reset. -/
def Obligations.SafeStateEndsOnlyByABlockReset : Prop :=
  ∀ (c : Instr) (s t : State), s.safe = true → s.pins.poRstLow = false → exec c s = .next t →
    c ≠ .poRstNAssert → c ≠ .blkRstNAssert → t.safe = true

/-- The queue belongs to the commander: no command touches it. The test access port changes by its own commands and the block's resets
alone; but a life-cycle transition that records its new state ends the grant of the test modes (R341). -/
def Obligations.QueueAndTestPortAreLeftAlone : Prop :=
  ∀ (c : Instr) (s t : State), exec c s = .next t →
    t.pending = s.pending ∧
    (s.pins.poRstLow = false →
      match c with
      | .poRstNAssert | .blkRstNAssert | .tapReset | .extest | .samplePreload | .idcode | .clamp | .highz | .almanac _ | .debugRead _
      | .wrapper _ | .bypass _ => True
      | .nvCommandEnd _ _ | .nvTimeout => t.tap = s.tap ∨ t.tap = { s.tap with wrapper := false, wso := false }
      | _ => t.tap = s.tap)

/-- R315 to R318, R320: the collector's reaction to a source of the block's own; one that the walker's memory sets ends what it touched
first. The sources of alarms, of the RNG and of units have effects of their own (R107 to R109, R194, R318). That source 496 ends the
requests of every fetch and of the update under way (assumption log 33), and that the collector acts at the command's end (log 32), are the
model's choices. -/
def Obligations.CollectorReactsBySeverity : Prop :=
  (∀ (src : BitVec 10) (s : State), atWork s = true →
    (521 ≤ src.toNat → exec (.faultSourceSet src) s = .next s) ∧
    (494 ≤ src.toNat → src.toNat < 521 → src.toNat ≠ 496 →
      (reactionOf s src.toNat = .log →
        exec (.faultSourceSet src) s = .next { s with sticky := s.sticky ||| BitVec.ofNat 768 (2 ^ src.toNat) }) ∧
      (reactionOf s src.toNat = .notify →
        exec (.faultSourceSet src) s = .next
          (let t : State := { s with sticky := s.sticky ||| BitVec.ofNat 768 (2 ^ src.toNat) }
           if s.sticky.getLsbD src.toNat then t else raiseOwn t)) ∧
      (reactionOf s src.toNat = .safe → ∃ t, exec (.faultSourceSet src) s = .next t ∧ Entered src.toNat s t))) ∧
  (∀ s : State, atWork s = true →
    (∀ e ∈ [(488, AlarmClass.supply), (489, .clock), (490, .light), (491, .temp), (492, .parity)],
      exec (.faultSourceSet (BitVec.ofNat 10 e.1)) s = .next (settle (collect (tripped s e.2 [])))) ∧
    (s.rng.state ≠ .halted → exec (.faultSourceSet 493) s = .next (settle (collect (haltRng s)))) ∧
    exec (.faultSourceSet 496) s = .next (settle (collect (raiseSrc
      (failAll s 496 ((reqsWith s fun _ => true).filter fun r =>
        (s.vault.fetches.any fun f => decide (f.req = r)) || decide (updReq s = some r))) 496))))

/-- R315 to R318, R320, R322, R324, R194: the sources of a unit. What their condition touched ends with FAULT_DETECTED, unless the safe
state follows or a fence treats it; the collector then reacts by the severity: a unit that is fenced is taken down, FENCED, or RETIRED where
its readmissions have reached the limit. A noise source's failed health test halts the RNG that runs. That an uncorrectable error ends all
the work that the unit holds is the model's choice (assumption log 33). That of a lane may be the watch of its mask generator, which a free
bit decides (log 140). -/
def Obligations.UnitSourcesReactBySeverity : Prop :=
  ∀ (u k : Nat) (s : State), atWork s = true → canon s = true → u < unitCount → sourceUnit (unitSource u k) = some u →
    let src := unitSource u k
    let cmd := Instr.faultSourceSet (BitVec.ofNat 10 src)
    let set : State := { s with sticky := s.sticky ||| BitVec.ofNat 768 (2 ^ src) }
    let note := if s.sticky.getLsbD src then set else raiseOwn set
    -- the condition
    exec cmd s = .next (settle (collect (unitCondition s u src))) ∧
    (kindOf u ≠ .ns → ¬(kindOf u = .lane ∧ (k = 1 ∨ k = 2)) → unitCondition s u src = raiseSrc (touched s u k) src) ∧
    (kindOf u = .ns → k = 0 → active s u = true → s.rng.state = .running → unitCondition s u src = haltRng (raiseSrc s src)) ∧
    (kindOf u = .lane → k = 1 → unitCondition s u src = raiseSrc (touched (watchTrips s u) u 1) src) ∧
    (k = 0 → touched s u k = s) ∧
    (reactionOf s src = .fence → active s u = true → kindOf u ≠ .grp → touched s u k = s) ∧
    (leadsSafe s src = false → (reactionOf s src ≠ .fence ∨ active s u = false) →
      (k = 1 → (kindOf u = .lane ∨ kindOf u = .hash ∨ kindOf u = .pka) →
        touched s u k = pumpAll ((reqsWith s (usesUnit u)).foldl (fun z r => failWork z r .faultDetected) s)) ∧
      (k = 1 → kindOf u = .seq → touched s u k = pumpAll ((seqSteps s u).foldl (fun z r => failWork z r .faultDetected) s))) ∧
    -- the collector's reaction
    ((getUnit s u).state ≠ .selfTest → probeFenced s src = none → kindOf u ≠ .ns → ¬(kindOf u = .lane ∧ (k = 1 ∨ k = 2)) →
      touched s u k = s →
      (reactionOf s src = .log → exec cmd s = .next set) ∧
      (reactionOf s src = .notify → exec cmd s = .next note) ∧
      (reactionOf s src = .safe → ∃ t, exec cmd s = .next t ∧ Entered src s t) ∧
      (reactionOf s src = .fence → active s u = false → (getUnit s u).state ≠ .active → exec cmd s = .next note) ∧
      (reactionOf s src = .fence → active s u = true →
        exec cmd s = .next (settle (collectN 7 (takeDown note u (if limitReached s u then .retired else .fenced))))))

/-- R17, R18, R21, R22, R24, R188, R199, R322 to R324: what a fence does. In a block without work the unit and what it contains leave
service, and every other unit stays as it is, but that a mover which takes over channels is clocked. A request on a fenced lane or hash lane
is rerun from its first step, with the values that it has taken, where the group has cells left; one that has issued a write, or holds a PKA
unit, ends with FAULT_DETECTED. The other bank of a fenced key-cache bank's group serves its slots and takes the entries that requests refer
to: that these move with their references (assumption log 27), and what becomes of work that waits (log 28), are the model's choices. A
fenced port's reads are issued on another port of the region and its writes fail. The rings of a fenced group go to the other group of its
region, those of a fenced region to the others, the channels of a mover to the other mover of its region. A fenced noise source feeds no
more. -/
def Obligations.FencesIsolateTheirUnits : Prop :=
  (∀ (u : Nat) (st : UnitState) (s : State), s.pins.poRstLow = false → canon s = true → u < unitCount → st ≠ .active → active s u = true →
    s.reqs = [] → s.chains = [] → s.rings = [] → s.chans = [] → s.cache = [] → s.txns = [] → s.bursts = [] →
    let t := takeDown s u st
    (getUnit t u).state = st ∧ active t u = false ∧
    (∀ v ∈ insideOf u, (getUnit s v).state = .active → (getUnit t v).state = st ∧ (getUnit t v).byCont = some u) ∧
    (∀ v, v ≠ u → v ∉ insideOf u → ∃ gated, getUnit t v = { getUnit s v with gated := gated }) ∧
    (kindOf u = .ns → t.rng.feeding.getLsbD (unitNo u) = false)) ∧
  (∀ (u r : Nat) (q : Req) (s : State), getReq s r = some q → canon s = true → q.phase ≠ .ended →
    let left := (activeCells s (kindOf u) ((groupOf u).getD 0)).filter (· ≠ u)
    ((q.wrote = true ∨ holdsPka q = true ∨ left.length < (if q.echo then 2 else 1)) → offCell s u r = failStep s r .faultDetected 0) ∧
    (q.wrote = false → holdsPka q = false → (if q.echo then 2 else 1) ≤ left.length → q.phase ≠ .vault → q.op.isSym = true →
      ∃ q', getReq (offCell s u r) r = some q' ∧ q'.phase = .waitGrant ∧ q'.unit = none ∧ q'.unit2 = none ∧ q'.regs = [] ∧
        q'.iv = q.iv ∧ q'.taken = q.taken ∧ q'.opened = q.opened ∧ q'.ctxCtr = q.ctxCtr ∧ q'.d = q.d)) ∧
  (∀ (b : Nat) (s : State), atWork s = true → canon s = true → b < 16 → active s (unitAt .kc b) = true →
    reactionOf s (321 + 2 * b) = .fence →
    let o := if b % 2 = 0 then b + 1 else b - 1
    ∃ t, exec (.faultSourceSet (BitVec.ofNat 10 (321 + 2 * b))) s = .next t ∧
      (getUnit t (unitAt .kc b)).state = (if limitReached s (unitAt .kc b) then .retired else .fenced) ∧
      t.sticky.getLsbD (321 + 2 * b) = true ∧ (∀ e ∈ t.cache, e.bank ≠ b) ∧ active t (unitAt .kc b) = false ∧
      (active s (unitAt .kc o) = true →
        (∀ i, i % 16 = b → bankOf t i = some o) ∧
        (∀ e, s.cache = [e] → e.slot % 16 = b → e.bank = b → 0 < e.refs →
          ∃ e', t.cache = [e'] ∧ e'.slot = e.slot ∧ e'.gen = e.gen ∧ e'.refs = e.refs ∧ e'.mat = e.mat ∧ e'.bank = o))) ∧
  (∀ (p : Nat) (x : Txn) (s : State), s.txns = [x] → x.port = p → x.quar = false → regionUp s (p / 4) = true →
    (activePorts s (p / 4)).isEmpty = false →
    let y : State := { s with txns := [{ x with quar := true, own := .none }] }
    (x.wr = true → portDown s p = answered y x.own x.addr x.data (some .memError)) ∧
    (∀ r i off, x.wr = false → x.own = .req r i off → portDown s p = submit y
      { region := p / 4, wr := false, addr := x.addr, len := x.len, fn := x.fn, pasid := x.pasid, own := x.own, vault := x.vault,
        payer := x.payer })) ∧
  (∀ (g n : Nat) (s : State), canon s = true → (getRing s n).home = some g →
    let o := if g % 2 = 0 then g + 1 else g - 1
    active s (unitAt .grp o) = true → (getUnit s (unitAt .grp o)).draining = false → (getRing (rehomeGroup s g) n).home = some o) ∧
  (∀ (m k n : Nat) (s : State), canon s = true → s.rings = [(n, getRing s n)] → (getRing s n).owner ≠ none → (getRing s n).region = m →
    leastBy (ringsInRegion s) (undrained s .reg ((upRegions s).filter (· ≠ m))) = some k → (getRing (rehomeRegion s m) n).region = k) ∧
  (∀ (m c : Nat) (s : State), canon s = true → c < 256 → chanMover s c = m →
    let o := if m % 2 = 0 then m + 1 else m - 1
    movOpen s o = true → chanMover (rehomeChans s m) c = o)

/-- R324, R325: the vigil of a fenced unit that leads: resolved, over, and checked. -/
def Obligations.VigilRunsItsCourse : Prop :=
  ∀ (u : Nat) (s : State), atWork s = true → canon s = true → u < unitCount → leaderOf s u = u → followers s u = [] →
    ((getUnit s u).state = .fenced →
      ∃ t, exec (.fenceResolved u) s = .next t ∧ t = setUnit s u { getUnit s u with state := .vigil }) ∧
    ((getUnit s u).state = .vigil →
      (∃ t, exec (.vigilPeriod u) s = .next t ∧ t = setUnit s u { getUnit s u with state := .selfTest }) ∧
      (kindOf u ≠ .port → exec (.vigilCheck u false) s = .next s) ∧
      exec (.vigilCheck u true) s = .next (settle (collect (raiseSrc s (mainSource u)))))

/-- R302, R304, R324: a self-test that passes makes a unit in service ready, but a lane whose generator has no seed, a PKA unit whose buffer
bring-up still fills and either in an alarm's hold stays out; one that fails sets the unit's source. A test that passes readmits a unit
that was fenced, a lane and a PKA unit among them: ACTIVE, or OUT_OF_SERVICE where it is commanded so, with one jubilee more; one that
fails retires it. -/
def Obligations.SelfTestReadmitsAUnit : Prop :=
  ∀ (u : Nat) (s : State), atWork s = true → canon s = true → u < unitCount →
    let ends := fun (x : State) => (Host.Outcome.next (settle (collect (bringAdvance (pumpAll x)))) : Out State)
    (kindOf u ≠ .lane → kindOf u ≠ .pka → mayEndTests s u = true) ∧
    ((getUnit s u).state = .active → (getUnit s u).tested = false →
      (mayEndTests s u = true → exec (.selfTestEnd (.unit u) true) s =
        ends (alarmOver (setUnit s u { getUnit s u with tested := true, kat := false }))) ∧
      (mayEndTests s u = false → exec (.selfTestEnd (.unit u) true) s = ends s) ∧
      exec (.selfTestEnd (.unit u) false) s = ends (raiseSrc s (mainSource u))) ∧
    ((getUnit s u).state = .selfTest →
      exec (.selfTestEnd (.unit u) false) s = ends (raiseSrc s (mainSource u)) ∧
      (leaderOf s u = u → ∀ l, (getUnit (setSource l s (mainSource u)) u).state = .retired) ∧
      (leaderOf s u = u → exec (.selfTestEnd (.unit u) true) s = ends (alarmOver (readmit s u))) ∧
      (leaderOf s u ≠ u → exec (.selfTestEnd (.unit u) true) s = ends s) ∧
      (leaderOf s u = u → (getUnit s u).noJub = false →
        (getUnit (readmit s u) u).state = (if unitCmd s u = 1 then .outOfService else .active) ∧
        (getUnit (readmit s u) u).jubilee = (getUnit s u).jubilee + 1 ∧ (readmit s u).nv.jubDirty = true ∧
        (followers s u = [] → (getUnit (readmit s u) u).tested = mayEndTests s u)))

/-- R254, R316, R327, R334: a divergence of a function, a ring or a unit is counted and sets source 498 once, with the reaction of its
severity, by default NOTIFY; LANTERN toggles while the block is healthy and holds its level in the safe state. -/
def Obligations.DivergenceIsSetOnceAndLanternToggles : Prop :=
  severity State.reset 498 = 1 ∧
  (∀ (n : Nat) (s : State), atWork s = true →
    let set := fun (y : State) => { y with
      cnt := { s.cnt with skewEvents := s.cnt.skewEvents + 1 }, sticky := s.sticky ||| BitVec.ofNat 768 (2 ^ 498) }
    let answers := fun (t : SkewTarget) (y : State) =>
      (reactionOf s 498 = .log → exec (.stateSkew t) s = .next (set y)) ∧
      (reactionOf s 498 = .notify → exec (.stateSkew t) s = .next (if s.sticky.getLsbD 498 then set y else raiseOwn (set y)))
    (fnDiverges s n = true →
      ((getFn s n).skew = false → answers (.fn n) (setFn s n { getFn s n with skew := true })) ∧
      ((getFn s n).skew = true → exec (.stateSkew (.fn n)) s = .next s)) ∧
    (ringDiverges s n = true →
      ((getRing s n).skew = false → answers (.ring n) (setRing s n { getRing s n with skew := true })) ∧
      ((getRing s n).skew = true → exec (.stateSkew (.ring n)) s = .next s)) ∧
    (unitDiverges s n = true →
      ((getUnit s n).skew = false → answers (.unit n) (setUnit s n { getUnit s n with skew := true })) ∧
      ((getUnit s n).skew = true → exec (.stateSkew (.unit n)) s = .next s)) ∧
    (fnDiverges s n = false → exec (.stateSkew (.fn n)) s = .next s) ∧
    (ringDiverges s n = false → exec (.stateSkew (.ring n)) s = .next s) ∧
    (unitDiverges s n = false → exec (.stateSkew (.unit n)) s = .next s)) ∧
  (∀ s : State,
    (atWork s = true → s.bring.almanacUp = true →
      exec .lanternToggle s = .next { s with pins := { s.pins with lantern := !s.pins.lantern } }) ∧
    (∀ t, s.safe = true → s.pins.poRstLow = false → exec .lanternToggle s = .next t → t.pins.lantern = s.pins.lantern))

/-! ### Power, the calendar and waits -/

/-- R246 to R248, R326, R383, R406, R407: what the block's own periods do. The capacities, shares and ceilings of an epoch are those that
stand when it begins. The jubilees are written where one has changed and 4 hours have passed since the last write; no second write is begun
before one has ended. That each estimate withholds one group more or none at all (assumption log 54, DEDUCED), and the moment of the
jubilee write (log 67), are the model's readings. -/
def Obligations.PeriodicWorkOfTheBlock : Prop :=
  ∀ s : State, atWork s = true →
    (∀ u, cellBusy s u = false → exec (.clockGate u) s = .next (setUnit s u { getUnit s u with gated := true })) ∧
    (58000000 < powerUw s → exec .powerEstimate s = .next { s with cal := { s.cal with
      usReqs := 0, usBytes := 0, withheld := addNew s.cal.withheld s.cal.nextGrp, nextGrp := (s.cal.nextGrp + 1) % 8 } }) ∧
    (powerUw s ≤ 58000000 → exec .powerEstimate s = .next { s with cal := { s.cal with
      usReqs := 0, usBytes := 0, withheld := [] } }) ∧
    (∃ t, exec .calendarEpoch s = .next t ∧ t = { s with cal := t.cal } ∧ t.cal.started = true ∧
      (∀ k < 32, tget 0 t.cal.cap k = capNow s k) ∧ t.cal.book = bookNow s ∧ t.cal.last = s.cal.last) ∧
    (s.irq = [] → exec .interruptStall s = .next s) ∧
    (s.irq ≠ [] → exec .interruptStall s = .next (settle (collect (raiseSrc s 518)))) ∧
    (s.bring.nvDone = true → s.nv.jubDirty = true → 14400000000000 ≤ (s.pins.cycles - s.nv.jubAt) * refPeriod s →
      (∀ j ∈ s.nv.jobs, j.why ≠ .jubilee) → overBudget s 4 = false →
      exec .jubileePersist s = .next (settle (collect (nvSubmit { s with nv := { s.nv with jubDirty := false } }
        { recId := 4, write := some (jubileePayload s), why := .jubilee, step := .program 0 })))) ∧
    ((s.nv.jubDirty = false ∨ (s.pins.cycles - s.nv.jubAt) * refPeriod s < 14400000000000 ∨ ∃ j ∈ s.nv.jobs, j.why = .jubilee) →
      exec .jubileePersist s = .next s)

/-- R16, R247, R248, R325, R407: a grant of the time of lanes, hash lanes or PKA units goes to a waiting request of the function that the
calendar picks: it is charged, and it may run after its last grant; hash time that is withheld for power is not granted. A grant of port
bandwidth lets a probe of a port go whatever the calendar holds, and else one burst of the function that the calendar picks. That a request
takes the lowest-numbered unit that is open is the model's choice (assumption log 8). -/
def Obligations.CalendarGrantsWaitingRequests : Prop :=
  (∀ (g f r : Nat) (q : Req) (e : Container × Kind × Nat) (s : State), atWork s = true → g < 8 →
    e ∈ [(Container.cipher g, Kind.lane, g), (.hash g, .hash, 8 + g), (.pka g, .pka, 16 + g)] →
    let k := e.2.1
    let fn := fun (x : Nat) => ((getReq s x).map Req.fn).getD 0
    let picked := pickFn s e.2.2 ((reqsWith s (grantable s k g)).map fn).eraseDups
    (k = .hash → g ∈ s.cal.withheld → exec (.calendarGrant e.1) s = .next s) ∧
    ((k = .hash → g ∉ s.cal.withheld) → picked = none → exec (.calendarGrant e.1) s = .next s) ∧
    ((k = .hash → g ∉ s.cal.withheld) → picked = some f → (reqsWith s (grantable s k g)).find? (fun x => decide (fn x = f)) = some r →
      getReq s r = some q →
      exec (.calendarGrant e.1) s = .next (settle (collect (served (grantReq s k g e.2.2 r) e.2.2 f))) ∧
      ∃ q', getReq (grantReq s k g e.2.2 r) r = some q' ∧ q'.grants = q.grants - 1 ∧
        q'.phase = (if q.grants ≤ 1 then (if q.resume = .unit2 then .loaded else .ready) else .waitGrant) ∧ q'.d = q.d ∧
        (q.unit = none → q'.unit = (openUnits s k g).head?))) ∧
  ∀ (m i p t : Nat) (b : Burst) (e : Container × Nat) (s : State), atWork s = true → m < 4 →
    e ∈ [(Container.portRead m, 24 + m), (.portWrite m, 28 + m)] →
    let k := e.2
    let rest : State := { s with bursts := s.bursts.eraseIdx i }
    let goes := s.bursts[i]? = some b ∧ burstPort rest b = some p ∧ freeTag rest p = some t
    let picked := pickFn s k ((s.bursts.filter (issuable s k)).map Burst.acct).eraseDups
    (s.bursts.findIdx? (fun x => issuable s k x && x.isProbe) = some i → goes →
      exec (.calendarGrant e.1) s = .next (settle (collect (issueOn rest b p t)))) ∧
    (s.bursts.findIdx? (fun x => issuable s k x && x.isProbe) = none →
      (picked = none → exec (.calendarGrant e.1) s = .next s) ∧
      (∀ f, picked = some f → s.bursts.findIdx? (fun x => issuable s k x && decide (x.acct = f)) = some i → goes →
        bandwidth rest b = true → exec (.calendarGrant e.1) s = .next (settle (collect (served (issueOn rest b p t) k f)))))

/-- R63, R67, R115, R161: what a wait's end brings. -/
def Obligations.WaitsEndAsTheirRulesSay : Prop :=
  ∀ s : State, atWork s = true →
    (∀ n, 0 < (getRing s n).coal → exec (.coalTime n) s = .next (settle (collect (signalRing s n)))) ∧
    (∀ n, (getRing s n).coal = 0 → exec (.coalTime n) s = .next s) ∧
    (∀ g cid rest c, bufWaiters s g = cid :: rest → getChain s cid = some c → chainPages s c true ≤ 256 - tget 0 s.chainUse g →
      exec (.chainWaitEnd g) s = .next (settle (collect (pumpAll (startChain (takePages s cid c (chainPages s c true)) cid))))) ∧
    (∀ g r rest q, waitersIn s g .waitEcho = r :: rest → getReq s r = some q → tget 0 s.echoUse g + stagingNeed q ≤ 262144 →
      exec (.echoStagingWaitEnd g) s = .next (settle (collect (enqueue
        (setReq { s with echoUse := tput 0 s.echoUse g (tget 0 s.echoUse g + stagingNeed q) } r
          (some { q with staged := stagingNeed q })) r)))) ∧
    (∀ b k r, (reqsWith s fun p => match waitedSlot s p with
        | some i => decide (bankOf s i = some b ∧ setOf i = k) && hasWay s b i
        | none => false).find? (fun x => !(s.vault.fetches.any fun f => decide (f.req = x))) = some r →
      exec (.cacheWayRelease b k) s = .next (settle (collect (pumpAll (resolve s r)))))

/-! ### Request rings -/

/-- R36, R37, R303: a doorbell counts descriptors up to the size of the ring, a larger step sets DOORBELL_OVERRUN, and a doorbell
to a DISABLED ring is ignored. Nothing but the ring's record changes. -/
def Obligations.RingDoorbellCountsDescriptors : Prop :=
  ∀ (f : Nat) (off : BitVec 13) (v : U32) (n : Nat) (s : State), atWork s = true → targetOpen s f = true →
    off.toNat < 0x800 → off.toNat % 8 = 0 → ringAt s f (off.toNat / 8) = some n →
    ((getRing s n).state = .disabled → exec (.ringDoorbell f off v) s = .next s) ∧
    ((getRing s n).state ≠ .disabled → (v - (getRing s n).prev).toNat ≤ ringSize s n → v ≠ (getRing s n).prev →
      exec (.ringDoorbell f off v) s = .next (setRing s n { getRing s n with
        prev := v, eligible := (getRing s n).eligible + (v - (getRing s n).prev).toNat })) ∧
    ((getRing s n).state ≠ .disabled → ringSize s n < (v - (getRing s n).prev).toNat →
      exec (.ringDoorbell f off v) s = .next (setRing s n { getRing s n with errors := (getRing s n).errors ||| 1 }))

/-- R19, R38: a sequencer of the home group reads at most 16 descriptors in one burst, not past the ring's end. That one fetch stays within
one burst, which does not cross 4 KiB, is the model's reading (assumption log 53, DEDUCED).
R51, R53: the bits of PHASE_FLAGS. An entry that ends a request has SPILLED clear where its step failed (DESIGN CHOICE, log 154).
R55: a ring that has failed to write a completion entry writes no further one, and what the entry would have ended is over (DEDUCED,
log 22); from RUNNING and DRAINING it enters ERROR, though a disable goes on (DESIGN CHOICE, log 122). -/
def Obligations.FetchesFlagsAndDeadRings : Prop :=
  (∀ ver ph notRun discard spilled flip fail,
    let b := phaseFlags ver ph notRun discard spilled flip fail
    b < 128 ∧ b.testBit 0 = ph ∧ b.testBit 1 = notRun ∧ b.testBit 2 = discard ∧ b.testBit 3 = false ∧ b.testBit 6 = fail ∧
    (ver = 1 → b.testBit 4 = false ∧ b.testBit 5 = false) ∧
    (ver ≠ 1 → b.testBit 4 = spilled ∧ b.testBit 5 = flip)) ∧
  (∀ (r : Nat) (q : Req) (st : Status) (res : Nat) (notRun : Bool) (s : State), getReq s r = some q →
    ∃ (discard counted atOnce : Bool) (vec : Nat), endReq s r st res notRun =
      putEntry (retireReq s r q) q.ring q.chain st false counted atOnce vec q.wrote fun ver ph =>
        cqEntry ver q.d.tag st.code (phaseFlags ver ph notRun discard (q.spilled && st.ran) (q.flip && !notRun) false) q.idx
          (if notRun then 0 else res)) ∧
  (∀ (n chain vec : Nat) (st : Status) (counted atOnce wrote : Bool) (entry : Nat → Bool → Bytes) (s : State),
    (getRing s n).dead = true → putEntry s n chain st false counted atOnce vec wrote entry = entryDone s n chain) ∧
  (∀ (n chain vec : Nat) (s : State), canon s = true → ringCfg s n 9 ≠ 0 →
    ((getRing s n).state = .running ∨ (getRing s n).state = .draining) →
    (getRing (cqFailed s n chain false vec) n).state = .error ∧ (getRing (cqFailed s n chain false vec) n).dead = true ∧
    (getRing (cqFailed s n chain false vec) n).errors = (getRing s n).errors ||| 4) ∧
  ∀ (n : Nat) (s : State), atWork s = true → mayFetch s n = true → 0 < descSize (getRing s n).version →
    fetchCount s n ≤ 16 ∧ fetchCount s n ≤ (getRing s n).eligible ∧
    (getRing s n).fetchCnt.toNat % ringSize s n + fetchCount s n ≤ max (ringSize s n) ((getRing s n).fetchCnt.toNat % ringSize s n) ∧
    exec (.descriptorFetch n) s = .next (settle (collect
      (submit (wakeGroup (setRing s n { getRing s n with fetching := true, fetchGrp := (getRing s n).home.getD 0 })
          ((getRing s n).home.getD 0))
        { region := (getRing s n).region, wr := false
          addr := ringCfg s n 3 + (getRing s n).fetchCnt.toNat % ringSize s n * descSize (getRing s n).version
          len := fetchCount s n * descSize (getRing s n).version, fn := (getRing s n).owner.getD 0, pasid := ringCfg s n 6
          own := .desc n (getRing s n).fetchCnt.toNat (fetchCount s n) })))

/-- R50, R53: the bytes of a completion entry, under RP2 and RP3 and under RP1, whose flags never hold bits 4 and 5; the entry that ends
a request has the COMPL_TAG of its descriptor, its status, the position of its step and its RESULT. -/
def Obligations.CompletionEntryHasItsLayout : Prop :=
  (∀ (ver tag st flags idx res : Nat), st < 2 ^ 16 → flags < 256 → res < 2 ^ 32 →
    (cqEntry ver tag st flags idx res).length = 16 ∧
    (ver ≠ 1 → tag < 2 ^ 64 →
      fld (cqEntry ver tag st flags idx res) 0 8 = tag ∧ fld (cqEntry ver tag st flags idx res) 8 2 = st ∧
      fld (cqEntry ver tag st flags idx res) 10 1 = flags ∧
      fld (cqEntry ver tag st flags idx res) 11 1 = (if ver = 2 then 0 else min idx 255) ∧
      fld (cqEntry ver tag st flags idx res) 12 4 = res) ∧
    (ver = 1 → tag < 2 ^ 32 →
      fld (cqEntry ver tag st flags idx res) 0 4 = tag ∧ fld (cqEntry ver tag st flags idx res) 4 2 = st ∧
      fld (cqEntry ver tag st flags idx res) 6 1 = flags ∧ fld (cqEntry ver tag st flags idx res) 7 1 = 0 ∧
      fld (cqEntry ver tag st flags idx res) 8 4 = res ∧ fld (cqEntry ver tag st flags idx res) 12 4 = 0)) ∧
  (∀ (r : Nat) (q : Req) (st : Status) (res : Nat) (notRun : Bool) (s : State), getReq s r = some q →
    ∃ (flags : Nat → Bool → Nat) (counted atOnce : Bool) (vec : Nat),
      (endReq s r st res notRun =
        putEntry (retireReq s r q) q.ring q.chain st false counted atOnce vec q.wrote fun ver ph =>
          cqEntry ver q.d.tag st.code (flags ver ph) q.idx (if notRun then 0 else res)) ∧
      ∀ ver ph, flags ver ph < 256 ∧ (ver = 1 → (flags ver ph).testBit 4 = false ∧ (flags ver ph).testBit 5 = false))

/-- R19, R39: the block writes completion entry number c at completion-ring position c mod 2^k, with phase bit 1 when floor(c / 2^k) is
even, and its 16 bytes are one beat, over a port of the region that ran the chain. -/
def Obligations.CompletionEntriesAreWrittenInTurn : Prop :=
  ∀ (n chain vec : Nat) (st : Status) (ff counted atOnce wrote : Bool) (entry : Nat → Bool → Bytes) (s : State),
    ((getRing s n).dead = false →
      putEntry s n chain st ff counted atOnce vec wrote entry =
        submit (setRing s n { getRing s n with nextEnt := (getRing s n).nextEnt + 1 })
          { region := (match getChain s chain with | some c => groupRegion s c.group | none => (getRing s n).region), wr := true
            addr := ringCfg s n 5 + 16 * ((getRing s n).nextEnt.toNat % 2 ^ ringCfg s n 4), len := 16
            fn := (getRing s n).owner.getD 0, pasid := ringCfg s n 6
            data := entry (getRing s n).version (decide ((getRing s n).nextEnt.toNat / 2 ^ ringCfg s n 4 % 2 = 0))
            own := .cq n st counted atOnce chain ff vec wrote }) ∧
    (ringCfg s n 5 % 16 = 0 → linesOf (ringCfg s n 5 + 16 * ((getRing s n).nextEnt.toNat % 2 ^ ringCfg s n 4)) 16 = 1)

/-! ### Data ports -/

/-- R371 to R375, R213, R216: read beats and write responses. A beat or response of code 1 is MEM_ERROR, of code 2 MEM_DECODE and of code 3
MEM_POISON; codes 1 and 3 set the port's source k = 2. The first error of a transaction is its status, noted as it arrives, and every
remaining beat is taken. An error that comes with the last byte is counted as late by a reading of the model (assumption log 37,
DEDUCED). -/
def Obligations.DataPortAnswersReachTheirTransaction : Prop :=
  ∀ (port tag : Nat) (x : Txn) (s : State), atWork s = true → port < 16 → findTxn s port tag = some x → x.quar = false →
    (∀ data, x.wr = false → x.beats + 1 ≠ linesOf x.addr x.len →
      exec (.readBeat port tag 0 false data) s = .next (modTxn s port tag fun _ =>
        { x with beats := x.beats + 1, data := x.data ++ txnLine x data })) ∧
    (∀ data, x.wr = false → x.beats + 1 = linesOf x.addr x.len → x.err = none →
      exec (.readBeat port tag 0 true data) s = .next (settle (collect (retireTxn s
        { x with beats := x.beats + 1, data := x.data ++ txnLine x data } none)))) ∧
    (x.wr = true → exec (.writeResponse port tag 0) s = .next (settle (collect (retireTxn s x none)))) ∧
    (∀ e ∈ [((1 : BitVec 2), Status.memError), (2, .memDecode), (3, .memPoison)],
      let y := if e.1 = 2 ∨ x.cut = true then s else raiseSrc s (354 + 4 * port)
      let line := fun (data : Bytes) (err : Status) => { x with beats := x.beats + 1, data := x.data ++ txnLine x data, err := some err }
      (x.wr = true → exec (.writeResponse port tag e.1) s = .next (settle (collect (retireTxn (lateError y x.own) x (some e.2))))) ∧
      (∀ data, x.wr = false → x.beats + 1 ≠ linesOf x.addr x.len → x.err = none →
        exec (.readBeat port tag e.1 false data) s = .next (settle (collect
          (noteErr (modTxn y port tag fun _ => line data e.2) x.own e.2)))) ∧
      (∀ data first, x.wr = false → x.beats + 1 ≠ linesOf x.addr x.len → x.err = some first →
        exec (.readBeat port tag e.1 false data) s = .next (settle (collect (modTxn y port tag fun _ => line data first)))) ∧
      (∀ data, x.wr = false → x.beats + 1 = linesOf x.addr x.len → x.err = none →
        exec (.readBeat port tag e.1 true data) s = .next (settle (collect (retireTxn (lateError y x.own) (line data e.2) (some e.2))))) ∧
      (∀ data first, x.wr = false → x.beats + 1 = linesOf x.addr x.len → x.err = some first →
        exec (.readBeat port tag e.1 true data) s = .next (settle (collect (retireTxn y (line data first) (some first)))))) ∧
    (∀ data first, x.wr = false → x.beats + 1 = linesOf x.addr x.len → x.err = some first →
      exec (.readBeat port tag 0 true data) s = .next (settle (collect (retireTxn s
        { x with beats := x.beats + 1, data := x.data ++ txnLine x data } (some first))))) ∧
    (∀ resp data last, x.wr = true →
      exec (.readBeat port tag resp last data) s = .next (settle (collect (failTxn (raiseSrc s (353 + 4 * port)) x .memError))))

/-- R184, R214, R373, R375: PORT_TIMEOUT sets the port's timeout source, counts, quarantines the tag, and gives the transaction's work
MEM_TIMEOUT, or the error that a beat of it has brought before, unless the source leads to the safe state, which then ends it; an access to
the vault has VAULT_TIMEOUT in its place, which quarantines its tag alike and sets no source (assumption log 35, DEDUCED). An answer that no
transaction has is a protocol break of its port and changes no transaction; a late answer on a quarantined tag frees it and is counted. -/
def Obligations.TimeoutsStrayAndLateAnswers : Prop :=
  (∀ (port tag : Nat) (x : Txn) (s : State), atWork s = true → port < 16 → findTxn s port tag = some x → x.quar = false →
    let failed := fun (y : State) => settle (collect (pumpAll (answered
      (cancelWaiting (modTxn y port tag fun z => { z with quar := true, own := .none }) x.own) x.own x.addr x.data
      (some (x.err.getD .memTimeout)))))
    (x.vault = false → reactionOf s (355 + 4 * port) ≠ .safe → exec (.portTimeout port tag) s =
      .next (failed (raiseSrc { s with cnt := { s.cnt with timeouts := s.cnt.timeouts + 1 } } (355 + 4 * port)))) ∧
    (x.vault = false → reactionOf s (355 + 4 * port) = .safe →
      ∃ t, exec (.portTimeout port tag) s = .next t ∧ Entered (355 + 4 * port) s t) ∧
    (x.vault = true → exec (.portTimeout port tag) s = .next s) ∧
    (x.vault = true → exec (.vaultTimeout port tag) s = .next (failed s)) ∧
    (x.vault = false → exec (.vaultTimeout port tag) s = .next s) ∧
    (∀ g : Txn → Txn, (∀ z, (g z).port = z.port ∧ (g z).tag = z.tag) → findTxn (modTxn s port tag g) port tag = some (g x))) ∧
  (∀ (port tag : Nat) (s : State), atWork s = true → port < 16 →
    (findTxn s port tag = none →
      (∀ resp, exec (.writeResponse port tag resp) s = .next (settle (collect (raiseSrc s (353 + 4 * port))))) ∧
      (∀ resp last data, exec (.readBeat port tag resp last data) s = .next (settle (collect (raiseSrc s (353 + 4 * port)))))) ∧
    (∀ x, findTxn s port tag = some x → x.quar = true →
      let freed : State := { s with
        txns := s.txns.filter fun y => !(decide (y.port = port ∧ y.tag = tag))
        cnt := { s.cnt with lateAns := s.cnt.lateAns + 1 } }
      (x.wr = true → exec (.writeResponse port tag 0) s = .next freed) ∧
      (∀ data, x.wr = false → x.beats + 1 = linesOf x.addr x.len → exec (.readBeat port tag 0 true data) s = .next freed)))

/-! ### Requests: symmetric operations -/

/-- R49, R96: NOP and NOP_SIGNAL complete OK with RESULT zero; CONTEXT_INFO writes 32 bytes that begin with the context's own header;
CONTEXT_CLOSE zeroes the context. -/
def Obligations.NopsAndContextRows : Prop :=
  (∀ (r : Nat) (q : Req) (s : State),
    (Stands s r q .nop .ready → exec (.nop r) s = .next (leaves (endStep s r .ok 0))) ∧
    (Stands s r q .nopSignal .ready → exec (.nopSignal r) s = .next (leaves (endStep s r .ok 0)))) ∧
  (∀ (r : Nat) (q : Req) (st : Bytes) (s : State), readCtx s q = .ok st →
    (Stands s r q .ctxInfo .ready → 32 ≤ q.d.dstCap → ∃ rest : Bytes, rest.length = 28 ∧
      exec (.contextInfo r) s = .next (leaves (writeOut s r (q.ctxIn.take 4 ++ rest) .ok 32))) ∧
    (Stands s r q .ctxInfo .ready → q.d.dstCap < 32 → exec (.contextInfo r) s = .next (leaves (failStep s r .destOverflow 0))) ∧
    (Stands s r q .ctxClose .ready → q.slot = none →
      exec (.contextClose r) s = .next (leaves (afterWrites (setReq s r (some { q with ctxOut := zeros 256, status := .ok, result := 0 })) r))))

/-- R70, R76, R78, R80, R114: the outputs of cipher, digest and MAC requests, whose two lanes agree if they are echoed. Encryption and
decryption write the stream; AEAD encryption the device IV, the AAD under COPY_AAD, the stream and the tag; GMAC generation the device IV
and the tag; a digest or MAC its value. A segment with CONTEXT_OUT has no tag and no value yet. Each ends with OK and the length written.
R87, R88, R90, R92: a segment with CONTEXT_OUT saves its context, clear or wrapped, and writes it once its outputs are written.
R115, R116, R410: where the lanes of an echoed request disagree, both set their source and the step ends with FAULT_DETECTED, unless the
safe state follows; nothing is written but, of an output above 64 KiB to host memory, the chunks of 16 KiB before the disagreement. -/
def Obligations.CipherRequestsWriteTheirOutput : Prop :=
  (∀ (r : Nat) (q : Req) (s : State),
    let x := segOf s q
    let o := runSeg x
    let tag := if q.d.flag fCtxOut then [] else o.tag
    let aad := if q.d.copyAad && isAead (modeOf q.d.opcode) then x.aad else []
    let put := fun (b : Bytes) => leaves (writeOut (kept s r q) r b .ok b.length)
    (segment s r q .encrypt → exec (.encrypt r) s = .next (put o.out)) ∧
    (segment s r q .decrypt → exec (.decrypt r) s = .next (put o.out)) ∧
    (segment s r q .aeadEnc →
      exec (.aeadEncrypt r) s = .next (put ((if q.d.flag fDeviceIv then x.iv else []) ++ aad ++ o.out ++ tag))) ∧
    (segment s r q .gmacGen → exec (.gmacGenerate r) s = .next (put ((if q.d.flag fDeviceIv then x.iv else []) ++ tag))) ∧
    (segment s r q .hash → exec (.hash r) s = .next (put tag)) ∧
    (segment s r q .macGen → exec (.macGenerate r) s = .next (put tag))) ∧
  (∀ (r : Nat) (q : Req) (st : Bytes) (s : State),
    let m := modeOf q.d.opcode
    let iv := be 4 q.fn ++ be 8 q.ctxCtr
    let e := gcmSeal q.ctxKey iv (ctxHead s q 1 m) st
    (savesWrapped s q q.opened = false → ctxBytes s q st = ctxHead s q 0 m ++ zeros 12 ++ st ++ zeros 28) ∧
    (savesWrapped s q q.opened = true → ctxBytes s q st = ctxHead s q 1 m ++ iv ++ e.1 ++ e.2 ++ zeros 12) ∧
    (∀ form, (ctxHead s q form m).length = 16 ∧ fld (ctxHead s q form m) 0 2 = 1 ∧ (form < 256 → fld (ctxHead s q form m) 2 1 = form)) ∧
    (getReq s r = some q → q.status.ran = true → q.ctxOut ≠ [] →
      afterWrites s r = writePieces (setReq s r (some { q with
          phase := .ctxWrite, outst := (piecesOf q.d.ctx q.ctxOut.length).length, ctxOut := [] })) (reqWho s q)
        (piecesOf q.d.ctx q.ctxOut.length) q.ctxOut (fun _ => .ctx r) false)) ∧
  ∀ (r i : Nat) (q : Req) (c : Instr) (o : Op) (s : State),
    (c, o) ∈ [(Instr.encrypt r, Op.encrypt), (.decrypt r, .decrypt), (.aeadEncrypt r, .aeadEnc), (.aeadDecrypt r, .aeadDec),
      (.gmacGenerate r, .gmacGen), (.gmacVerify r, .gmacVer), (.hash r, .hash), (.macGenerate r, .macGen), (.macVerify r, .macVer),
      (.decryptVerify r, .decVer), (.reencryptVerify r, .reencVer), (.digestVerify r, .digVer)] →
    Stands s r q o .loaded → q.d.flag fSrcPeer = false → q.d.flag fDstPeer = false → q.echo = true →
    echoDiff s q (segOf s q) = some i → safeComes s = false →
    let x := segOf s q
    let us := q.unit.toList ++ q.unit2.toList
    let s1 := counted s q
    let s2 := us.foldl (fun z u => raiseSrc z (unitSource u 2)) { s1 with cnt := { s1.cnt with echoMis := s1.cnt.echoMis + 1 } }
    let tag := if (o = .aeadEnc ∨ o = .gmacGen ∨ o = .macGen) ∧ x.final = true then (runSeg x).tag else []
    let out := outHead q x ++ (runSeg x).out ++ tag
    let n := if out.length ≤ 65536 then 0
      else min (16384 * (((outHead q x).length + i) / 16384)) (16384 * ((out.length - tag.length) / 16384))
    let writes := o ∈ [Op.encrypt, .decrypt, .aeadEnc, .aeadDec] ∧ (feeds s r = false ∨ q.spilled = true) ∧ 0 < n
    ((∀ u ∈ us, leadsSafe s (unitSource u 2) = false) →
      (writes → exec c s = .next (leaves (writeOut s2 r (out.take n) .faultDetected 0))) ∧
      (¬writes → exec c s = .next (leaves (failStep s2 r .faultDetected 0)))) ∧
    ((∃ u ∈ us, leadsSafe s (unitSource u 2) = true) → exec c s = .next (leaves s2))

/-- R77, R78: a tag check that passes completes OK; one that fails completes with AUTH_FAIL and RESULT zero. An AEAD decryption that feeds
the next step on the block writes nothing then; another has written its output. A segment with CONTEXT_OUT has no tag to check and saves
its context (R87). -/
def Obligations.TagChecksPassOrFailWithAuthFail : Prop :=
  ∀ (r : Nat) (q : Req) (s : State),
    let x := segOf s q
    let o := runSeg x
    let aad := if q.d.copyAad && isAead (modeOf q.d.opcode) then x.aad else []
    let good := q.d.flag fCtxOut = true ∨ o.tag = (prmTag q.prm).take o.tag.length
    (segment s r q .aeadDec → good →
      exec (.aeadDecrypt r) s = .next (leaves (writeOut (kept s r q) r (aad ++ o.out) .ok (aad ++ o.out).length))) ∧
    (segment s r q .aeadDec → ¬good → (feeds (counted s q) r = false ∨ q.spilled = true) →
      exec (.aeadDecrypt r) s = .next (leaves (writeOut (counted s q) r (aad ++ o.out) .authFail 0))) ∧
    (segment s r q .aeadDec → ¬good → feeds (counted s q) r = true → q.spilled = false →
      exec (.aeadDecrypt r) s = .next (leaves (failStep (counted s q) r .authFail 0))) ∧
    (segment s r q .gmacVer → good → exec (.gmacVerify r) s = .next (leaves (writeOut (kept s r q) r [] .ok 0))) ∧
    (segment s r q .gmacVer → ¬good → exec (.gmacVerify r) s = .next (leaves (failStep (counted s q) r .authFail 0))) ∧
    (segment s r q .macVer → good → exec (.macVerify r) s = .next (leaves (writeOut (kept s r q) r [] .ok 0))) ∧
    (segment s r q .macVer → ¬good → exec (.macVerify r) s = .next (leaves (failStep (counted s q) r .authFail 0)))

/-- R97 to R100: a comparison that agrees completes OK with the reference's length; one that differs completes with
VERIFY_MISMATCH and the offset of the first byte that differs; an AEAD decryption under verification whose tag is wrong fails. With
CONTEXT_IN it continues a context; one with CONTEXT_OUT is refused before it is accepted. -/
def Obligations.VerifyingRequestsCompareWithTheReference : Prop :=
  (∀ (r : Nat) (q : Req) (s : State),
    let x := segOf s q
    let o := runSeg x
    let m := modeOf q.d.opcode
    let good := o.tag = (prmTag q.prm).take o.tag.length
    let ends := fun (stream : Bytes) => leaves (match firstDiff 0 stream q.refB with
      | none => endStep (kept s r q) r .ok q.d.dstCap
      | some i => endStep (kept s r q) r .verifyMismatch i)
    (segment s r q .decVer → (isAead m = false ∨ good) → exec (.decryptVerify r) s = .next (ends o.out)) ∧
    (segment s r q .decVer → isAead m = true → ¬good →
      exec (.decryptVerify r) s = .next (leaves (failStep (kept s r q) r .authFail 0))) ∧
    (segment s r q .reencVer → exec (.reencryptVerify r) s = .next (ends (o.out ++ (if isAead m then o.tag else [])))) ∧
    (segment s r q .digVer → exec (.digestVerify r) s = .next (ends o.tag))) ∧
  ∀ q : Req, (q.op = .decVer ∨ q.op = .reencVer ∨ q.op = .digVer) → q.d.flag fCtxOut = true →
    strayFlag q.ver q.op q.d = true

/-- R74, R75, R80 to R83, R85, R90, R93, R193: a symmetric command, a peer step's among them, whose request passes check 9 is accepted, and
takes its values; one with CONTEXT_IN passes the tests of its context first. A request for a device IV that saves no context takes the key's
next invocation value and goes on with its data, after an update of the vault where the value lies beyond what is reserved there: the value
is taken before that update is written (assumption log 25, DEDUCED). The value after 2^64 − 1 does not exist: the request is refused with
KEY_EXHAUSTED and one update makes its slot RETIRED, like one that would count more blocks than its limit; other blocks join the count. A
hash segment that saves a wrapped context takes its function's context key and counter. The stream of a saved message under a device IV is
marked. -/
def Obligations.AcceptanceTakesTheNextInvocation : Prop :=
  (∀ (r i : Nat) (q : Req) (e : CacheEnt) (s : State), q.slot = some i → keyEnt s q = some e →
    let q0 := { q with opened := none, ctxKey := [], ctxCtr := (getFn s q.fn).ctxCtr, taken := true }
    (q.d.flag fDeviceIv = true → q.d.flag fCtxOut = false →
      (2 ^ 64 ≤ e.inv → exhausted s q none = some true) ∧
      (blocksCounted q none = 0 →
        let s1 := cacheMod s i e.gen fun e => { e with inv := e.inv + 1 }
        let q1 := { q0 with iv := some e.inv }
        (e.inv < 2 ^ 64 → exhausted s q none = none) ∧
        (e.inv < (getSlot s i).invRes → takeValues s r q none = beginData (setReq s1 r (some q1)) r) ∧
        ((getSlot s i).invRes ≤ e.inv →
          takeValues s r q none =
            submitUpd (setReq s1 r (some { q1 with phase := .vault, resume := .values })) [.raiseInv i e.inv] (some r)))) ∧
    (q.d.flag fDeviceIv = false → q.d.flag fCtxOut = false → countsBlocks s q = true → 0 < blocksCounted q none →
      let n := e.blk + blocksCounted q none
      let rec_ := getSlot s i
      let s1 := cacheMod s i e.gen fun e => { e with blk := e.blk + blocksCounted q none }
      let q1 := { q0 with iv := none }
      (rec_.blkLim < n → exhausted s q none = some true) ∧
      (n ≤ rec_.blkLim → exhausted s q none = none) ∧
      (n ≤ rec_.blkRes → takeValues s r q none = beginData (setReq s1 r (some q1)) r) ∧
      (rec_.blkRes < n → takeValues s r q none =
        submitUpd (setReq s1 r (some { q1 with phase := .vault, resume := .values }))
          [.setBlk i (min rec_.blkLim (ceilDiv n (2 ^ 24) * 2 ^ 24)) rec_.blkGen] (some r))) ∧
    (q.d.flag fDeviceIv = true → q.d.flag fCtxOut = true → hasMark (modeOf q.d.opcode) = true → (q.op = .aeadEnc ∨ q.op = .gmacGen) →
      newMark s q none = some (some (e.inv, 1)))) ∧
  (∀ (r : Nat) (q : Req) (s : State), q.slot = none → savesWrapped s q none = true →
    let fr := getFn s q.fn
    let s1 := setFn s q.fn { fr with ctxCtr := fr.ctxCtr + 1 }
    let q1 := { q with opened := none, ctxKey := fr.ctxKey, ctxCtr := fr.ctxCtr, taken := true }
    (fr.ctxCtr < fr.ctxRes → takeValues s r q none = beginData (setReq s1 r (some q1)) r) ∧
    (fr.ctxRes ≤ fr.ctxCtr → takeValues s r q none =
      submitUpd (setReq s1 r (some { q1 with phase := .vault, resume := .values })) [.ctxRes q.fn fr.ctxCtr fr.ctxKey] (some r))) ∧
  (∀ (r i : Nat) (q : Req) (c : Instr) (o : Op) (sp dp : Bool) (s : State),
    (c, o, sp, dp) ∈ [(Instr.encrypt r, Op.encrypt, false, false), (.decrypt r, .decrypt, false, false),
      (.aeadEncrypt r, .aeadEnc, false, false), (.aeadDecrypt r, .aeadDec, false, false), (.gmacGenerate r, .gmacGen, false, false),
      (.gmacVerify r, .gmacVer, false, false), (.hash r, .hash, false, false), (.macGenerate r, .macGen, false, false),
      (.macVerify r, .macVer, false, false), (.decryptVerify r, .decVer, false, false), (.reencryptVerify r, .reencVer, false, false),
      (.digestVerify r, .digVer, false, false), (.srcPeer r, .aeadEnc, true, false), (.dstPeer r, .aeadDec, false, true)] →
    s.safe = false → Stands s r q o .ready → q.d.flag fSrcPeer = sp → q.d.flag fDstPeer = dp →
    (q.taken = true → exec c s = .next (leaves (beginData s r))) ∧
    (∀ e, q.taken = false → q.d.flag fCtxIn = true → ctxTest s q = .error e → exec c s = .next (leaves (failStep s r e 0))) ∧
    (∀ st, q.taken = false → (q.d.flag fCtxIn = false ∧ st = none ∨ ∃ b, q.d.flag fCtxIn = true ∧ ctxTest s q = .ok b ∧ st = some b) →
      (∀ e x, symLimits q st = some (e, x) → exec c s = .next (leaves (failStep s r e x))) ∧
      (∀ e, symLimits q st = none → q.d.flag fDeviceIv = true → rngStop s = some e → exec c s = .next (leaves (failStep s r e 0))) ∧
      (symLimits q st = none → (q.d.flag fDeviceIv = true → rngStop s = none) →
        (exhausted s q st = none → exec c s = .next (leaves (takeValues s r q st))) ∧
        (exhausted s q st = some true → q.slot = some i →
          exec c s = .next (leaves (submitUpd (failStep s r .keyExhausted 0) [.retire i] none))) ∧
        (exhausted s q st = some false → exec c s = .next (leaves (failStep s r .keyExhausted 0)))))) ∧
  ∀ (i : Nat) (s : State), ((getSlot s i).state = .active ∨ (getSlot s i).state = .replacing) →
    (getSlot (applyOp s (.retire i)) i).state = .retired

/-! ### Requests: public-key operations -/

/-- R120, R128 to R131: with its inputs read and valid an operation runs on its unit; a public input that is not valid fails with
DESC_FIELD at its field. -/
def Obligations.PkaOperationsRunOnValidInputs : Prop :=
  ∀ (r : Nat) (q : Req) (s : State),
    (∀ c o, (c, o) ∈ [(Instr.sign r, Op.sign), (.verify r, .verify), (.rsaEncrypt r, .rsaEnc), (.rsaDecrypt r, .rsaDec),
        (.keyAgree r, .keyAgree), (.kemEncapsulate r, .kemEnc), (.kemDecapsulate r, .kemDec), (.keyGenerate r, .keyGen),
        (.publicKey r, .pubKey)] → Stands s r q o .loaded →
      (pkaInputBad s q = none → exec c s = .next (leaves (setReq s r (some { q with phase := .running })))) ∧
      (∀ x, pkaInputBad s q = some x → exec c s = .next (leaves (failStep s r .descField x))))

/-- R120, R127 to R129, R131, R136, R410: what the end of an operation brings. One whose result fails its check ends with FAULT_DETECTED and
the uncorrectable source of its unit, counted, unless the safe state follows from that source; an all-zero secret of X25519 or X448 is
rejected at the peer's key. Otherwise the operation is counted and writes its output, tests its signature or padding, keeps its secret in a
new slot, or keeps the new key where the results of its pairwise test stand and the pair fits.
An RSA key generation that finds no key in 10 s fails with FAULT_DETECTED. -/
def Obligations.PkaOperationEndWritesTheResult : Prop :=
  (∀ (r : Nat) (q : Req) (s : State), q.phase = .running → getReq s r = some q →
    let x : State := { s with cnt := { s.cnt with pkaOps := u64 (s.cnt.pkaOps + 1) } }
    let alg := pkAlg q.d.mode
    let out := pkaResult s q
    let aad := q.srcB.take q.d.aadLen
    let data := q.srcB.drop q.d.aadLen
    let checked := resultChecked q.op alg = false ∨ Config.test (.resultCheck alg) [keyMat s q, q.opnd, aad, data, out] = true
    let keeps := fun (secret tail : Bytes) => (Host.Outcome.next
      (leaves (createSlot x r (secretPolicy secret.length (pkSecretOk q.d.mode)) (prmObj q.prm) secret 0 tail)) : Out State)
    (¬checked → q.op.isPka = true → exec (.pkaOperationEnd r) s = .next (leaves (resultFails s r q))) ∧
    (checked → (q.op = .sign ∨ q.op = .rsaEnc ∨ q.op = .pubKey) →
      exec (.pkaOperationEnd r) s = .next (leaves (writeOut x r out .ok out.length))) ∧
    (checked → q.op = .verify → exec (.pkaOperationEnd r) s = .next (leaves
      (if Config.test (.signature alg (pkHash q.d.mode)) [q.opnd, aad, data, q.refB, le 1 (ofBool (pkPrehashed q.d.mode))]
        then endStep x r .ok 0 else failStep x r .authFail 0))) ∧
    (checked → q.op = .rsaDec → exec (.pkaOperationEnd r) s = .next (leaves
      (if Config.test (.oaep (pkHash q.d.mode)) [keyMat s q, aad, data] then writeOut x r out .ok out.length
        else failStep x r .authFail 0))) ∧
    (checked → q.op = .keyAgree → zeroSecret alg out = true →
      exec (.pkaOperationEnd r) s = .next (leaves (failStep s r .descField 0x30))) ∧
    (checked → q.op = .keyAgree → zeroSecret alg out = false → exec (.pkaOperationEnd r) s = keeps out []) ∧
    (checked → q.op = .kemEnc →
      exec (.pkaOperationEnd r) s = keeps (primBytes (.kemSs alg) [q.opnd, q.drawn] (algSizes alg 0).2.2) out) ∧
    (checked → q.op = .kemDec → exec (.pkaOperationEnd r) s = keeps out []) ∧
    (checked → q.op = .keyGen →
      (pairStands (genPolicy q.d.mode) out = false → exec (.pkaOperationEnd r) s = .next (leaves (resultFails x r q))) ∧
      (pairStands (genPolicy q.d.mode) out = true → pairwiseOk (genPolicy q.d.mode) out = false →
        exec (.pkaOperationEnd r) s = .next (leaves (pairFails x r q))) ∧
      (pairStands (genPolicy q.d.mode) out = true → pairwiseOk (genPolicy q.d.mode) out = true →
        exec (.pkaOperationEnd r) s = .next (leaves
          (createSlot x r (genPolicy q.d.mode) (prmObj q.prm) out 0 (publicOf alg (pkModW q.d.mode) out)))))) ∧
  (∀ (r u : Nat) (q : Req) (s : State), pkaOf q = some u → safeComes s = false →
    let source := fun (y : State) => raiseSrc y (unitSource u 1)
    let resFail := source { s with cnt := { s.cnt with resFail := s.cnt.resFail + 1 } }
    let pctFail := source { s with cnt := { s.cnt with pctFail := s.cnt.pctFail + 1 } }
    (leadsSafe s (unitSource u 1) = false →
      resultFails s r q = failStep resFail r .faultDetected 0 ∧ pairFails s r q = failStep pctFail r .faultDetected 0) ∧
    (leadsSafe s (unitSource u 1) = true → resultFails s r q = resFail ∧ pairFails s r q = pctFail)) ∧
  (∀ (r : Nat) (q : Req) (s : State), Stands s r q .keyGen .running →
    (pkAlg q.d.mode = 1 → exec (.rsaKeygenTimeout r) s = .next (leaves (failStep s r .faultDetected 0))) ∧
    (pkAlg q.d.mode ≠ 1 → exec (.rsaKeygenTimeout r) s = .next (leaves s)))

/-! ### Requests: keys -/

/-- R167, R168, R171, R172: a generated key is the bytes drawn, with its key check value; a derived one the output of its derivation
function; a wrapped export the package of the key under the second key; a KEM export the ciphertext, the ephemeral key and the package under
the key that both secrets give, where the public inputs are valid and the results pass their checks. R80, R130, R149: a new key takes a free
slot in one update of the vault, with a fixed field drawn for device IVs, and a large-key record where it needs one; its handle is written
after that. -/
def Obligations.KeyMaterialIsMadeAndExported : Prop :=
  (∀ (r policy lim : Nat) (q : Req) (tag mat tail : Bytes) (s : State), getReq s r = some q →
    let put := fun (t y : State) (i fixed : Nat) => submitUpd
      (setReq y r (some { q with newSlot := some i, out := tail, result := 8 + tail.length, phase := .vault, resume := .create, outst := 0 }))
      [.put i { state := .active, owner := q.fn, policy := policy, tag := fit 16 tag, mat := mat, fixed := fixed
                large := if needsLarge mat.length then some (freeLarge t) else none
                blkLim := limitOf policy lim, epoch := (getSlot t i).epoch }] (some r)
    (polHas policy pDeviceIv = false → ∀ i t, pickSlot s = some (i, t) → createSlot s r policy tag mat lim tail = put t t i 0) ∧
    (polHas policy pDeviceIv = true →
      (∀ e, drbgStop s = some e → createSlot s r policy tag mat lim tail = failStep s r e 0) ∧
      (drbgStop s = none → drbgReady s = none →
        createSlot s r policy tag mat lim tail = askWire (modReq s r fun q => { q with phase := .wires, resume := .drbg }) .drbg) ∧
      (∀ y i t, drbgStop s = none → drbgReady s = some y → pickSlot y = some (i, t) →
        createSlot s r policy tag mat lim tail = put t (drbgCall t [] 4).2 i (ofBe (drbgCall t [] 4).1))) ∧
    (pickSlot s = none → polHas policy pDeviceIv = false → createSlot s r policy tag mat lim tail = failStep s r .quota 0)) ∧
  ∀ (r : Nat) (q : Req) (s : State), (kmBits s q = 0 ∨ q.drawn ≠ []) →
    let x := kmCount s q
    (Stands s r q .genSym .loaded →
      exec (.generateSym r) s = .next (leaves (createSlot s r q.d.ctx (prmObj q.prm) (q.drawn.take (polLen q.d.ctx)) (kmLimit q.d.mode)
        (kcvOf (q.drawn.take (polLen q.d.ctx)))))) ∧
    (Stands s r q .derive .loaded →
      exec (.derive r) s = .next (leaves (createSlot x r q.d.ctx (prmObj q.prm)
        ((if kmSub q.d.mode = 1 then kdfHmac384 else kdfCmac) (keyMat x q) (q.srcB.take q.d.aadLen)
          (q.srcB.drop q.d.aadLen ++ le 8 q.d.ctx) (polLen q.d.ctx)) (kmLimit q.d.mode) []))) ∧
    (Stands s r q .expWrap .loaded →
      let out := kwpWrap (secondMat x q) (packageOf (slotRec x q) (keyMat x q))
      exec (.exportWrapped r) s = .next (leaves (writeOut x r out .ok out.length))) ∧
    (Stands s r q .expKem .loaded → q.drawn ≠ [] →
      let b := q.srcB.drop q.d.aadLen
      let kem := kmSub q.d.mode
      let cl := kmPartner q.d.mode
      let ek := b.take (algSizes kem 0).1
      let pk := b.drop (algSizes kem 0).1
      let eph := generate cl 0 (q.drawn.drop 32)
      let ssc := agreed cl eph pk
      let ct := primBytes (.kemCt kem) [ek, q.drawn.take 32] (algSizes kem 0).2.1
      let epk := publicOf cl 0 eph
      let kek := kemWrapKek (primBytes (.kemSs kem) [ek, q.drawn.take 32] 32) ssc ct epk (q.srcB.take q.d.aadLen)
      let out := ct ++ epk ++ kwpWrap kek (packageOf (slotRec s q) (keyMat s q))
      ((publicOk kem 0 ek = false ∨ publicOk cl 0 pk = false ∨ zeroSecret cl ssc = true) →
        exec (.exportKem r) s = .next (leaves (failStep s r .descField 8))) ∧
      (publicOk kem 0 ek = true → publicOk cl 0 pk = true → zeroSecret cl ssc = false →
        (curveChecked cl = false ∨ Config.test (.resultCheck cl) [eph, [], [], [], epk] = true) →
        (curveChecked cl = false ∨ Config.test (.resultCheck cl) [eph, pk, [], [], ssc] = true) →
        exec (.exportKem r) s = .next (leaves (writeOut x r out .ok out.length))) ∧
      (publicOk kem 0 ek = true → publicOk cl 0 pk = true → zeroSecret cl ssc = false → curveChecked cl = true →
        (Config.test (.resultCheck cl) [eph, [], [], [], epk] = false ∨ Config.test (.resultCheck cl) [eph, pk, [], [], ssc] = false) →
        exec (.exportKem r) s = .next (leaves (resultFails s r q))))

/-- R165, R170, R172: a wrapped key that does not unwrap fails with AUTH_FAIL. A package that does becomes a slot of its policy, tag and
material, or fails with DESC_FIELD where its layout is not legal; raw material becomes a slot of the request's policy where its length and
its key check value fit. R118, R131, R136: a key pair passes its pairwise test on a PKA unit first; the request waits for one, or fails with
NOT_READY where none is ready (assumption log 172, DEDUCED). A package's large-key record is reserved last (log 131). A package for device
IVs needs an RNG that runs. A KEM import fails with DESC_FIELD where the ephemeral key is not valid, and with FAULT_DETECTED where its
agreement's result does not stand. -/
def Obligations.ImportsUnwrapOrFail : Prop :=
  ∀ (r : Nat) (q : Req) (s : State), (kmBits s q = 0 ∨ q.drawn ≠ []) →
    let x := kmCount s q
    let fails := fun (c : Instr) (st : Status) (n : Nat) => exec c s = .next (leaves (failStep x r st n))
    -- a key pair is tested: what a key goes through that has been unwrapped, and what a good one becomes
    let tested := fun (c : Instr) (pol : Nat) (mat : Bytes) (good : Prop) =>
      (polKind pol = 0 → good) ∧
      (polKind pol ≠ 0 → (pkaOf q).isSome = true → pairStands pol mat = true → pairwiseOk pol mat = true → good) ∧
      (polKind pol ≠ 0 → (pkaOf q).isSome = true → pairStands pol mat = true → pairwiseOk pol mat = false → fails c .descField 8) ∧
      (polKind pol ≠ 0 → (pkaOf q).isSome = true → pairStands pol mat = false → exec c s = .next (leaves (resultFails x r q))) ∧
      (polKind pol ≠ 0 → pkaOf q = none → readyBit x (some (groupOfReq x q)) 3 = false → fails c .notReady 0) ∧
      (polKind pol ≠ 0 → pkaOf q = none → readyBit x (some (groupOfReq x q)) 3 = true →
        exec c s = .next (leaves (setReq x r (some { q with phase := .waitGrant, resume := .unit2, grants := 1 }))))
    let package := fun (c : Instr) (b : Bytes) =>
      let pol := fld b 4 8
      let mat := b.drop 32
      let large := needsLarge mat.length
      (packageOk b = false → fails c .descField 8) ∧
      (packageOk b = true → tested c pol mat
        ((∀ e, polHas pol pDeviceIv = true → rngStop x = some e → fails c e 0) ∧
        ((polHas pol pDeviceIv = true → rngStop x = none) → large = true → quotaOk x q false true false = false → fails c .quota 0) ∧
        ((polHas pol pDeviceIv = true → rngStop x = none) → (large = true → quotaOk x q false true false = true) →
          exec c s = .next (leaves (createSlot (modReq x r fun q => { q with resLarge := large }) r pol (slice b 12 16) mat (fld b 28 1) [])))))
    (Stands s r q .impWrap .loaded → kwpOk (keyMat x q) q.srcB = false → fails (.importWrapped r) .authFail 0) ∧
    (Stands s r q .impWrap .loaded → kwpOk (keyMat x q) q.srcB = true →
      let b := kwpOpen (keyMat x q) q.srcB
      (kmSub q.d.mode = 0 → package (.importWrapped r) b) ∧
      (kmSub q.d.mode ≠ 0 → b.length ≠ impliedLen q.d.ctx → fails (.importWrapped r) .keyPolicy 0) ∧
      (kmSub q.d.mode ≠ 0 → b.length = impliedLen q.d.ctx → tested (.importWrapped r) q.d.ctx b
        ((kcvFits q.d.ctx (prmKcv q.prm) b = false → fails (.importWrapped r) .authFail 0) ∧
        (kcvFits q.d.ctx (prmKcv q.prm) b = true →
          exec (.importWrapped r) s = .next (leaves (createSlot x r q.d.ctx (prmObj q.prm) b (kmLimit q.d.mode) [])))))) ∧
    (∀ kcv mat, polKind q.d.ctx = 0 → kcvFits q.d.ctx kcv mat = (allZero kcv || decide (kcv = kcvOf mat))) ∧
    (Stands s r q .impKem .loaded →
      let b := q.srcB.drop q.d.aadLen
      let cl := kmPartner q.d.mode
      let n := (algSizes (kmSub q.d.mode) 0).2.1
      let epk := slice b n (algSizes cl 0).1
      let w := b.drop (n + (algSizes cl 0).1)
      let ssc := agreed cl (secondMat s q) epk
      let kek := kemWrapKek (primBytes (.kemDec (kmSub q.d.mode)) [keyMat x q, b.take n] 32) ssc (b.take n) epk (q.srcB.take q.d.aadLen)
      ((publicOk cl 0 epk = false ∨ zeroSecret cl ssc = true) → exec (.importKem r) s = .next (leaves (failStep s r .descField 8))) ∧
      (publicOk cl 0 epk = true → zeroSecret cl ssc = false → curveChecked cl = true →
        Config.test (.resultCheck cl) [secondMat s q, epk, [], [], ssc] = false →
        exec (.importKem r) s = .next (leaves (resultFails s r q))) ∧
      (publicOk cl 0 epk = true → zeroSecret cl ssc = false →
        (curveChecked cl = false ∨ Config.test (.resultCheck cl) [secondMat s q, epk, [], [], ssc] = true) →
        (kwpOk kek w = false → fails (.importKem r) .authFail 0) ∧
        (kwpOk kek w = true → package (.importKem r) (kwpOpen kek w))))

/-- R155, R174 to R176: a replacement writes a shadow of the new material in one update: bytes drawn, or a key that unwraps, whose length
and key check value fit; a key pair passes its pairwise test and its public key's check first (R131, R136), and its public key is written.
COMMIT swaps it in, carrying the block count only where the key is the same; CANCEL drops it; neither finds a key where none is pending, and
a slot under erasure refuses all three. A slot that has retired is not replaced. The operations of a slot are served one at a time: while
another change of it is under way the three wait. -/
def Obligations.ReplacementsAreCommittedOrCancelled : Prop :=
  ∀ (r i : Nat) (q : Req) (s : State), q.slot = some i →
    let p := (getSlot s i).policy
    let k := polKind p
    let code := slotCode s i
    let free := code ≠ 3 ∧ (getSlot s i).state ≠ .retired ∧ replacing s i = false
    let fails := fun (z : State) (st : Status) => exec (.replace r) s = .next (leaves (failStep z r st 0))
    let begins := fun (z : State) (mat kcv out : Bytes) => exec (.replace r) s = .next (leaves
      (submitUpd (setReq z r (some { q with out := out, result := out.length, phase := .vault, resume := .create, newSlot := none }))
        [.toReplacing i { idx := freeShadow z, mat := mat, kcv := kcv, slot := i, gen := (getSlot s i).gen + 1 }] (some r)))
    let starts := fun (z : State) (mat kcv out : Bytes) =>
      (free → begins z mat kcv out) ∧
      (code = 3 → fails z .keyRevoked) ∧
      (code ≠ 3 → (getSlot s i).state = .retired → fails z .keyExhausted) ∧
      (code ≠ 3 → (getSlot s i).state ≠ .retired → replacing s i = true → fails z .replacePending)
    -- a key pair's tests
    let pair := fun (z : State) (mat : Bytes) (misfit : Prop) =>
      let stands := curveChecked k = false ∨ Config.test (.resultCheck k) [mat, [], [], [], publicOf k (polLen p) mat] = true
      (pairStands p mat = false → exec (.replace r) s = .next (leaves (resultFails z r q))) ∧
      (pairStands p mat = true → pairwiseOk p mat = false → misfit) ∧
      (pairStands p mat = true → pairwiseOk p mat = true → ¬stands → exec (.replace r) s = .next (leaves (resultFails z r q))) ∧
      (pairStands p mat = true → pairwiseOk p mat = true → stands →
        starts { z with cnt := { z.cnt with pkaOps := u64 (z.cnt.pkaOps + 1) } } mat [] (publicOf k (polLen p) mat))
    (changing s i = true → code ≠ 3 →
      (Stands s r q .replace .loaded → (kmBits s q = 0 ∨ q.drawn ≠ []) → exec (.replace r) s = .next (leaves s)) ∧
      (Stands s r q .commit .ready → exec (.keyCommit r) s = .next (leaves s)) ∧
      (Stands s r q .cancel .ready → exec (.cancel r) s = .next (leaves s))) ∧
    (Stands s r q .replace .loaded → (kmBits s q = 0 ∨ q.drawn ≠ []) → (changing s i = false ∨ code = 3) →
      (kmSub q.d.mode ≠ 0 → k = 0 →
        let mat := q.drawn.take (polLen p)
        starts s mat (kcvOf mat) (kcvOf mat)) ∧
      (kmSub q.d.mode ≠ 0 → k ≠ 0 →
        let mat := generate k (polLen p) q.drawn
        pair s mat (exec (.replace r) s = .next (leaves (pairFails s r q)))) ∧
      (kmSub q.d.mode = 0 →
        let x := countUnits s q.fn true q.d.srcLen
        let mat := kwpOpen (secondMat s q) q.srcB
        (kwpOk (secondMat s q) q.srcB = false → fails x .authFail) ∧
        (kwpOk (secondMat s q) q.srcB = true →
          (mat.length ≠ impliedLen p → fails x .keyPolicy) ∧
          (mat.length = impliedLen p → k = 0 → kcvFits p (prmKcv q.prm) mat = false → fails x .authFail) ∧
          (mat.length = impliedLen p → k = 0 → kcvFits p (prmKcv q.prm) mat = true → starts x mat (kcvOf mat) (kcvOf mat)) ∧
          (mat.length = impliedLen p → k ≠ 0 → pair x mat (fails x .faultDetected))))) ∧
    (∀ h, (getSlot s i).shadow = some h → code ≠ 3 → changing s i = false →
      let same := if k = 0 then decide (h.kcv = kcvOf (getSlot s i).mat) else decide (h.mat = (getSlot s i).mat)
      (Stands s r q .commit .ready →
        exec (.keyCommit r) s = .next (leaves (submitUpd (setReq s r
          (some { q with out := [], result := 0, phase := .vault, resume := .create, newSlot := none })) [.flip i same] (some r)))) ∧
      (Stands s r q .cancel .ready →
        exec (.cancel r) s = .next (leaves (submitUpd (setReq s r
          (some { q with out := [], result := 0, phase := .vault, resume := .create, newSlot := none })) [.cancel i] (some r))))) ∧
    (code ≠ 3 → changing s i = false → replacing s i = false →
      (Stands s r q .commit .ready → exec (.keyCommit r) s = .next (leaves (failStep s r .keyNotFound 0))) ∧
      (Stands s r q .cancel .ready → exec (.cancel r) s = .next (leaves (failStep s r .keyNotFound 0)))) ∧
    (code = 3 →
      (Stands s r q .commit .ready → exec (.keyCommit r) s = .next (leaves (failStep s r .keyRevoked 0))) ∧
      (Stands s r q .cancel .ready → exec (.cancel r) s = .next (leaves (failStep s r .keyRevoked 0))))

/-- R177 to R179: ERASE gives up its own reference and marks its slot ERASING, in an update where none has done so; an urgent one
also ends the step of every holder with KEY_ERASED, and ERASE_DRAIN, 50 µs later, of those left with KEY_REVOKED; another erase among the
holders joins them instead, to complete OK. Once no reference is left every cached copy is zeroised, its home bank keeps the slot pinned as
ERASING, and one update makes the slot FREE; until then it waits. -/
def Obligations.ErasuresEndTheHoldersOfAKey : Prop :=
  (∀ (r i : Nat) (q : Req) (s : State),
    let ended := fun (st : Status) (z : State) (h : Nat) => match getReq z h with
      | some p => if p.op = .erase ∨ p.op = .eraseUrg then eraseStart z h p i else killStep z h st
      | none => z
    let s1 := setReq (releaseRef s i q.gen) r (some { q with phase := .erase, refHeld := false })
    let s2 := cacheSync { s1 with vault := { s1.vault with erasing := addNew s1.vault.erasing i } } i
    let x := if s.vault.erasing.contains i = true ∨ (getSlot s i).state = .erasing then s2 else submitUpd s2 [.erasing i] none
    eraseStart s r q i = x ∧
    (Stands s r q .erase .ready → q.slot = some i → exec (.erase r) s = .next (leaves (eraseAdvance x i))) ∧
    (Stands s r q .eraseUrg .ready → q.slot = some i →
      exec (.eraseUrgent r) s = .next (leaves (eraseAdvance ((holders x i).foldl (ended .keyErased) x) i))) ∧
    ((getSlot s i).state ≠ .free → slotCode s2 i = 3) ∧
    (s.vault.erasing.contains i = true →
      exec (.eraseDrain i) s = .next (leaves (eraseAdvance ((holders s i).foldl (ended .keyRevoked) s) i))) ∧
    (atWork s = true → s.vault.erasing.contains i = false → exec (.eraseDrain i) s = .next s)) ∧
  ∀ (i : Nat) (s : State),
    (canon s = true → ∀ h, h ∈ holders s i ↔ ∃ p, getReq s h = some p ∧ holds p i = true ∧ p.phase ≠ .ended) ∧
    (s.vault.erasing.contains i = true → freeing s i = false → refsOf s i = 0 →
      eraseAdvance s i = submitUpd (cacheZero s i) [.free i] none) ∧
    (∀ e ∈ (cacheZero s i).cache, e.slot = i → e.mat = [] ∧ e.mayLeave = false ∧ e.old = false ∧ e.bank ≠ stagingBank) ∧
    (∀ e, e.slot ≠ i → (e ∈ (cacheZero s i).cache ↔ e ∈ s.cache)) ∧
    (refsOf s i ≠ 0 → eraseAdvance s i = s)

/-- R173: KEY_INFO writes 64 bytes: handle, state, whether a replacement is pending, owner and policy first. R190, R195: RANDOM writes the
bytes of one generate call, waits for the reseed that is due before it, or ends with the status of an RNG that does not run or whose
pipeline has stopped (R105); PREDICTION_RESISTANCE asks for a reseed first. A reseed takes the additional input, and the call after it has
none. R365, R136: VE_ATTEST writes the statement of its function where that fits, or fails where a public key or the signature does not pass
its check. R353, R361: CERT_INSTALL writes the chain to its record, in a life-cycle state that takes it and within the record's budget, and
is denied otherwise; its signatures are counted as one operation (assumption log 185). -/
def Obligations.KeyInfoRandomAttestAndCertificates : Prop :=
  (∀ (r i : Nat) (q : Req) (s : State), Stands s r q .keyInfo .ready → q.slot = some i →
    (q.d.dstCap < 64 → exec (.keyInfo r) s = .next (leaves (failStep s r .destOverflow 0))) ∧
    (64 ≤ q.d.dstCap → exec (.keyInfo r) s = .next (leaves (writeOut s r (infoBytes s i) .ok 64))) ∧
    (infoBytes s i).length = 64 ∧
    (handleOf s i < 2 ^ 32 → (getSlot s i).owner < 2 ^ 16 → (getSlot s i).policy < 2 ^ 64 →
      fld (infoBytes s i) 0 4 = handleOf s i ∧ fld (infoBytes s i) 4 1 = slotCode s i ∧
      fld (infoBytes s i) 5 1 = ofBool (getSlot s i).shadow.isSome ∧
      fld (infoBytes s i) 6 2 = (getSlot s i).owner ∧ fld (infoBytes s i) 8 8 = (getSlot s i).policy)) ∧
  (∀ (r : Nat) (q : Req) (s : State),
    let given := if q.taken then [] else randomAddl q
    (Stands s r q .random .loaded → drbgStop s = none → (q.d.mode ≠ 1 ∨ q.taken = true) →
      (∀ t addl, drbgNext s given = some (t, addl) →
        let after : State := { t with rng := { t.rng with
          drbg := primBytes .drbgNext [t.rng.drbg, addl, le 4 q.d.dstCap] 48, calls := t.rng.calls + 1 } }
        exec (.random r) s = .next (leaves
          (writeOut after r (primBytes .drbgOut [t.rng.drbg, addl, le 4 q.d.dstCap] q.d.dstCap) .ok q.d.dstCap))) ∧
      (drbgNext s given = none → exec (.random r) s = .next (leaves
        (askWire (modReq s r fun q => { q with phase := .wires, resume := .drbg }) .drbg)))) ∧
    (∀ addl, s.rng.calls < 65536 → drbgNext s addl = some (s, addl)) ∧
    (∀ addl, 65536 ≤ s.rng.calls → s.rng.state = .running → 48 ≤ s.rng.reserve.length → (∀ w ∈ s.rng.wires, 4 < wireClass w) →
      drbgNext s addl = some ({ s with rng := { s.rng with
        reserve := s.rng.reserve.drop 48, calls := 0, reseeds := u64 (s.rng.reseeds + 1)
        drbg := primBytes .drbgSeed [s.rng.drbg, xorB (s.rng.reserve.take 48) (fit 48 addl)] 48 } }, [])) ∧
    (Stands s r q .random .loaded → drbgStop s = none → q.d.mode = 1 → q.taken = false → exec (.random r) s = .next (leaves
      (askWire (modReq s r fun q => { q with phase := .wires }) .drbg))) ∧
    (∀ e, Stands s r q .random .loaded → drbgStop s = some e → exec (.random r) s = .next (leaves (failStep s r e 0))) ∧
    (Stands s r q .veAttest .loaded →
      let out := coseSign s (if certChain s = [] then none else some (certChain s)) (vePayload s q.fn q.srcB (attested q)) false
        (q.drawn.take 64)
      let good := attestChecked s q (q.drawn.take 64)
      (good = true → out.length ≤ q.d.dstCap → exec (.veAttest r) s = .next (leaves (writeOut (countPka s) r out .ok out.length))) ∧
      (good = true → q.d.dstCap < out.length → exec (.veAttest r) s = .next (leaves (failStep s r .destOverflow 0))) ∧
      (good = false → exec (.veAttest r) s = .next (leaves (resultFails s r q)))) ∧
    (Stands s r q .certInstall .loaded → s.life.state ≤ 1 → overBudget s 3 = false → chainOk s q.srcB (idPublic s) = true →
      exec (.certInstall r) s = .next (leaves (nvSubmit (modReq (countPka s) r fun q => { q with phase := .vault })
        { recId := 3, write := some q.srcB, why := .chain r, step := .program 0 }))) ∧
    (Stands s r q .certInstall .loaded → s.life.state ≤ 1 → overBudget s 3 = false → chainOk s q.srcB (idPublic s) = false →
      exec (.certInstall r) s = .next (leaves (failStep (countPka s) r .descField 8))) ∧
    ((1 < s.life.state ∨ overBudget s 3 = true) →
      (Stands s r q .certInstall .loaded → exec (.certInstall r) s = .next (leaves (failStep s r .lifecycleDenied 0))) ∧
      (Stands s r q .certInstall .ready → exec (.certInstall r) s = .next (leaves (failStep s r .lifecycleDenied 0)))))

/-! ### The neighbour blocks -/

/-- R314, R392, R393: CAPS is taken once, while the handshake waits; a message with a field that its type does not use is a protocol
break, and so is a message of an undefined type.
R228, R231, R393: the bytes of a claimed job are gathered up to its capacity; a JOB_END that reports an error fails its step with
PEER_FAILED; that of an offer completes it with the job's length. -/
def Obligations.PeerMessagesRunTheirJobs : Prop :=
  (∀ (h : PeerHdr) (tok : Nat) (s : State), atWork s = true →
    (h.stray = false → s.bring.peerWait = true → ∃ t, exec (.caps h) s = .next t ∧ t.bring.peerWait = false ∧
      t.peer.present = true ∧ t.peer.caps = BitVec.ofNat 2 (h.origLen % 4) ∧ t.peer.maxJob = min h.len 1048576) ∧
    (h.stray = false → s.bring.peerWait = false → exec (.caps h) s = .next s) ∧
    (h.stray = true → exec (.caps h) s = .next (settle (collect (raiseSrc s 501)))) ∧
    (findToken s tok = none → exec (.undefinedPeerMessage tok) s = .next (settle (collect (raiseSrc s 501)))) ∧
    (∀ k, findToken s tok = some k → exec (.undefinedPeerMessage tok) s = .next (settle (collect (peerBreak s tok))))) ∧
  (∀ (h : PeerHdr) (b : Bytes) (k : Token) (q : Req) (s : State), atWork s = true → findToken s h.token = some k →
    getReq s k.req = some q → h.stray = false →
    (k.claim = true → 0 < h.len → h.len ≤ 65536 → b.length = h.len → k.got.length + h.len ≤ jobLen q →
      exec (.data h b) s = .next { s with peer := { s.peer with tokens := s.peer.tokens.map fun x =>
        if x.token = h.token then { x with got := x.got ++ b } else x } }) ∧
    (k.claim = true → jobLen q < k.got.length + h.len → exec (.data h b) s = .next (settle (collect (peerBreak s h.token)))) ∧
    (jobEndStray k h = false → h.status ≠ 0 → exec (.jobEnd h) s = .next (leaves (peerFail (closeToken s k) k.req))) ∧
    (jobEndStray k h = false → h.status = 0 → k.claim = false →
      exec (.jobEnd h) s = .next (leaves (endStep (closeToken s k) k.req .ok (jobLen q)))) ∧
    (jobEndStray k h = false → h.status = 0 → k.claim = true → h.len = k.got.length → h.raw = false →
      let q' := { q with d := { q.d with srcLen := 16 + h.len }, srcB := peerHeader h ++ k.got, sent := true, token := none }
      exec (.jobEnd h) s = .next (leaves (jobReceived (setReq (closeToken s k) k.req (some q')) k.req q'))))

/-- R228, R229, R231: a SRC_PEER step opens its claim while a token is free and waits otherwise, and ends as its encryption does once its
job is in; a DST_PEER step fails with AUTH_FAIL where its tag is wrong and with DESC_FIELD where its header is not well formed, and
offers its plaintext otherwise, under the header's fields, and gives its lane back (assumption log 111, DEDUCED). R393: a job that passes
PEER_TIMEOUT is abandoned under source 501, unless the safe state follows; a step that never had a token fails alike, without that source
(log 108, DEDUCED). -/
def Obligations.PeerStepsClaimOfferAndTimeOut : Prop :=
  ∀ (r : Nat) (q : Req) (s : State), atWork s = true →
    (Stands s r q .aeadEnc .waitPeer → q.d.flag fSrcPeer = true → mayOpen s q.d.src = true →
      exec (.srcPeer r) s = .next (settle (collect (openToken s r q.d.src true (msgOf s q 0x10 q.d.src))))) ∧
    (Stands s r q .aeadEnc .waitPeer → q.d.flag fSrcPeer = true → mayOpen s q.d.src = false → exec (.srcPeer r) s = .next s) ∧
    (Stands s r q .aeadEnc .loaded → q.d.flag fSrcPeer = true → q.d.flag fCtxOut = false →
      (q.echo = true → echoDiff s q (segOf s q) = none) →
      let x := segOf s q
      let out := outHead q x ++ (runSeg x).out ++ (runSeg x).tag
      exec (.srcPeer r) s = .next (leaves (writeOut (counted s q) r out .ok out.length))) ∧
    (Stands s r q .aeadDec .loaded → q.d.flag fDstPeer = true → (q.echo = true → echoDiff s q (segOf s q) = none) →
      let o := runSeg (segOf s q)
      let q' := { q with phase := .peer, out := o.out, unit := none, unit2 := none, regs := [], regs2 := [], regsB := [] }
      let s1 := setReq (counted s q) r (some q')
      (o.tag ≠ (prmTag q.prm).take o.tag.length → exec (.dstPeer r) s = .next (leaves (failStep (counted s q) r .authFail 0))) ∧
      (o.tag = (prmTag q.prm).take o.tag.length → headerOk q = false →
        exec (.dstPeer r) s = .next (leaves (failStep (counted s q) r .descField 8))) ∧
      (o.tag = (prmTag q.prm).take o.tag.length → headerOk q = true → mayOpen s1 q.d.dst = true →
        exec (.dstPeer r) s = .next (leaves (openToken (setReq s1 r (some { q' with sent := true, discard := true })) r q.d.dst false
          { msgOf s1 q' 0x20 q.d.dst with
            origLen := fld q.srcB 4 4, raw := decide (fld q.srcB 2 1 = 1), alg := fld q.srcB 3 1, data := o.out }))) ∧
      (o.tag = (prmTag q.prm).take o.tag.length → headerOk q = true → mayOpen s1 q.d.dst = false →
        exec (.dstPeer r) s = .next (leaves s1))) ∧
    (∀ tok, getReq s r = some q → q.phase = .peer → q.token = some tok →
      (reactionOf s 501 ≠ .safe → exec (.peerTimeout r) s = .next (leaves (failStep
        (let y := raiseSrc (abandonToken s tok) 501
         { y with peer := { y.peer with failures := y.peer.failures + 1 } }) r .peerFailed 0))) ∧
      (reactionOf s 501 = .safe → ∃ t, exec (.peerTimeout r) s = .next t ∧ Entered 501 s t)) ∧
    (getReq s r = some q → q.phase = .waitPeer → q.token = none →
      exec (.peerTimeout r) s = .next (leaves (failStep { s with peer := { s.peer with failures := s.peer.failures + 1 } } r .peerFailed 0)))

/-- R233, R234, R314, R395: the answers of the lookup port. The answer to the handshake makes the port present. No match fails the
request with KEY_NOT_FOUND; one resolves it; several wait for a retry, twice, and then fail it with KEY_AMBIGUOUS. A retry is counted
and sends the query again while a QID is free. A query that times out quarantines its QID and fails its request with KEY_NOT_FOUND under
source 500, unless the safe state follows; before a retry no query is out, and none times out. -/
def Obligations.LookupAnswersResolveOrFail : Prop :=
  ∀ (qid : BitVec 6) (slot : BitVec 24) (k : Query) (q : Req) (s : State), atWork s = true →
    (s.bring.lookupWait = true → ∃ t, exec (.lookupAnswer 0 3 slot) s = .next t ∧ t.bring.lookupWait = false ∧ t.lookup.present = true) ∧
    (s.bring.lookupWait = false → s.lookup.queries.find? (fun x => decide (x.qid = qid.toNat)) = some k →
      getReq s k.req = some q → q.phase = .lookup →
      let s1 : State := { s with lookup := { s.lookup with queries := s.lookup.queries.filter fun x => decide (x.qid ≠ k.qid) } }
      exec (.lookupAnswer qid 0 slot) s = .next (leaves (sendWaiting (failStep s1 k.req .keyNotFound 0))) ∧
      (slot ≠ 0 → exec (.lookupAnswer qid 1 slot) s =
        .next (leaves (sendWaiting (resolve (setReq s1 k.req (some { q with target := some slot.toNat })) k.req)))) ∧
      (q.tries < 4 → exec (.lookupAnswer qid 2 slot) s =
        .next (leaves (sendWaiting (setReq s1 k.req (some { q with tries := q.tries + 1 }))))) ∧
      (4 ≤ q.tries → exec (.lookupAnswer qid 2 slot) s =
        .next (leaves (sendWaiting (failStep { s1 with lookup := { s1.lookup with fails := s1.lookup.fails + 1 } } k.req .keyAmbiguous 0))))) ∧
    (∀ r, getReq s r = some q → q.phase = .lookup → q.tries % 2 = 1 →
      let q' := { q with tries := q.tries + 1 }
      let x := setReq { s with lookup := { s.lookup with retries := s.lookup.retries + 1 } } r (some q')
      (∀ id, freeQid x (reqRegion s q) = some id → exec (.lookupRetry r) s = .next (settle (collect
        { x with lookup := { x.lookup with queries := x.lookup.queries ++ [{ qid := id, req := r, tag := prmObj q.prm, fn := q.fn }] } }))) ∧
      (freeQid x (reqRegion s q) = none → exec (.lookupRetry r) s = .next (settle (collect x))) ∧
      exec (.lookupTimeout r) s = .next s) ∧
    (∀ r, getReq s r = some q → q.phase = .lookup → q.tries % 2 = 0 →
      (reactionOf s 500 ≠ .safe → exec (.lookupTimeout r) s = .next (leaves (failStep (raiseSrc { s with lookup := { s.lookup with
        queries := s.lookup.queries.filter fun x => decide (x.req ≠ r)
        quar := s.lookup.quar ++ (s.lookup.queries.filter fun x => decide (x.req = r)).map Query.qid
        timeouts := s.lookup.timeouts + 1 } } 500) r .keyNotFound 0))) ∧
      (reactionOf s 500 = .safe → ∃ t, exec (.lookupTimeout r) s = .next t ∧ Entered 500 s t) ∧
      exec (.lookupRetry r) s = .next s)

/-! ### Procession -/

/-- R204 to R206: a doorbell adds its starts to those pending up to 255, and is lost as a start where they would be more; STOP withdraws
the starts, and stops a channel that runs; an IDLE channel that may start takes one start, runs, and reads its HEAD, held in HOP_LIMIT and
VECTOR as they are then, unless HEAD lies in the vault's region: such a channel ends as one whose HEAD cannot be read (DESIGN CHOICE,
assumption log 127).
R219, R220: a firing counts and sets the time of the next one; a timer that is not armed does not fire. -/
def Obligations.ChannelsAndTimersStartAndStop : Prop :=
  (∀ (f c : Nat) (off : BitVec 13) (v : U32) (s : State), atWork s = true →
    (chanWord s f off.toNat false = some c → v ≠ (getChan s c).prev → (getChan s c).pending + (v - (getChan s c).prev).toNat ≤ 255 →
      exec (.channelDoorbell f off v) s = .next (setChan s c { getChan s c with
        pending := (getChan s c).pending + (v - (getChan s c).prev).toNat, prev := v })) ∧
    (chanWord s f off.toNat false = some c → 255 < (getChan s c).pending + (v - (getChan s c).prev).toNat →
      v ≠ (getChan s c).prev → exec (.channelDoorbell f off v) s = .next (setChan s c (startLost (getChan s c)))) ∧
    (chanWord s f off.toNat true = some c → v.getLsbD 0 = true →
      exec (.stop f off v) s = .next (settle (collect (stopChan s c false)))) ∧
    (chanWord s f off.toNat true = some c → v.getLsbD 0 = true → (getChan s c).run = none →
      exec (.stop f off v) s = .next (setChan s c { getChan s c with pending := 0 })) ∧
    (canon s = true → ∀ x, (getChan s c).run = some x → (getChan s c).state ≠ .frozen → x.stage = .ccb →
      stopChan s c false = setChan s c { getChan s c with pending := 0, state := .stopping, run := some { x with stop := true } }) ∧
    (chanWord s f off.toNat true = some c → v.getLsbD 0 = false → exec (.stop f off v) s = .next s) ∧
    (mayStart s c = true →
      let s1 := modChan s c fun r => { r with pending := r.pending - 1, state := .running
                                              run := some { hopLim := chanCfg s c 7, vector := chanCfg s c 0x0A, outst := 1, mover := chanMover s c } }
      let s2 := modUnit s1 (unitAt .mov (chanMover s1 c)) fun u => { u with gated := false }
      (hitsVault s2 c (chanCfg s2 c 3) 8 = false → exec (.channelRunStart c) s =
        .next (settle (collect (readPieces s2 (chanWho s2 c) [(0, chanCfg s2 c 3, 8)] (fun _ => .head c) false)))) ∧
      (hitsVault s2 c (chanCfg s2 c 3) 8 = true → exec (.channelRunStart c) s = .next (settle (collect (ccbFailed s2 c))))) ∧
    (mayStart s c = false → exec (.channelRunStart c) s = .next s)) ∧
  (∀ (n : Nat) (s : State), atWork s = true →
    let x := setTimer s n { getTimer s n with
      fired := (getTimer s n).fired + 1, last := some (getTimer s n).next, next := (getTimer s n).next + timerCfg s n 2
      armed := decide (timerCfg s n 1 = 2) }
    ((getTimer s n).armed = true → exec (.timerFiring n) s = .next (settle (collect (fireTimer s n)))) ∧
    ((getTimer s n).armed = true → (∀ c < 256, chanCfg s c 8 ≠ n) → exec (.timerFiring n) s = .next x) ∧
    ((getTimer s n).armed = false → exec (.timerFiring n) s = .next s))

/-- R209 to R212, R216: what each operation of a run does. COPY reads A, FILL writes its pattern to B, COMPARE reads both and ends the run
at the first byte that differs, GATHER reads the elements that its table names, SCATTER writes B's elements to where its table says; an
element that cannot be reached ends the run with MEM_DECODE and its index, before any data of its table moves (DESIGN CHOICE, assumption
log 24). What COPY and GATHER read is written to B as it arrives. -/
def Obligations.ProcessionOperationsMoveTheirData : Prop :=
  (∀ (c : Nat) (x : Run) (s : State), s.safe = false → (getChan s c).run = some x → x.outst = 0 → x.stop = false →
    let ends := fun (y : State) => (Host.Outcome.next (settle (collect y)) : Out State)
    (ctlOp x.ctl = 1 → x.stage = .checked → exec (.copy c) s = ends (runReads s c .data (onStream 1 (piecesOf x.a x.c)))) ∧
    (ctlOp x.ctl = 2 → x.stage = .checked →
      exec (.fill c) s = ends (runWrites s c (piecesOf x.b x.c) ((List.range x.c).map fun i => (le 8 x.a).getD (i % 8) 0))) ∧
    (ctlOp x.ctl = 3 → x.stage = .checked →
      exec (.compare c) s = ends (runReads s c .data (onStream 1 (piecesOf x.a x.c) ++ onStream 2 (piecesOf x.b x.c)))) ∧
    (ctlOp x.ctl = 3 → x.stage = .data → firstDiff 0 (runStream x 1) (runStream x 2) = none →
      exec (.compare c) s = ends (retireDesc s c 0)) ∧
    (∀ i, ctlOp x.ctl = 3 → x.stage = .data → firstDiff 0 (runStream x 1) (runStream x 2) = some i →
      exec (.compare c) s = ends (endRun s c .verifyMismatch i)) ∧
    (ctlOp x.ctl = 4 → x.stage = .checked →
      exec (.gather c) s = ends (runReads s c .index (onStream 0 (piecesOf x.a (ctlCount x.ctl * idxWidth x.ctl))))) ∧
    (ctlOp x.ctl = 4 → x.stage = .index → badElem s c x (elemAddrs x (runStream x 0)) = none →
      exec (.gather c) s = ends (runReads s c .data (onStream 1 (elemPieces x (elemAddrs x (runStream x 0)))))) ∧
    (∀ i, ctlOp x.ctl = 4 → x.stage = .index → badElem s c x (elemAddrs x (runStream x 0)) = some i →
      exec (.gather c) s = ends (endRun s c .memDecode i)) ∧
    (ctlOp x.ctl = 5 → x.stage = .index → badElem s c x (elemAddrs x (runStream x 0)) = none →
      exec (.scatter c) s = ends (runWrites s c (elemPieces x (elemAddrs x (runStream x 0))) (runStream x 2))) ∧
    (∀ i, ctlOp x.ctl = 5 → x.stage = .index → badElem s c x (elemAddrs x (runStream x 0)) = some i →
      exec (.scatter c) s = ends (endRun s c .memDecode i))) ∧
  ∀ (c off : Nat) (x : Run) (b : Bytes) (s : State), (getChan s c).run = some x → x.stage = .data → (ctlOp x.ctl = 1 ∨ ctlOp x.ctl = 4) →
    x.err = none → x.stop = false →
    let ps := piecesOf (x.b + off) b.length
    let s1 := modRun s c fun y => { y with outst := y.outst + ps.length }
    passOn s c off b = writePieces s1 (chanWho s1 c) ps b (fun o => .cwrite c (off + o)) false

/-! ### The RNG domain -/

/-- R187, R188, R191, R194: Advent's step 2 leads to the start-up tests; a source that fails one is tested once more and then fenced;
the known-answer tests let the sources that passed feed the conditioner, or halt the RNG. Once the reserve is full, with 16,384 bits, the
CTR_DRBG is instantiated with 384 bits of it and UNIT_ID, and the RNG runs. A readmitted source that passes feeds again. A health test that
fails is recorded, sets its source and halts an RNG that runs. -/
def Obligations.AdventRunsItsSteps : Prop :=
  ∀ (n : Nat) (s : State), atWork s = true →
    -- step 2
    (s.rng.state = .advent → s.rng.step = .settle → s.rng.passed = [] → s.rng.skipped = [] → n < 8 → active s (unitAt .ns n) = true →
      exec (.oscillatorSettle 0) s = .next { s with rng := { s.rng with step := .startUp } }) ∧
    (∀ failed, (s.rng.state ≠ .advent ∨ s.rng.step ≠ .settle) → exec (.oscillatorSettle failed) s = .next s) ∧
    -- step 3
    (s.rng.state = .advent → s.rng.step = .startUp → n ∈ advSources s →
      ((∃ k ∈ advSources s, k ≠ n ∧ k ∉ s.rng.passed) →
        exec (.startUpTest n true) s = .next { s with rng := { s.rng with passed := addNew s.rng.passed n } }) ∧
      ((∀ k ∈ advSources s, k = n ∨ k ∈ s.rng.passed) →
        exec (.startUpTest n true) s = .next { s with rng := { s.rng with passed := addNew s.rng.passed n, step := .kat } }) ∧
      (n ∉ s.rng.rerun →
        exec (.startUpTest n false) s = .next { s with rng := { s.rng with rerun := addNew s.rng.rerun n } }) ∧
      (n ∈ s.rng.rerun →
        exec (.startUpTest n false) s = .next (settle (collect (startUpOver (fenceUnit (raiseSrc
          { s with rng := { s.rng with startup := s.rng.startup ||| BitVec.ofNat 32 (2 ^ n) } } (nsSource n 0)) (unitAt .ns n))))))) ∧
    -- step 4
    (s.rng.state = .advent → s.rng.step = .kat → ∃ feeding : BitVec 8,
      exec (.selfTestEnd .rng true) s = .next { s with rng := { s.rng with step := .fill, feeding := feeding } } ∧
      ∀ k < 8, feeding.getLsbD k = ((advSources s).contains k && s.rng.passed.contains k)) ∧
    (s.rng.state = .advent → s.rng.step = .kat →
      exec (.selfTestEnd .rng false) s = .next (settle (collect (haltRng
        { s with rng := { s.rng with startup := s.rng.startup ||| BitVec.ofNat 32 (2 ^ 31) } })))) ∧
    -- steps 6 and 7
    (s.bring.unitIdDone = true → s.rng.state = .advent → s.rng.step = .fill → s.rng.feeding ≠ 0 → 2048 ≤ s.rng.reserve.length →
      exec .adventComplete s = .next (settle (collect (bringWatch (adventRun s)))) ∧
      (adventRun s).rng.state = .running ∧ (adventRun s).rng.calls = 0 ∧ (adventRun s).rng.reserve = s.rng.reserve.drop 48 ∧
      (adventRun s).rng.drbg = primBytes .drbgSeed [zeros 48, xorB (s.rng.reserve.take 48) (fit 48 s.bring.unitId)] 48) ∧
    (s.rng.reserve.length < 2048 → exec .adventComplete s = .next s) ∧
    (s.rng.state = .running → exec .adventComplete s = .next s) ∧
    -- a source readmitted
    (s.rng.state ≠ .advent → active s (unitAt .ns n) = true → s.rng.feeding.getLsbD n = false →
      exec (.startUpTest n true) s = .next { s with rng := { s.rng with feeding := s.rng.feeding ||| BitVec.ofNat 8 (2 ^ n) } }) ∧
    -- health tests
    (s.rng.state = .running → active s (unitAt .ns n) = true →
      exec (.healthTestFailure n false) s = .next (settle (collect (haltRng (raiseSrc
        { s with rng := { s.rng with rct := s.rng.rct ||| BitVec.ofNat 32 (2 ^ n) } } (nsSource n 0))))) ∧
      exec (.healthTestFailure n true) s = .next (settle (collect (haltRng (raiseSrc
        { s with rng := { s.rng with apt := s.rng.apt ||| BitVec.ofNat 32 (2 ^ n) } } (nsSource n 0)))))) ∧
    (s.rng.state = .halted →
      exec (.healthTestFailure n false) s = .next { s with rng := { s.rng with rct := s.rng.rct ||| BitVec.ofNat 32 (2 ^ n) } } ∧
      exec (.healthTestFailure n true) s = .next { s with rng := { s.rng with apt := s.rng.apt ||| BitVec.ofNat 32 (2 ^ n) } })

/-- R104, R105, R185, R186, R189, R190: the oldest held block enters the reserve, which keeps 16,384 bits, and another is absorbed; no block
is released while no source feeds. The private wires serve the oldest request of the lowest class, whole or not at all, from the head of the
reserve; a new incarnation's value waits for the end of a life-cycle transition (R183). A generator asks for its seed and runs on in its
grace, one that does not run included, which then has no grace; a lane's stops at the end of it, with its source and its work; the walker's
ends the requests that it fetches for. A reseed of the CTR_DRBG is asked for while the RNG runs. -/
def Obligations.ReserveServesThePrivateWires : Prop :=
  ∀ (s : State), atWork s = true →
    (∀ b t, s.rng.state = .running → s.rng.feeding ≠ 0 → s.rng.held = b :: t →
      let bits := freeBytes s 128
      let cond := primBytes .condStep [s.rng.cond, bits] 128
      exec .conditionerBlockRelease s = .next { useFree s 128 with rng := { s.rng with
        cond := cond, held := t ++ [primBytes .condOut [cond] 32], reserve := (s.rng.reserve ++ b).take 2048 } }) ∧
    (s.rng.feeding = 0 → exec .conditionerBlockRelease s = .next s) ∧
    (∀ w, s.rng.state = .running → wireHead s = some w →
      let n := ceilDiv (wireBits s w) 8
      w ∈ s.rng.wires ∧ (∀ x ∈ s.rng.wires, (s.life.busy = false ∨ x ≠ .inc) → wireClass w ≤ wireClass x) ∧
      (s.rng.reserve.length < n → exec .privateWireDelivery s = .next s) ∧
      (n ≤ s.rng.reserve.length →
        exec .privateWireDelivery s = .next (settle (collect (bringWatch (delivered { s with rng := { s.rng with
          reserve := s.rng.reserve.drop n, wires := s.rng.wires.filter fun x => decide (x ≠ w) } } w (s.rng.reserve.take n))))))) ∧
    (s.rng.state ≠ .running → exec .privateWireDelivery s = .next s) ∧
    (∀ g < 34, (getGen s g).seeded = true →
      ((getGen s g).stopped = false → (getGen s g).watch = false →
        exec (.reseedDue g) s = .next (askWire (setGen s g { getGen s g with grace := true }) (.gen g))) ∧
      (((getGen s g).stopped = true ∨ (getGen s g).watch = true) →
        exec (.reseedDue g) s = .next (askWire (setGen s g (getGen s g)) (.gen g)))) ∧
    (∀ g, (getGen s g).seeded = false → exec (.reseedDue g) s = .next s) ∧
    (∀ g < 32, (getGen s g).grace = true →
      let x := setGen s g { getGen s g with grace := false, stopped := true }
      let src := unitSource (unitAt .lane g) 3
      let y := raiseSrc x src
      (reactionOf s src ≠ .safe →
        exec (.reseedGrace g) s = .next (leaves ((reqsWith y (usesUnit (unitAt .lane g))).foldl (fun z r => killStep z r .rngHalted) y))) ∧
      (reactionOf s src = .safe → ∃ t, exec (.reseedGrace g) s = .next t ∧ Entered src s t)) ∧
    ((getGen s 32).grace = true → exec (.reseedGrace 32) s = .next (leaves ((s.vault.fetches.map VFetch.req).foldl
      (fun z r => failStep z r .rngHalted 0) (setGen s 32 { getGen s 32 with grace := false, stopped := true })))) ∧
    (∀ g, (getGen s g).grace = false → exec (.reseedGrace g) s = .next s) ∧
    (s.rng.state = .running → exec .drbgReseed s = .next (askWire s .drbg)) ∧
    (s.rng.state ≠ .running → exec .drbgReseed s = .next s)

/-! ### Tamper alarms -/

/-- R107 to R111, R311: a trip that counts, of a sensor, of a supply outside its limits or its window, of an honoured input or of a
register's parity, ends or sends back the requests that hold keys, zeroises their key registers, empties the key cache and the large-key
frames and what the walker has at hand of function records, blocks key loads and lanes, records its class and counts; its source is set,
with that of the lane or bank that holds the register. Where the safe state follows from one of them, that ends the requests (R410). No new
key entry is installed while they are blocked.
An input that is not honoured does not count. The hold begins when every alarm is inactive, and its end lets key loads go on: the requests
that wait at their keys are tried again. -/
def Obligations.AlarmsEraseAndBlock : Prop :=
  ∀ (a : AlarmClass) (s : State), awake s = true →
    -- a trip that sets its class's source, and more that the same event sets
    let srcs := fun (more : List Nat) => classSource a :: more
    let safe := fun (more : List Nat) => (srcs more).any (leadsSafe s)
    let x := fun (more : List Nat) => tripErase s a (safe more)
    let done := fun (more : List Nat) =>
      let set := (srcs more).foldl raiseSrc (x more)
      if safe more then set else pumpAll (beginUpd set)
    exec (.alarmTrip a .sensor) s = .next (settle (collect (done []))) ∧
    (∀ more : List Nat, (x more).cache = [] ∧ (x more).vault.frames = [] ∧ (x more).alarms.blocked = true ∧ (x more).alarms.holding = false ∧
      a ∈ (x more).alarms.asserted ∧ a ∈ (x more).alarms.active ∧ (x more).alarms.eraseCount = s.alarms.eraseCount + 1 ∧
      (∀ e ∈ (x more).reqs, ∀ q, e.2 = some q → (∀ u, q.unit = some u → kindOf u ≠ .hash) → q.regs = [] ∧ q.regs2 = [] ∧ q.regsB = []) ∧
      (∀ e ∈ (x more).fns, e.2.atHand = false) ∧ (∀ i, installNow (x more) i = x more)) ∧
    (inputOn s a = true → exec (.alarmTrip a .input) s = .next (settle (collect (done [])))) ∧
    (inputOn s a = false → exec (.alarmTrip a .input) s = .next s) ∧
    (∀ aon mv, a = .supply → supplyOut s aon mv = true → exec (.alarmTrip a (.supply aon mv)) s = .next (settle (collect (done [])))) ∧
    (∀ aon mv, (a ≠ .supply ∨ supplyOut s aon mv = false) → exec (.alarmTrip a (.supply aon mv)) s = .next s) ∧
    (∀ b, a = .parity → (kindOf b = .lane ∨ kindOf b = .kc) →
      exec (.alarmTrip a (.register b)) s = .next (settle (collect (done [unitSource b 1])))) ∧
    (s.alarms.blocked = true →
      exec .alarmInactive s = .next { s with alarms := { s.alarms with asserted := [], holding := true } }) ∧
    (s.alarms.blocked = true → s.alarms.holding = true → s.alarms.asserted = [] →
      exec .alarmHoldEnd s = .next (settle (collect (bringWatch (pumpAll (alarmOver (beginUpd (retryResolve
        { s with alarms := { s.alarms with blocked := false, holding := false } })))))))) ∧
    ((s.alarms.blocked = false ∨ s.alarms.holding = false ∨ s.alarms.asserted ≠ []) → exec .alarmHoldEnd s = .next s)

/-! ### Functions in service -/

/-- R251 to R253, R257, R258, R381: a reset of a running function makes it RESETTING, that of a frozen one voids its image, and that of one
that freezes or is restored is held; none begins in a transition of the life cycle. The bounds of a reset, a destruction and a freeze
abandon the work that is left and let the change end; the enable of a function moves it between RUNNING and QUIESCED.
R257: once nothing of a freeze is left, the function's enabled rings and channels become FROZEN, and it with them.
R40, R222, R275, R324: at the bound of a drain of a ring, a channel, a unit or a change of ECHO what is left is aborted, and the change
applies; the disable of a ring that a failed completion write has sent to ERROR goes on (DESIGN CHOICE, log 122). -/
def Obligations.FunctionsAndDrains : Prop :=
  (∀ (f : Nat) (s : State), atWork s = true → f ≤ 1024 →
    (s.life.draining = false →
      (((getFn s f).state = .running ∨ (getFn s f).state = .quiesced) →
        exec (.functionLevelReset f) s = .next (leaves (resetBegin s f))) ∧
      (canon s = true → ((getFn s f).state = .running ∨ (getFn s f).state = .quiesced) → ringsOf s f = [] → chansOf s f = [] →
        (getFn (resetBegin s f) f).state = .resetting ∧ (getFn (resetBegin s f) f).before = (getFn s f).state ∧
        (getFn (resetBegin s f) f).held = 0 ∧ (∀ g, g ≠ f → getFn (resetBegin s f) g = getFn s g)) ∧
      (((getFn s f).state = .freezing ∨ (getFn s f).state = .restored) →
        exec (.functionLevelReset f) s = .next (leaves (setFn s f { getFn s f with resetHeld := true }))) ∧
      ((getFn s f).state = .frozen → exec (.functionLevelReset f) s = .next (leaves (resetFrozen s f))) ∧
      (canon s = true → (getFn s f).state = .frozen → chansOf s f = [] → ringsOf s f = [] → (getFn s f).act = none →
        (getFn (resetFrozen s f) f).state = .frozen ∧ (getFn (resetFrozen s f) f).image = none ∧
        (getFn (resetFrozen s f) f).mig = .none ∧ (getFn (resetFrozen s f) f).restart = true)) ∧
    (s.life.draining = true → exec (.functionLevelReset f) s = .next s) ∧
    ((getFn s f).state = .resetting → exec (.veResetAbandon f) s = .next (leaves (resetOver (drainBoundFn s f) f))) ∧
    ((getFn s f).state = .destroying → exec (.veResetAbandon f) s = .next (leaves (destroyAdvance (drainBoundFn s f) f))) ∧
    ((getFn s f).state = .running → exec (.veResetAbandon f) s = .next s) ∧
    (∀ v : U32, canon s = true → (getFn s f).state = .running → v.getLsbD 0 = false →
      ∃ t, exec (.enableIndication f v) s = .next t ∧ (getFn t f).state = .quiesced ∧ (getFn t f).hostEnable = false ∧
        (∀ g, g ≠ f → getFn t g = getFn s g) ∧ { t with fns := s.fns } = s) ∧
    (∀ v : U32, (getFn s f).state = .quiesced → v.getLsbD 0 = true →
      exec (.enableIndication f v) s = .next (settle (collect (applyEnable (setFn s f { getFn s f with hostEnable := true }) f)))) ∧
    ((getFn s f).state = .freezing →
      exec (.freezeBound f true) s = .next (settle (collect ((liveRuns s f).foldl (fun s c => stopChan s c false) s))) ∧
      exec (.freezeBound f false) s = .next (leaves (freezeOver (drainBoundFn s f) f))) ∧
    (∀ b, (getFn s f).state ≠ .freezing → exec (.freezeBound f b) s = .next s)) ∧
  (∀ (f : Nat) (s : State),
    (replacingSlots s f = [] → fnBusy s f = false → freezeUpds s f = false → erasingOf s f = false →
      freezeOver s f = veCommand (freezeEnd s f) f) ∧
    (canon s = true → (getFn s f).resetHeld = false →
      let t := freezeEnd s f
      (getFn t f).state = .frozen ∧
      (∀ n ∈ ringsOf s f, ((getRing s n).state = .disabled → (getRing t n).state = .disabled) ∧
        ((getRing s n).state ≠ .disabled → (getRing t n).state = .frozen ∧ (getRing t n).thaw = (getRing s n).state)) ∧
      (∀ c ∈ chansOf s f, getChan t c = (if (getChan s c).state = .disabled ∨ (getChan s c).state = .frozen then getChan s c
        else { getChan s c with thaw := (getChan s c).state, state := .frozen })))) ∧
  (∀ (n : Nat) (s : State), atWork s = true →
    (((getRing s n).state = .draining ∨ ((getRing s n).state = .error ∧ ringCfg s n 9 = 0)) →
      exec (.ringDrainBound n) s = .next (leaves (ringSettle (killRing s n .abortedReset) n))) ∧
    ((getRing s n).state ≠ .draining → ((getRing s n).state ≠ .error ∨ ringCfg s n 9 ≠ 0) → exec (.ringDrainBound n) s = .next s) ∧
    ((getChan s n).state = .stopping → exec (.channelDisableBound n) s = .next (leaves (retireTimedOut s (ownChan n)))) ∧
    (∀ x, (getChan s n).state = .frozen → (getChan s n).run = some x →
      exec (.channelDisableBound n) s = .next (leaves (if x.stop then retireTimedOut s (ownChan n) else s))) ∧
    ((getUnit s n).draining = true →
      exec (.drainBound (.unit n)) s = .next (settle (collect (bringWatch (pumpAll (unitOut (abortOn s n) n)))))) ∧
    ((getUnit s n).draining = false → exec (.drainBound (.unit n)) s = .next s) ∧
    ((getRing s n).echoWait = true →
      exec (.drainBound (.ringEcho n)) s = .next (leaves (modRing
        ((chainsOf s n).foldl (fun z c => killChain z c .abortedReset) s) n fun r => { r with echoWait := false }))) ∧
    ((getRing s n).echoWait = false → exec (.drainBound (.ringEcho n)) s = .next s))

/-! ### The Almanac -/

/-- R283, R284: every row of the Almanac answers a request that a check refuses with the code of the first such check, and nothing but
the answer changes; a request that is not of the row's kind, or that its path does not serve, has no effect. -/
def Obligations.AlmanacAnswersTheFirstRefusal : Prop :=
  ∀ (c : Instr) (p : Bool) (m : AapMsg) (s : State), atWork s = true → (c, p) ∈ aapRows s m →
    (p = false → exec c s = .next s) ∧
    (servable s m = false → exec c s = .next s) ∧
    (p = true → servable s m = true → m.op ≠ 0 →
      (headBad m = true → exec c s = .next (answer s m .version [])) ∧
      (headBad m = false → noEntry s m = true → exec c s = .next (answer s m .noEntry [])) ∧
      (headBad m = false → noEntry s m = false → noAccess s m = true → exec c s = .next (answer s m .access [])) ∧
      (headBad m = false → noEntry s m = false → noAccess s m = false → lcRefused s m = true →
        exec c s = .next (answer s m .lifecycle [])) ∧
      (headBad m = false → noEntry s m = false → noAccess s m = false → lcRefused s m = false → ∀ e, lengthBad m = some e →
        exec c s = .next (answer s m e [])) ∧
      (headBad m = false → noEntry s m = false → noAccess s m = false → lcRefused s m = false → lengthBad m = none → rangeBad m = true →
        exec c s = .next (answer s m .range [])) ∧
      (refusedEarly s m = none → classBusy s m = true → exec c s = .next (answer s m .busy [])))

/-- R193, R274, R282, R285 to R287, R298, R299: what the requests that read answer. A READ answers the entry's value, or the part of it that
it asks for; a long octet string is read from the snapshot that its first segment took. The interval counters are returned and set to
zero; the challenges and AL 8000.0D draw 32 bytes from the CTR_DRBG, and answer BUSY, or the status of an RNG that does not run; where the
RNG runs and its pipeline has stopped they answer alike, which is the model's choice (assumption log 62);
READ_PENDING answers the holder's pending value, or the committed one; DESCRIBE 24 bytes; NEXT the next entry; VERSIONS the two versions
of the protocol. -/
def Obligations.AlmanacReadsAnswerTheirValue : Prop :=
  (∀ (m : AapMsg) (s : State), atWork s = true → servable s m = true → m.op = 0 →
    exec (.versions m) s = .next (answerAt s m (if m.ver = 1 ∨ m.ver = 2 then m.ver else 2) .ok m.index m.sub [3])) ∧
  (∀ (m : AapMsg) (i k : Nat) (s : State), Served s m → m.op = 7 → nextEntry s m.prin m.index m.sub = some (i, k) →
    exec (.next m) s = .next (answerAt s m m.ver .ok i k [])) ∧
  ∀ (m : AapMsg) (e : Entry) (s : State), Served s m → entryAt m.index m.sub = some e →
    let now := entryValue s m.index m.sub
    -- READ
    (m.op = 1 → isInterval m.index m.sub = false → isChallenge m.index m.sub = false → ¬(m.index = 0x8000 ∧ m.sub = 0x0D) →
      ¬(e.acc = .ro ∧ e.ty.isOct = true ∧ 1024 < e.ty.len) → exec (.read m) s = .next (answer s m .ok (segment m e now))) ∧
    (m.op = 1 → isInterval m.index m.sub = false → isChallenge m.index m.sub = false → ¬(m.index = 0x8000 ∧ m.sub = 0x0D) →
      (e.acc = .ro ∧ e.ty.isOct = true ∧ 1024 < e.ty.len) →
      let mine := fun (x : Snapshot) => decide (x.prin = m.prin ∧ x.key = 256 * m.index + m.sub)
      (m.off = 0 → exec (.read m) s = .next (answer { s with mgmt := { s.mgmt with
        snaps := (s.mgmt.snaps.filter fun x => !mine x) ++ [{ prin := m.prin, key := 256 * m.index + m.sub, val := now }] } } m .ok
        (segment m e now))) ∧
      (∀ x, m.off ≠ 0 → s.mgmt.snaps.find? mine = some x → exec (.read m) s = .next (answer s m .ok (segment m e x.val))) ∧
      (m.off ≠ 0 → s.mgmt.snaps.find? mine = none → exec (.read m) s = .next (answer s m .busy []))) ∧
    -- the interval counters
    (m.op = 1 → inTable m 0xC100 0xC500 = true → m.sub = 6 →
      let t := answer (modStat s (m.index - 0xC100) fun r => { r with intReq := 0 }) m .ok now
      exec (.fnIntervalReq m) s = .next t ∧ exec (.read m) s = .next t) ∧
    (m.op = 1 → inTable m 0xC100 0xC500 = true → m.sub = 7 →
      let t := answer (modStat s (m.index - 0xC100) fun r => { r with intUnits := 0 }) m .ok now
      exec (.fnIntervalUnits m) s = .next t ∧ exec (.read m) s = .next t) ∧
    -- the challenges
    ((s.rng.state ≠ .running ∨ drbgUp s = false) →
      (isRead m 0x9000 3 = true → exec (.lcChallenge m) s = .next (answer s m .busy [])) ∧
      (isRead m 0x9001 3 = true → exec (.debugChallenge m) s = .next (answer s m .busy []))) ∧
    (∀ t, s.rng.state = .running → drbgUp s = true → drbgReady s = some t →
      let d := drbgCall t [] 32
      (isRead m 0x9000 3 = true → exec (.lcChallenge m) s = .next
        (answer { d.2 with life := { d.2.life with challenge := some d.1 } } m .ok (segment m e d.1))) ∧
      (isRead m 0x9001 3 = true → exec (.debugChallenge m) s = .next
        (answer { d.2 with life := { d.2.life with dbgChal := some d.1 } } m .ok (segment m e d.1)))) ∧
    -- AL 8000.0D
    (isRead m 0x8000 0x0D = true →
      (∀ t, rngStop s = none → drbgUp s = true → drbgReady s = some t →
        let d := drbgCall t [] 32
        exec (.randomEntryRead m) s = .next (answer d.2 m .ok (segment m e (le 2 0 ++ d.1)))) ∧
      (∀ st, drbgStop s = some st →
        exec (.randomEntryRead m) s = .next (answer s m .ok (segment m e (le 2 st.code ++ zeros 32))))) ∧
    (s.rng.calls < 65536 → drbgReady s = some s) ∧
    -- READ_PENDING and DESCRIBE
    (∀ g p v, m.op = 5 → groupOfEntry m.index m.sub = some g → findPend s g = some p → p.holder = m.prin → pendVal p m.index m.sub = some v →
      exec (.readPending m) s = .next (answer s m .ok (segment m e v))) ∧
    (∀ g, m.op = 5 → groupOfEntry m.index m.sub = some g → findPend s g = none →
      exec (.readPending m) s = .next (answer s m .ok (segment m e now))) ∧
    (∀ g p, m.op = 5 → groupOfEntry m.index m.sub = some g → findPend s g = some p → p.holder ≠ m.prin →
      exec (.readPending m) s = .next (answer s m .ok (segment m e now))) ∧
    (m.op = 6 → (describeBytes s m e).length = 24 ∧ exec (.describe m) s = .next (answer s m .ok (describeBytes s m e)))

/-- R10, R182, R192, R219, R274, R277, R298, R328: what the requests that write do. An RW entry takes its value at once, an RWS entry in its
group's pending copy; a W1C word loses the bits written as 1; a command other than zero is carried out: SAFE_COMMAND leads to the safe
state, RNG_RESET ends what draws and begins Advent, VAULT_CLEAR begins a new incarnation unless a function is frozen or in migration,
TIMER_ARM arms a timer whose mode is not OFF. DISCARD, the timeout of a pending copy and the expiry of a snapshot end what they name. -/
def Obligations.AlmanacWritesTakeEffect : Prop :=
  (∀ (m : AapMsg) (e : Entry) (s : State), Served s m → entryAt m.index m.sub = some e →
    let v := ofLe m.value
    (m.op = 2 → e.acc = .rw → exec (.write m) s = .next (answer (cfgSet s m.index m.sub v) m .ok [])) ∧
    (∀ g, m.op = 2 → e.acc = .rws → e.ty.isOct = false → groupOfEntry m.index m.sub = some g →
      exec (.write m) s = .next (answer (stage s m.prin g m.index m.sub m.value) m .ok [])) ∧
    (∀ c ∈ [Instr.write m, .sticky m], m.op = 2 → m.index = 0x3000 → 1 ≤ m.sub → m.sub ≤ 0x18 →
      exec c s = .next (answer { s with sticky := s.sticky &&& ~~~(BitVec.ofNat 768 (v * 2 ^ (32 * (m.sub - 1)))) } m .ok [])) ∧
    (∀ c ∈ [Instr.write m, .ringErrors m], m.op = 2 → m.sub = 0x0E → inTable m 0x5000 0x5FFF = true →
      exec c s = .next (answer (modRing s (m.index - 0x5000) fun r => { r with errors := r.errors &&& ~~~(BitVec.ofNat 3 v) }) m .ok [])) ∧
    (∀ c ∈ [Instr.write m, .chanErrors m], m.op = 2 → m.sub = 0x0D → inTable m 0xA000 0xA0FF = true →
      exec c s = .next (answer (modChan s (m.index - 0xA000) fun r => { r with errors := r.errors &&& ~~~(BitVec.ofNat 2 v) }) m .ok [])) ∧
    (∀ c ∈ [Instr.write m, .safeCommand m], isWrite m 0x3000 0x1C = true →
      (v ≠ 0 → severity s 515 = 3 → ∃ t, exec c s = .next t ∧ Entered 515 (answer s m .ok []) t) ∧
      (v = 0 → exec c s = .next (answer s m .ok []))) ∧
    (∀ c ∈ [Instr.write m, .rngReset m], isWrite m 0x8000 2 = true →
      (v ≠ 0 → exec c s = .next (settle (collect (answer (bringWatch (adventBegin
        (pumpAll ((rngReqs s).foldl (fun z r => failStep z r .rngAdvent 0) s)) true)) m .ok [])))) ∧
      (v = 0 → exec c s = .next (answer s m .ok []))) ∧
    (∀ c ∈ [Instr.write m, .vaultClear m], isWrite m 0x7000 0x10 = true →
      (v ≠ 0 → migrating s = true → exec c s = .next (answer s m .busy [])) ∧
      (v ≠ 0 → migrating s = false → exec c s = .next (settle (collect (answer (newIncarnation s) m .ok [])))) ∧
      (v = 0 → exec c s = .next (answer s m .ok []))) ∧
    (∀ c ∈ [Instr.write m, .timerArm m], m.op = 2 → m.sub = 3 → inTable m 0xA100 0xA10F = true →
      let n := m.index - 0xA100
      (v ≠ 0 → timerCfg s n 1 = 0 → exec c s = .next (answer s m .inconsistent [])) ∧
      (v ≠ 0 → timerCfg s n 1 ≠ 0 → exec c s = .next (answer (setTimer s n { getTimer s n with
        armed := true, armAt := nowNs s, last := none, next := nowNs s + timerCfg s n 2 }) m .ok [])) ∧
      (v = 0 → exec c s = .next (answer s m .ok [])))) ∧
  ∀ s : State,
    (∀ m, Served s m → m.op = 4 → exec (.discard m) s = .next (answer { s with mgmt := { s.mgmt with
      pend := s.mgmt.pend.filter fun p => decide (p.group ≠ m.index) } } m .ok [])) ∧
    (atWork s = true →
      (∀ g, exec (.pendingTimeout g) s = .next { s with mgmt := { s.mgmt with pend := s.mgmt.pend.filter fun p => decide (p.group ≠ g) } }) ∧
      (∀ p, exec (.snapshotExpiry p) s =
        .next { s with mgmt := { s.mgmt with snaps := s.mgmt.snaps.eraseP fun x => decide (x.prin = p) } }))

/-- R34, R184, R220, R240 to R243, R257, R258, R277 to R279, R324: a COMMIT that the group's rules refuse changes nothing and keeps the
pending copy; one that they let pass applies every value and its effect at once, ends the copy and counts. RING_CMD and CHAN_CMD start a
ring or channel, which stands FROZEN in a frozen function, and drain or stop it; UNIT_CMD takes a unit out of service and puts it back;
a mode OFF disarms a timer; a new place of the vault begins an incarnation; VE_CMD begins the creation of a function, whose context key is
drawn, its destruction, which stops its channels, its freeze, which stops fetching and holds its idle channels, and its thaw. A ring enabled
under a frozen function stands FROZEN (assumption log 74), a thaw with VAULT_BASE zero is done at once (log 139), and a function is absent
until its key is drawn (log 141): these are the model's readings. -/
def Obligations.CommitsApplyTheirGroup : Prop :=
  ∀ (m : AapMsg) (s : State), Served s m → m.op = 3 → m.index ≠ 0x9000 → m.index ≠ 0x9001 → m.index ≠ 0x9002 →
    let g := m.index
    let t := candidate s g
    let done := fun (x : State) => (Host.Outcome.next (settle (collect (answer (bringWatch (pumpAll
      { x with cnt := { x.cnt with commitSer := x.cnt.commitSer + 1 }
               mgmt := { x.mgmt with pend := x.mgmt.pend.filter fun p => decide (p.group ≠ g) } })) m .ok []))) : Out State)
    (∀ e, groupRefusal s t g = some e → exec (.commit m) s = .next (answer s m e [])) ∧
    (groupRefusal s t g = none →
      exec (.commit m) s = done (applied s t g) ∧
      -- rings
      (inTable m 0x5000 0x5FFF = true →
        let n := g - 0x5000
        (cfgGet s g 9 = 0 → cfgGet t g 9 = 1 → exec (.ringEnable m) s = done (applied s t g) ∧
          (canon s = true → differs s t g 0x0F = false → (getRing s n).coal = 0 →
            let held : Bool := match (getRing s n).owner with | some f => decide ((getFn s f).state = .frozen) | none => false
            (getRing (applied s t g) n).state = (if held then .frozen else .running) ∧
            (getRing (applied s t g) n).version = negotiate (ringCfg t n 7))) ∧
        (cfgGet s g 9 = 1 → cfgGet t g 9 = 0 → exec (.ringDisable m) s = done (applied s t g) ∧
          (canon s = true → differs s t g 0x0F = false → (getRing s n).coal = 0 → (getRing s n).state = .running → ringQuiet s n = true →
            (getRing (applied s t g) n).state = .disabled))) ∧
      -- channels
      (inTable m 0xA000 0xA0FF = true →
        let c := g - 0xA000
        (cfgGet s g 5 = 0 → cfgGet t g 5 = 1 → exec (.chanEnable m) s = done (applied s t g) ∧
          (canon s = true → (getChan s c).state = .disabled → (getChan s c).owner = none →
            (getChan (applied s t g) c).state = .idle ∧ (getChan (applied s t g) c).pending = 0)) ∧
        (cfgGet s g 5 = 1 → cfgGet t g 5 = 0 → exec (.chanDisable m) s = done (applied s t g) ∧
          (canon s = true → (getChan s c).run = none → (getChan (applied s t g) c).state = .disabled))) ∧
      -- timers
      (inTable m 0xA100 0xA10F = true → exec (.timerCommit m) s = done (applied s t g) ∧
        (timerCfg t (g - 0xA100) 1 = 0 →
          applied s t g = setTimer t (g - 0xA100) { getTimer t (g - 0xA100) with armed := false })) ∧
      -- the vault
      (g = 0x7000 → exec (.vaultCommit m) s = done (applied s t g) ∧
        ((differs s t g 1 = true ∨ differs s t g 2 = true) → applied s t g = rewriteBoot s (newIncarnation t))) ∧
      -- units
      (g = 0x3302 →
        (commitsUnit s m 1 = true → exec (.unitOutOfService m) s = done (applied s t g)) ∧
        (commitsUnit s m 0 = true → exec (.unitInService m) s = done (applied s t g)) ∧
        (canon s = true → ∀ u < unitCount, differs s t g u = true → (∀ v, v ≠ u → differs s t g v = false) →
          ((getUnit s u).state = .fenced → unitCmd t u = 1 → (getUnit (applied s t g) u).state = .outOfService) ∧
          ((getUnit s u).state = .active → unitCmd t u = 0 → (getUnit (applied s t g) u).draining = false))) ∧
      -- functions
      (inTable m 0x4000 0x4400 = true →
        let f := g - 0x4000
        let x := modFn t f fun r => { r with skew := false }
        let y := (ringsOf x f).foldl (fun z n => modRing z n fun r => { r with skew := false }) x
        let p := if (getFn s f).state = .running ∨ (getFn s f).state = .quiesced then fitPools y f else y
        (canon s = true → (getFn s f).state = .absent → f ≠ 0 → cfgGet t g 1 = 1 → s.rng.state = .running →
          (32 ≤ s.rng.reserve.length → (∀ w ∈ s.rng.wires, 3 < wireClass w) →
            let z : State := { y with rng := { y.rng with reserve := s.rng.reserve.drop 32 } }
            let st := if (getFn s f).hostEnable then VeState.running else .quiesced
            applied s t g = submitUpd (fitPools (modFn z f fun r => { r with
              ctxKey := s.rng.reserve.take 32, ctxCtr := 0, ctxRes := 0, ctxSerial := r.ctxSerial + 1, mig := .none, session := none
              image := none, receipt := none, frozenMark := false, state := st, before := st, skew := false, restart := false
              resetHeld := false }) f) [.freeze f false] none) ∧
          (s.rng.reserve.length < 32 → applied s t g = askWire y (.ctx f))) ∧
        -- a destruction, from every state that it begins in
        (canon s = true → ((getFn s f).state = .running ∨ (getFn s f).state = .quiesced ∨ (getFn s f).state = .frozen) → cfgGet t g 1 = 0 →
          ∃ z, applied s t g = destroyAdvance z f ∧ (getFn z f).state = .destroying ∧ (getFn z f).image = none ∧
            (∀ n ∈ ringsOf p f, (getRing z n).owner = some f ∧ ((getRing p n).waiting = [] →
              (getRing z n).state = (if (getRing p n).state = .frozen then (getRing p n).thaw else (getRing p n).state))) ∧
            (∀ c ∈ chansOf p f,
              let r := getChan p c
              let w := if r.state = .frozen then { r with state := r.thaw } else r
              (chanEnabled w = false → getChan z c = w) ∧
              (chanEnabled w = true → r.run = none → getChan z c = { w with pending := 0 }) ∧
              (∀ x, chanEnabled w = true → w.state ≠ .frozen → r.run = some x → x.stage = .ccb →
                getChan z c = { w with pending := 0, state := .stopping, run := some { x with stop := true } }))) ∧
        -- a thaw
        (canon s = true → (getFn s f).state = .frozen → cfgGet t g 1 = 1 →
          let z := submitUpd (modFn y f fun r => { r with mig := .none, image := none, act := r.act.map voidSave }) [.freeze f false] none
          applied s t g = if vaultBase z = 0 then thawDone z else z) ∧
        -- a freeze
        (canon s = true → ((getFn s f).state = .running ∨ (getFn s f).state = .quiesced) → cfgGet t g 1 = 2 →
          ∃ z w, w = submitUpd z [.freeze f true] none ∧
            applied s t g = (replacingSlots w f).foldl (fun x i => submitUpd x [.cancel i] none) w ∧
            (getFn z f).state = .freezing ∧ (getFn z f).before = (getFn s f).state ∧
            (∀ n ∈ ringsOf p f, (getRing z n).state = (getRing p n).state ∧ (getRing z n).fetching = false ∧
              (∀ x ∈ (getRing z n).waiting, x ∈ (getRing p n).waiting)) ∧
            (∀ c ∈ chansOf p f, getChan z c =
              (if (getChan p c).state = .idle then { getChan p c with state := .frozen, thaw := .idle } else getChan p c))) ∧
        ((getFn s f).state = .absent → cfgGet t g 1 = 1 → exec (.veCreate m) s = done (applied s t g)) ∧
        ((getFn s f).state ≠ .absent → cfgGet t g 1 = 0 → exec (.veDestroy m) s = done (applied s t g)) ∧
        (cfgGet t g 1 = 2 → exec (.veFreeze m) s = done (applied s t g)) ∧
        ((getFn s f).state = .frozen → cfgGet t g 1 = 1 → exec (.veThaw m) s = done (applied s t g))))

/-! ### Migration -/

/-- R259, R260, R265: a write of VE_ACTION that its function's state does not accept answers with its code; one that is accepted is answered
OK, ACTION_STATUS reads BUSY and the input of the action is read (RESET, SAVE, RESTORE, RELEASE, COMMIT, ABANDON, OPEN, RECEIPT,
RENEW_CONTEXT_KEY). With its input in hand ACTION_COMPLETION carries it out: it ends with 17h on a read error, 18h where draws or signatures
cannot be made, or the code of the first test that fails; it waits while no buffer of a PKA unit holds what it draws; ABANDON of an open
session scrubs it and ends with 02h. An open session is scrubbed at its bound. Where the action's objects lie is taken as it begins (DESIGN
CHOICE, log 169); that it waits for a unit's buffer (log 153, DESIGN CHOICE), that ABANDON needs no signature (log 148), that a checked
signature is one operation (log 185), that a function which can renew no more ends with 13h (log 167), and that a session is kept from its
bound while its RESTORE is written (log 170) are the model's readings. -/
def Obligations.ActionsBeginAndComplete : Prop :=
  (∀ (m : AapMsg) (n : Nat) (k : ActKind) (s : State), Served s m → isAction m n = true → codeAct n = some k →
    let f := m.index - 0x4000
    let rows := [(1, Instr.veResetAction m), (2, .save m), (3, .restore m), (4, .release m), (5, .migrationCommit m), (6, .abandon m),
      (7, .openAction m), (8, .receipt m), (9, .renewContextKey m)]
    let x := actBegin (answer s m .ok []) f k
    (∀ c, (c = .write m ∨ (n, c) ∈ rows) →
      (∀ e, actRefusal s f k = some e → exec c s = .next (answer s m e [])) ∧
      (actRefusal s f k = none → k ≠ .reset → exec c s = .next (settle (collect x))) ∧
      (actRefusal s f k = none → k = .reset → exec c s = .next (leaves (veReset x f)))) ∧
    (canon s = true → k = .open ∨ k = .abandon ∨ k = .receipt ∨ k = .renew ∨ k = .reset →
      (getFn x f).actStatus = 1 ∧
      (getFn x f).act = some { kind := k, outAddr := fnCfg s f 0x13, outCap := fnCfg s f 0x14, pasid := fnCfg s f 0x10 })) ∧
  ∀ (f : Nat) (s : State), atWork s = true →
    ((getFn s f).act = none → exec (.actionCompletion f) s = .next s) ∧
    (∀ a, (getFn s f).act = some a → a.reading = false → a.outst = 0 → a.code = none →
      let b := actInput a
      let ends := fun (y : State) (code : Nat) =>
        (Host.Outcome.next (settle (collect (raiseOwn (setFn y f { getFn y f with actStatus := code, act := none })))) : Out State)
      (∀ st, a.err = some st → exec (.actionCompletion f) s = ends s 0x17) ∧
      (a.err = none → actWaits s a.kind = true → exec (.actionCompletion f) s = .next (settle (collect (awaitSupply s)))) ∧
      (a.err = none → actWaits s a.kind = false →
        (a.kind = .open → signReady s = true → exec (.actionCompletion f) s = .next (settle (collect (actOpen s f)))) ∧
        (a.kind = .open → signReady s = false → exec (.actionCompletion f) s = ends s 0x18) ∧
        (∀ e, a.kind = .save → saveBad s f b = some e → exec (.actionCompletion f) s = ends (countChecked s b 1760) e) ∧
        (a.kind = .save → saveBad s f b = none → (getFn s f).state ≠ .frozen →
          exec (.actionCompletion f) s = ends (countChecked s b 1760) 0x13) ∧
        (∀ e ses, a.kind = .restore → (getFn s f).session = some ses → restoreBad s f ses b = some e →
          exec (.actionCompletion f) s = ends (countChecked s b (1952 + bodyLen b)) e) ∧
        (a.kind = .release → (getFn s f).image = none → exec (.actionCompletion f) s = ends s 0x13) ∧
        (∀ e img, a.kind = .release → (getFn s f).image = some img → releaseBad s f img b = some e →
          exec (.actionCompletion f) s = ends (countChecked s b 136) e) ∧
        (∀ e ses, a.kind = .commit → (getFn s f).session = some ses → commitBad s f ses b = some e →
          exec (.actionCompletion f) s = ends (countChecked s b 184) e) ∧
        (a.kind = .abandon → (getFn s f).mig = .opened →
          exec (.actionCompletion f) s = ends (setFn s f { getFn s f with session := none, mig := .none }) 2) ∧
        (a.kind = .renew → (getFn s f).state ≠ .running → (getFn s f).state ≠ .quiesced → exec (.actionCompletion f) s = ends s 0x13) ∧
        (a.kind = .renew → ((getFn s f).state = .running ∨ (getFn s f).state = .quiesced) →
          (s.rng.state ≠ .running ∨ vaultReady s = false) → exec (.actionCompletion f) s = ends s 0x18))) ∧
    ((getFn s f).mig = .opened → restoring s f = false →
      exec (.migOpenTimeout f) s = .next (setFn s f { getFn s f with session := none, mig := .none })) ∧
    (((getFn s f).mig ≠ .opened ∨ restoring s f = true) → exec (.migOpenTimeout f) s = .next s)

/-! ### The paths of the Almanac -/

/-- R284, R288, R289, R379, R385: a mailbox takes a request while it is free, in its place in the order of arrival, and reports an overrun
otherwise; an MCTP packet begins or completes a message, or is discarded under source 519; the control messages are answered (their
formats are the model's, assumption log 110). -/
def Obligations.MailboxesAndPacketsBringRequests : Prop :=
  ∀ s : State, atWork s = true → s.bring.almanacUp = true →
    (∀ (f : Nat) (w : U32) (b : Bytes), f ≤ 1024 → (getFn s f).state ≠ .absent →
      let n := w.toNat % 2048
      let p : Principal := if f = 0 then .mgr else .ve f
      let x := setMail s f { getMail s f with busy := true, done := false, ovr := false, req := some (parseMsg p (fit n b)) }
      (w.getLsbD 31 = false → exec (.mbReq f w b) s = .next s) ∧
      (w.getLsbD 31 = true → (getMail s f).busy = false → 16 ≤ n → n ≤ 1040 →
        exec (.mbReq f w b) s = .next { x with mgmt := { x.mgmt with order := s.mgmt.order ++ [p] } }) ∧
      (w.getLsbD 31 = true → ((getMail s f).busy = true ∨ n < 16 ∨ 1040 < n) →
        exec (.mbReq f w b) s = .next (setMail s f { getMail s f with ovr := true }))) ∧
    (∀ p : Bytes, (p.length < 5 ∨ 68 < p.length ∨ fld p 0 1 ≠ 1) → exec (.mctpPacket p) s = .next (settle (collect (raiseSrc s 519)))) ∧
    (∀ p : Bytes, 5 ≤ p.length → p.length ≤ 68 → fld p 0 1 = 1 →
      let eid := fld p 2 1
      let fl := fld p 3 1
      let x : State := { s with mgmt := { s.mgmt with reasm := s.mgmt.reasm.filter fun r => !decide (r.eid = eid ∧ r.tag = fl % 16) } }
      (fl.testBit 7 = true → fl.testBit 6 = false →
        exec (.mctpPacket p) s = .next { x with mgmt := { x.mgmt with
          reasm := x.mgmt.reasm ++ [{ eid := eid, tag := fl % 16, seq := fl / 16 % 4, body := p.drop 4 }] } }) ∧
      (fl.testBit 7 = true → fl.testBit 6 = true → fl.testBit 3 = true → (p.drop 4).take 5 = vendorHead → s.mgmt.oob.length < 4 →
        exec (.mctpPacket p) s = .next { x with mgmt := { x.mgmt with
          oob := s.mgmt.oob ++ [{ eid := eid, tag := fl % 16 % 8, msg := parseMsg .oob (p.drop 9) }]
          order := s.mgmt.order ++ [.oob] } }) ∧
      (fl.testBit 7 = false → findReasm s eid (fl % 16) = none →
        exec (.mctpPacket p) s = .next (settle (collect (raiseSrc x 519))))) ∧
    (∀ m : CtrlMsg,
      let put := fun (x : State) (cmd cc : Nat) (d : Bytes) =>
        Host.Outcome.next (sendMctp x m.eid m.tag (le 1 0 ++ le 1 (fld m.data 0 1 % 32) ++ le 1 cmd ++ le 1 cc ++ d))
      (m.data.length = 3 → fld m.data 1 1 % 4 ≤ 1 → 8 ≤ fld m.data 2 1 → fld m.data 2 1 ≤ 254 →
        exec (.setEndpointId m) s = put { s with mgmt := { s.mgmt with eid := fld m.data 2 1 } } 1 0 (le 1 0 ++ le 1 (fld m.data 2 1) ++ le 1 0)) ∧
      (m.data.length ≠ 3 → exec (.setEndpointId m) s = put s 1 3 []) ∧
      exec (.getEndpointId m) s = put s 2 0 (le 1 s.mgmt.eid ++ le 1 0 ++ le 1 0) ∧
      (m.data.length = 2 → (fld m.data 1 1 = 0 ∨ fld m.data 1 1 = 255) →
        exec (.getMctpVersionSupport m) s = put (useFree s 4) 4 0 (le 1 1 ++ freeBytes s 4)) ∧
      exec (.getMessageTypeSupport m) s = put s 5 0 [1, 0x7F] ∧
      (m.data.length = 2 → fld m.data 1 1 = 0 →
        exec (.getVendorDefinedMessageSupport m) s = put (useFree s 2) 6 0 (le 1 255 ++ le 1 1 ++ [0x00, 0x00, 0xDF, 0x82] ++ freeBytes s 2)) ∧
      ∀ cmd, exec (.unsupportedControlCommand m cmd) s = put s cmd 5 [])

/-! ### The life cycle and the persistent store -/

/-- R335, R341 to R345, R364: a life-cycle request, a debug token or an attestation nonce is answered BUSY where the block cannot take it,
or with LIFECYCLE or INCONSISTENT where a test fails; a good request begins the transition with its first phase mark, a good token adds its
grants, a good nonce makes a statement, once a PKA unit's buffer holds its 64 bytes (DESIGN CHOICE, log 153). The budgets are tested before
the transition (log 83), and the signatures checked count as one operation (log 185). At the bound of its drain a transition destroys the
keys; a failed write of it is repeated. -/
def Obligations.LifeCycleFollowsItsRequests : Prop :=
  (∀ (m : AapMsg) (s : State), Served s m → m.op = 3 →
    (∀ c ∈ [Instr.commit m, .lifecycleTransition m], m.index = 0x9000 →
      let b := submitted s 0x9000 5
      let x : State := { s with life := { s.life with challenge := none } }
      ((readyBit s none 3 = false ∨ lcIdle s = false) → exec c s = .next (answer s m .busy [])) ∧
      let signed := fun (z : State) => { z with cnt := { z.cnt with pkaOps := u64 (z.cnt.pkaOps + 1) } }
      let refuses := fun (z : State) (e : Nat) => exec c s = .next (answer { z with life := { z.life with result := e } } m .lifecycle [])
      (∀ e, readyBit s none 3 = true → lcIdle s = true → requestBad x false s.life.challenge b = some e →
        (e ≠ 0x16 → refuses x e) ∧ (e = 0x16 → refuses (signed x) e)) ∧
      (readyBit s none 3 = true → lcIdle s = true → requestBad x false s.life.challenge b = none → budgetOk s (fld b 4 1) = false →
        refuses (signed x) 0x19) ∧
      (readyBit s none 3 = true → lcIdle s = true → requestBad x false s.life.challenge b = none → budgetOk s (fld b 4 1) = true →
        exec c s = .next (settle (collect (lcWrite
          { signed x with life := { x.life with busy := true }, mgmt := { s.mgmt with waiting := some m } } 1
          (lifePayload s.life.state (fld b 4 1) 1 s.life.count s.life.mask (slice b 96 48) (sha384 (b.take 144))) (.phase .verified)))))) ∧
    (∀ c ∈ [Instr.commit m, .debugToken m], m.index = 0x9001 →
      let b := submitted s 0x9001 1
      let x : State := { s with life := { s.life with dbgChal := none } }
      ((readyBit s none 3 = false ∨ s.life.busy = true) → exec c s = .next (answer s m .busy [])) ∧
      let signed := fun (z : State) => { z with cnt := { z.cnt with pkaOps := u64 (z.cnt.pkaOps + 1) } }
      let refuses := fun (z : State) (e : Nat) => exec c s = .next (answer { z with life := { z.life with result := e } } m .lifecycle [])
      (∀ e, readyBit s none 3 = true → s.life.busy = false → requestBad x true s.life.dbgChal b = some e →
        (e ≠ 0x16 → refuses x e) ∧ (e = 0x16 → refuses (signed x) e)) ∧
      (readyBit s none 3 = true → s.life.busy = false → requestBad x true s.life.dbgChal b = none →
        exec c s = .next (answer (committed
          { signed x with life := { x.life with debugEn := s.life.debugEn ||| BitVec.ofNat 2 (fld b 4 1), result := 1 } } 0x9001) m .ok []))) ∧
    (∀ c ∈ [Instr.commit m, .attestNonce m], m.index = 0x9002 →
      let nonce := submitted s 0x9002 1
      ((s.rng.state ≠ .running ∨ s.bring.identity = false ∨ readyBit s none 3 = false) → exec c s = .next (answer s m .busy [])) ∧
      (s.rng.state = .running → s.bring.identity = true → readyBit s none 3 = true →
        (allZero nonce = true → exec c s = .next (answer s m .inconsistent [])) ∧
        (allZero nonce = false → pkaSupply s 64 = none → exec c s = .next (awaitSupply s)) ∧
        (allZero nonce = false → pkaSupply s 64 ≠ none → exec c s = .next (answer (committed
          { countPka (pkaRandom s 64).2 with life := { s.life with
            statement := coseSign s none (blockPayload s nonce) false (pkaRandom s 64).1
            serial := s.life.serial + 1 } } 0x9002) m .ok []))))) ∧
  ∀ s : State, atWork s = true →
    (lcDrained s = false → exec .transitionWorkAbandon s = .next s) ∧
    (lcDrained s = true → s.rings = [] → s.chans = [] →
      exec .transitionWorkAbandon s = .next (settle (collect (lcWrite (destroyKeys s) 1 (markPayload (destroyKeys s) .keysDestroyed)
        (.phase .keysDestroyed)))) ∧
      (s.reqs = [] → (destroyKeys s).reqs = []) ∧
      (destroyKeys s).cache = [] ∧ (destroyKeys s).vault.slots = [] ∧ (destroyKeys s).vault.frames = [] ∧ (destroyKeys s).rng.pkaBuf = [] ∧
      (canon s = true → ∀ f, (getFn (destroyKeys s) f).ctxKey = [])) ∧
    (s.nv.retry = none → exec .nvWriteRetry s = .next s) ∧
    (∀ j, s.nv.retry = some j → exec .nvWriteRetry s = .next (settle (collect (nvSubmit { s with nv := { s.nv with retry := none } }
      { j with again := true }))))

/-- R306, R350, R387: the NV commands of a record's read and write follow each other: the pages of both banks are read, the newest valid
copy is the record, and a record without one that is not blank has failed; a bank with no erased slot is erased, sector by sector, and slot
0 taken. A copy is programmed and read back. One that is not as it was written, or whose command reports an error or does not end in time,
is tried once more in the next place; a second failure sets the record's source, and the record stays as it is. -/
def Obligations.NvCommandsFollowTheirProcedure : Prop :=
  (∀ s : State, exec .nvTimeout s = exec (.nvCommandEnd [] true) s) ∧
  ∀ (w : Bytes) (j : NvJob) (rest : List NvJob) (s : State), atWork s = true →
    (s.nv.jobs = [] → exec (.nvCommandEnd w false) s = .next s) ∧
    (s.nv.jobs = j :: rest → j.recId ≠ surveyRec →
      let goes := fun (k : NvJob) =>
        exec (.nvCommandEnd w false) s = .next { s with nv := { s.nv with jobs := k :: rest, progAt := s.pins.cycles } }
      let b := j.got ++ fit 256 w
      -- reads
      (∀ k p, j.step = .readPage k p → p + 1 < bankPages j.recId → goes { j with step := .readPage k (p + 1), got := b }) ∧
      (∀ p, j.step = .readPage 0 p → bankPages j.recId ≤ p + 1 → goes { j with step := .readPage 1 0, got := b }) ∧
      (∀ k p, j.step = .readPage k p → k ≠ 0 → bankPages j.recId ≤ p + 1 →
        let n := readRecord s j.recId b
        let y := setNvRec s j.recId n
        let z := if n.failed then raiseSrc y (recSource j.recId) else y
        exec (.nvCommandEnd w false) s =
          .next (settle (collect (bringWatch (nvBegin (jobOver { z with nv := { z.nv with jobs := rest } } j n.valid)))))) ∧
      -- an erase
      (∀ k, j.step = .erase k → k + 1 < bankSectors j.recId → goes { j with step := .erase (k + 1) }) ∧
      (∀ k, j.step = .erase k → bankSectors j.recId ≤ k + 1 →
        let y := eraseBank s j.recId j.bank
        exec (.nvCommandEnd w false) s =
          .next { y with nv := { y.nv with jobs := { j with slot := 0, step := .program 0 } :: rest, progAt := s.pins.cycles } }) ∧
      -- a copy
      (∀ p, j.step = .program p → p + 1 < framePages s j → goes { j with step := .program (p + 1) }) ∧
      (∀ p, j.step = .program p → framePages s j ≤ p + 1 → goes { j with step := .verify 0, got := [] }) ∧
      (∀ p, j.step = .verify p → p + 1 < framePages s j → goes { j with step := .verify (p + 1), got := b }) ∧
      (∀ p, j.step = .verify p → framePages s j ≤ p + 1 →
        let good := copyOk s j.recId b = true ∧ copySeq b = jobSeq s j ∧ b.take (jobFrame s j).length = jobFrame s j ∧
          (b.drop (jobFrame s j).length).all (fun x => decide (x = 0xFF)) = true
        (good →
          let x := markSlot s j.recId j.bank j.slot (.valid (jobSeq s j))
          let y := setNvRec x j.recId { getNvRec x j.recId with
            seq := jobSeq s j, payload := j.write.getD [], valid := true, failed := false }
          exec (.nvCommandEnd w false) s =
            .next (settle (collect (bringWatch (nvBegin (jobOver { y with nv := { y.nv with jobs := rest } } j true)))))) ∧
        (¬good → j.tryNo = 0 →
          let x := markSlot s j.recId j.bank j.slot .bad
          exec (.nvCommandEnd w false) s = .next
            { x with nv := { x.nv with jobs := { placeCopy x j j.bank with tryNo := 1 } :: rest, progAt := s.pins.cycles } }) ∧
        (¬good → j.tryNo ≠ 0 →
          let x := raiseSrc (markSlot s j.recId j.bank j.slot .bad) (recSource j.recId)
          exec (.nvCommandEnd w false) s =
            .next (settle (collect (bringWatch (nvBegin (jobOver { x with nv := { x.nv with jobs := rest } } j false))))))) ∧
      -- an error
      ((∃ p, j.step = .program p ∨ j.step = .erase p) →
        let x := markSlot (raiseSrc s 507) j.recId j.bank j.slot .bad
        let y := raiseSrc x (recSource j.recId)
        (j.tryNo = 0 → exec .nvTimeout s = .next (settle (collect
          { x with nv := { x.nv with jobs := { placeCopy x j j.bank with tryNo := 1 } :: rest, progAt := s.pins.cycles } }))) ∧
        (j.tryNo ≠ 0 → exec .nvTimeout s =
          .next (settle (collect (bringWatch (nvBegin (jobOver { y with nv := { y.nv with jobs := rest } } j false))))))) ∧
      (twf ({} : NvRec) s.nv.recs = true → ∀ k v r, getNvRec (markSlot s k j.bank j.slot v) r = getNvRec s r ∨
        ((getNvRec (markSlot s k j.bank j.slot v) r).seq = (getNvRec s r).seq ∧
          (getNvRec (markSlot s k j.bank j.slot v) r).payload = (getNvRec s r).payload ∧
          (getNvRec (markSlot s k j.bank j.slot v) r).valid = (getNvRec s r).valid)))

/-! ### The test access port -/

/-- R397, R398, R400, R340: what the instructions of the test access port load and select; Capture-IR loads 01h, and TDO is driven by no
scan afterwards. Only the port's own registers change; a free value is used up where a word is not stated. A debug read gives the word that
the selector in force names, a queued descriptor's among them, and zero while internal debug is not enabled; the wrapper holds WSO low while
the test modes are not. R399: one scan of the ALMANAC register captures the next response word, with bit 32 set, and takes a word of the
request where bit 32 of what is shifted in is set; the request is complete after the words that its header gives. -/
def Obligations.TapInstructionsAndScans : Prop :=
  (∀ s : State, awake s = true →
    let at_ := fun (i : TapInstr) => { s.tap with ir := i, irOut := 1, tdo := none }
    exec .tapReset s = .next { s with tap := at_ .idcode } ∧
    exec .samplePreload s = .next { s with tap := at_ .samplePreload } ∧
    exec .idcode s = .next { s with tap := { at_ .idcode with dr := 0x21600C5B } } ∧
    (∀ code : BitVec 8, code.toNat ∉ [0x00, 0x01, 0x02, 0x03, 0x04, 0x10, 0x11, 0x12] →
      exec (.bypass code) s = .next { s with tap := at_ .bypass }) ∧
    (∀ sel : BitVec 64, ∃ (n : Nat) (d : BitVec 64),
      exec (.debugRead sel) s = .next { s with free := n, tap := { at_ .debugRead with sel := sel, dr := d } } ∧
      (debugEnabled s % 2 = 0 → d.toNat % 2 ^ 32 = 0) ∧
      (∀ w, debugEnabled s % 2 = 1 → seqWord s s.tap.sel = some w → d.toNat % 2 ^ 32 = w % 2 ^ 32)) ∧
    (∀ b, debugEnabled s < 2 → ∃ n : Nat,
      exec (.wrapper b) s = .next { s with free := n, tap := { at_ .wrapper with wrapper := false, wso := false } }) ∧
    (∀ b, 2 ≤ debugEnabled s → ∃ (n : Nat) (out : Bool),
      let x : State := { s with free := n, tap := { at_ .wrapper with wrapper := true, wso := out } }
      (b = false ∨ s.tap.factory = true → exec (.wrapper b) s = .next x) ∧
      (s.tap.factory = false → exec (.wrapper true) s = .next (settle (collect (factoryTest x)))))) ∧
  (∀ (word : BitVec 33) (s : State), atWork s = true → s.bring.almanacUp = true →
    let out := s.mgmt.dbgOut
    let b := s.mgmt.dbgIn ++ le 4 (word.toNat % 2 ^ 32)
    let n := if fld b 1 1 = 2 then 16 + fld b 10 2 else 16
    let tap : Tap := { s.tap with
      ir := .almanac, irOut := 1, tdo := none, dr := if out = [] then 0 else BitVec.ofNat 64 (2 ^ 32 + fld (fit 4 out) 0 4) }
    (word.getLsbD 32 = false → s.mgmt.dbgIn.length < 16 →
      exec (.almanac word) s = .next { s with tap := tap, mgmt := { s.mgmt with dbgOut := out.drop 4 } }) ∧
    (word.getLsbD 32 = true → (b.length < 16 ∨ b.length < n) →
      exec (.almanac word) s = .next { s with tap := tap, mgmt := { s.mgmt with
        dbgIn := b, dbgOut := if s.mgmt.dbgIn = [] then [] else out.drop 4 } }) ∧
    (word.getLsbD 32 = true → 16 ≤ b.length → n ≤ b.length → s.mgmt.dbg = none →
      exec (.almanac word) s = .next { s with tap := tap, mgmt := { s.mgmt with
        dbgIn := [], dbg := some (parseMsg .dbg (b.take n)), order := s.mgmt.order ++ [.dbg], dbgOut := if s.mgmt.dbgIn = [] then [] else out.drop 4 } }))

/-! ### What every step keeps -/

/-- The tables of the model keep their canonical form: keys rise, and no entry stands at its default. -/
def Obligations.TablesStayCanonical : Prop := canon State.reset = true ∧ ∀ s t : State, canon s = true → step s = .next t → canon t = true

/-- R316: no command moves a locked severity from SAFE; a pending copy holds entries of its group alone. -/
def Obligations.LockedSeveritiesStaySafe : Prop := Locked State.reset ∧ ∀ s t : State, Locked s → step s = .next t → Locked t
end

