-- ==== Sys2Proof/Laws/State.lean ====
section
/-!
SUPPORT. What each update of the state leaves as it was, field by field, and the forms of the updates that modify a record.
-/
set_option Elab.async false

namespace Sys2Proof.Machine

open Sys2Proof

/-! ### setFn -/

section setFn
variable (s : State) (f : Nat) (x : FnRec)
@[simp] theorem setFn_pending : (setFn s f x).pending = s.pending := rfl
@[simp] theorem setFn_free : (setFn s f x).free = s.free := rfl
@[simp] theorem setFn_pins : (setFn s f x).pins = s.pins := rfl
@[simp] theorem setFn_bring : (setFn s f x).bring = s.bring := rfl
@[simp] theorem setFn_alarms : (setFn s f x).alarms = s.alarms := rfl
@[simp] theorem setFn_units : (setFn s f x).units = s.units := rfl
@[simp] theorem setFn_gens : (setFn s f x).gens = s.gens := rfl
@[simp] theorem setFn_sticky : (setFn s f x).sticky = s.sticky := rfl
@[simp] theorem setFn_raised : (setFn s f x).raised = s.raised := rfl
@[simp] theorem setFn_safe : (setFn s f x).safe = s.safe := rfl
@[simp] theorem setFn_ledgerR : (setFn s f x).ledgerR = s.ledgerR := rfl
@[simp] theorem setFn_ledgerC : (setFn s f x).ledgerC = s.ledgerC := rfl
@[simp] theorem setFn_irq : (setFn s f x).irq = s.irq := rfl
@[simp] theorem setFn_cfg : (setFn s f x).cfg = s.cfg := rfl
@[simp] theorem setFn_cnt : (setFn s f x).cnt = s.cnt := rfl
@[simp] theorem setFn_fstat : (setFn s f x).fstat = s.fstat := rfl
@[simp] theorem setFn_rings : (setFn s f x).rings = s.rings := rfl
@[simp] theorem setFn_reqs : (setFn s f x).reqs = s.reqs := rfl
@[simp] theorem setFn_chains : (setFn s f x).chains = s.chains := rfl
@[simp] theorem setFn_nextReq : (setFn s f x).nextReq = s.nextReq := rfl
@[simp] theorem setFn_chainUse : (setFn s f x).chainUse = s.chainUse := rfl
@[simp] theorem setFn_echoUse : (setFn s f x).echoUse = s.echoUse := rfl
@[simp] theorem setFn_txns : (setFn s f x).txns = s.txns := rfl
@[simp] theorem setFn_bursts : (setFn s f x).bursts = s.bursts := rfl
@[simp] theorem setFn_vault : (setFn s f x).vault = s.vault := rfl
@[simp] theorem setFn_cache : (setFn s f x).cache = s.cache := rfl
@[simp] theorem setFn_rng : (setFn s f x).rng = s.rng := rfl
@[simp] theorem setFn_chans : (setFn s f x).chans = s.chans := rfl
@[simp] theorem setFn_timers : (setFn s f x).timers = s.timers := rfl
@[simp] theorem setFn_peer : (setFn s f x).peer = s.peer := rfl
@[simp] theorem setFn_lookup : (setFn s f x).lookup = s.lookup := rfl
@[simp] theorem setFn_cal : (setFn s f x).cal = s.cal := rfl
@[simp] theorem setFn_mgmt : (setFn s f x).mgmt = s.mgmt := rfl
@[simp] theorem setFn_nv : (setFn s f x).nv = s.nv := rfl
@[simp] theorem setFn_life : (setFn s f x).life = s.life := rfl
@[simp] theorem setFn_tap : (setFn s f x).tap = s.tap := rfl
end setFn

/-! ### setRing -/

section setRing
variable (s : State) (n : Nat) (x : RingRec)
@[simp] theorem setRing_pending : (setRing s n x).pending = s.pending := rfl
@[simp] theorem setRing_free : (setRing s n x).free = s.free := rfl
@[simp] theorem setRing_pins : (setRing s n x).pins = s.pins := rfl
@[simp] theorem setRing_bring : (setRing s n x).bring = s.bring := rfl
@[simp] theorem setRing_alarms : (setRing s n x).alarms = s.alarms := rfl
@[simp] theorem setRing_units : (setRing s n x).units = s.units := rfl
@[simp] theorem setRing_gens : (setRing s n x).gens = s.gens := rfl
@[simp] theorem setRing_sticky : (setRing s n x).sticky = s.sticky := rfl
@[simp] theorem setRing_raised : (setRing s n x).raised = s.raised := rfl
@[simp] theorem setRing_safe : (setRing s n x).safe = s.safe := rfl
@[simp] theorem setRing_ledgerR : (setRing s n x).ledgerR = s.ledgerR := rfl
@[simp] theorem setRing_ledgerC : (setRing s n x).ledgerC = s.ledgerC := rfl
@[simp] theorem setRing_irq : (setRing s n x).irq = s.irq := rfl
@[simp] theorem setRing_cfg : (setRing s n x).cfg = s.cfg := rfl
@[simp] theorem setRing_cnt : (setRing s n x).cnt = s.cnt := rfl
@[simp] theorem setRing_fstat : (setRing s n x).fstat = s.fstat := rfl
@[simp] theorem setRing_fns : (setRing s n x).fns = s.fns := rfl
@[simp] theorem setRing_reqs : (setRing s n x).reqs = s.reqs := rfl
@[simp] theorem setRing_chains : (setRing s n x).chains = s.chains := rfl
@[simp] theorem setRing_nextReq : (setRing s n x).nextReq = s.nextReq := rfl
@[simp] theorem setRing_chainUse : (setRing s n x).chainUse = s.chainUse := rfl
@[simp] theorem setRing_echoUse : (setRing s n x).echoUse = s.echoUse := rfl
@[simp] theorem setRing_txns : (setRing s n x).txns = s.txns := rfl
@[simp] theorem setRing_bursts : (setRing s n x).bursts = s.bursts := rfl
@[simp] theorem setRing_vault : (setRing s n x).vault = s.vault := rfl
@[simp] theorem setRing_cache : (setRing s n x).cache = s.cache := rfl
@[simp] theorem setRing_rng : (setRing s n x).rng = s.rng := rfl
@[simp] theorem setRing_chans : (setRing s n x).chans = s.chans := rfl
@[simp] theorem setRing_timers : (setRing s n x).timers = s.timers := rfl
@[simp] theorem setRing_peer : (setRing s n x).peer = s.peer := rfl
@[simp] theorem setRing_lookup : (setRing s n x).lookup = s.lookup := rfl
@[simp] theorem setRing_cal : (setRing s n x).cal = s.cal := rfl
@[simp] theorem setRing_mgmt : (setRing s n x).mgmt = s.mgmt := rfl
@[simp] theorem setRing_nv : (setRing s n x).nv = s.nv := rfl
@[simp] theorem setRing_life : (setRing s n x).life = s.life := rfl
@[simp] theorem setRing_tap : (setRing s n x).tap = s.tap := rfl
end setRing

/-! ### setReq -/

section setReq
variable (s : State) (r : Nat) (x : Option Req)
@[simp] theorem setReq_pending : (setReq s r x).pending = s.pending := rfl
@[simp] theorem setReq_free : (setReq s r x).free = s.free := rfl
@[simp] theorem setReq_pins : (setReq s r x).pins = s.pins := rfl
@[simp] theorem setReq_bring : (setReq s r x).bring = s.bring := rfl
@[simp] theorem setReq_alarms : (setReq s r x).alarms = s.alarms := rfl
@[simp] theorem setReq_units : (setReq s r x).units = s.units := rfl
@[simp] theorem setReq_gens : (setReq s r x).gens = s.gens := rfl
@[simp] theorem setReq_sticky : (setReq s r x).sticky = s.sticky := rfl
@[simp] theorem setReq_raised : (setReq s r x).raised = s.raised := rfl
@[simp] theorem setReq_safe : (setReq s r x).safe = s.safe := rfl
@[simp] theorem setReq_ledgerR : (setReq s r x).ledgerR = s.ledgerR := rfl
@[simp] theorem setReq_ledgerC : (setReq s r x).ledgerC = s.ledgerC := rfl
@[simp] theorem setReq_irq : (setReq s r x).irq = s.irq := rfl
@[simp] theorem setReq_cfg : (setReq s r x).cfg = s.cfg := rfl
@[simp] theorem setReq_cnt : (setReq s r x).cnt = s.cnt := rfl
@[simp] theorem setReq_fstat : (setReq s r x).fstat = s.fstat := rfl
@[simp] theorem setReq_fns : (setReq s r x).fns = s.fns := rfl
@[simp] theorem setReq_rings : (setReq s r x).rings = s.rings := rfl
@[simp] theorem setReq_chains : (setReq s r x).chains = s.chains := rfl
@[simp] theorem setReq_nextReq : (setReq s r x).nextReq = s.nextReq := rfl
@[simp] theorem setReq_chainUse : (setReq s r x).chainUse = s.chainUse := rfl
@[simp] theorem setReq_echoUse : (setReq s r x).echoUse = s.echoUse := rfl
@[simp] theorem setReq_txns : (setReq s r x).txns = s.txns := rfl
@[simp] theorem setReq_bursts : (setReq s r x).bursts = s.bursts := rfl
@[simp] theorem setReq_vault : (setReq s r x).vault = s.vault := rfl
@[simp] theorem setReq_cache : (setReq s r x).cache = s.cache := rfl
@[simp] theorem setReq_rng : (setReq s r x).rng = s.rng := rfl
@[simp] theorem setReq_chans : (setReq s r x).chans = s.chans := rfl
@[simp] theorem setReq_timers : (setReq s r x).timers = s.timers := rfl
@[simp] theorem setReq_peer : (setReq s r x).peer = s.peer := rfl
@[simp] theorem setReq_lookup : (setReq s r x).lookup = s.lookup := rfl
@[simp] theorem setReq_cal : (setReq s r x).cal = s.cal := rfl
@[simp] theorem setReq_mgmt : (setReq s r x).mgmt = s.mgmt := rfl
@[simp] theorem setReq_nv : (setReq s r x).nv = s.nv := rfl
@[simp] theorem setReq_life : (setReq s r x).life = s.life := rfl
@[simp] theorem setReq_tap : (setReq s r x).tap = s.tap := rfl
end setReq

/-! ### setChain -/

section setChain
variable (s : State) (c : Nat) (x : Option Chain)
@[simp] theorem setChain_pending : (setChain s c x).pending = s.pending := rfl
@[simp] theorem setChain_free : (setChain s c x).free = s.free := rfl
@[simp] theorem setChain_pins : (setChain s c x).pins = s.pins := rfl
@[simp] theorem setChain_bring : (setChain s c x).bring = s.bring := rfl
@[simp] theorem setChain_alarms : (setChain s c x).alarms = s.alarms := rfl
@[simp] theorem setChain_units : (setChain s c x).units = s.units := rfl
@[simp] theorem setChain_gens : (setChain s c x).gens = s.gens := rfl
@[simp] theorem setChain_sticky : (setChain s c x).sticky = s.sticky := rfl
@[simp] theorem setChain_raised : (setChain s c x).raised = s.raised := rfl
@[simp] theorem setChain_safe : (setChain s c x).safe = s.safe := rfl
@[simp] theorem setChain_ledgerR : (setChain s c x).ledgerR = s.ledgerR := rfl
@[simp] theorem setChain_ledgerC : (setChain s c x).ledgerC = s.ledgerC := rfl
@[simp] theorem setChain_irq : (setChain s c x).irq = s.irq := rfl
@[simp] theorem setChain_cfg : (setChain s c x).cfg = s.cfg := rfl
@[simp] theorem setChain_cnt : (setChain s c x).cnt = s.cnt := rfl
@[simp] theorem setChain_fstat : (setChain s c x).fstat = s.fstat := rfl
@[simp] theorem setChain_fns : (setChain s c x).fns = s.fns := rfl
@[simp] theorem setChain_rings : (setChain s c x).rings = s.rings := rfl
@[simp] theorem setChain_reqs : (setChain s c x).reqs = s.reqs := rfl
@[simp] theorem setChain_nextReq : (setChain s c x).nextReq = s.nextReq := rfl
@[simp] theorem setChain_chainUse : (setChain s c x).chainUse = s.chainUse := rfl
@[simp] theorem setChain_echoUse : (setChain s c x).echoUse = s.echoUse := rfl
@[simp] theorem setChain_txns : (setChain s c x).txns = s.txns := rfl
@[simp] theorem setChain_bursts : (setChain s c x).bursts = s.bursts := rfl
@[simp] theorem setChain_vault : (setChain s c x).vault = s.vault := rfl
@[simp] theorem setChain_cache : (setChain s c x).cache = s.cache := rfl
@[simp] theorem setChain_rng : (setChain s c x).rng = s.rng := rfl
@[simp] theorem setChain_chans : (setChain s c x).chans = s.chans := rfl
@[simp] theorem setChain_timers : (setChain s c x).timers = s.timers := rfl
@[simp] theorem setChain_peer : (setChain s c x).peer = s.peer := rfl
@[simp] theorem setChain_lookup : (setChain s c x).lookup = s.lookup := rfl
@[simp] theorem setChain_cal : (setChain s c x).cal = s.cal := rfl
@[simp] theorem setChain_mgmt : (setChain s c x).mgmt = s.mgmt := rfl
@[simp] theorem setChain_nv : (setChain s c x).nv = s.nv := rfl
@[simp] theorem setChain_life : (setChain s c x).life = s.life := rfl
@[simp] theorem setChain_tap : (setChain s c x).tap = s.tap := rfl
end setChain

/-! ### setUnit -/

section setUnit
variable (s : State) (u : Nat) (x : UnitRec)
@[simp] theorem setUnit_pending : (setUnit s u x).pending = s.pending := rfl
@[simp] theorem setUnit_free : (setUnit s u x).free = s.free := rfl
@[simp] theorem setUnit_pins : (setUnit s u x).pins = s.pins := rfl
@[simp] theorem setUnit_bring : (setUnit s u x).bring = s.bring := rfl
@[simp] theorem setUnit_alarms : (setUnit s u x).alarms = s.alarms := rfl
@[simp] theorem setUnit_gens : (setUnit s u x).gens = s.gens := rfl
@[simp] theorem setUnit_sticky : (setUnit s u x).sticky = s.sticky := rfl
@[simp] theorem setUnit_raised : (setUnit s u x).raised = s.raised := rfl
@[simp] theorem setUnit_safe : (setUnit s u x).safe = s.safe := rfl
@[simp] theorem setUnit_ledgerR : (setUnit s u x).ledgerR = s.ledgerR := rfl
@[simp] theorem setUnit_ledgerC : (setUnit s u x).ledgerC = s.ledgerC := rfl
@[simp] theorem setUnit_irq : (setUnit s u x).irq = s.irq := rfl
@[simp] theorem setUnit_cfg : (setUnit s u x).cfg = s.cfg := rfl
@[simp] theorem setUnit_cnt : (setUnit s u x).cnt = s.cnt := rfl
@[simp] theorem setUnit_fstat : (setUnit s u x).fstat = s.fstat := rfl
@[simp] theorem setUnit_fns : (setUnit s u x).fns = s.fns := rfl
@[simp] theorem setUnit_rings : (setUnit s u x).rings = s.rings := rfl
@[simp] theorem setUnit_reqs : (setUnit s u x).reqs = s.reqs := rfl
@[simp] theorem setUnit_chains : (setUnit s u x).chains = s.chains := rfl
@[simp] theorem setUnit_nextReq : (setUnit s u x).nextReq = s.nextReq := rfl
@[simp] theorem setUnit_chainUse : (setUnit s u x).chainUse = s.chainUse := rfl
@[simp] theorem setUnit_echoUse : (setUnit s u x).echoUse = s.echoUse := rfl
@[simp] theorem setUnit_txns : (setUnit s u x).txns = s.txns := rfl
@[simp] theorem setUnit_bursts : (setUnit s u x).bursts = s.bursts := rfl
@[simp] theorem setUnit_vault : (setUnit s u x).vault = s.vault := rfl
@[simp] theorem setUnit_cache : (setUnit s u x).cache = s.cache := rfl
@[simp] theorem setUnit_rng : (setUnit s u x).rng = s.rng := rfl
@[simp] theorem setUnit_chans : (setUnit s u x).chans = s.chans := rfl
@[simp] theorem setUnit_timers : (setUnit s u x).timers = s.timers := rfl
@[simp] theorem setUnit_peer : (setUnit s u x).peer = s.peer := rfl
@[simp] theorem setUnit_lookup : (setUnit s u x).lookup = s.lookup := rfl
@[simp] theorem setUnit_cal : (setUnit s u x).cal = s.cal := rfl
@[simp] theorem setUnit_mgmt : (setUnit s u x).mgmt = s.mgmt := rfl
@[simp] theorem setUnit_nv : (setUnit s u x).nv = s.nv := rfl
@[simp] theorem setUnit_life : (setUnit s u x).life = s.life := rfl
@[simp] theorem setUnit_tap : (setUnit s u x).tap = s.tap := rfl
end setUnit

/-! ### setGen -/

section setGen
variable (s : State) (g : Nat) (x : GenRec)
@[simp] theorem setGen_pending : (setGen s g x).pending = s.pending := rfl
@[simp] theorem setGen_free : (setGen s g x).free = s.free := rfl
@[simp] theorem setGen_pins : (setGen s g x).pins = s.pins := rfl
@[simp] theorem setGen_bring : (setGen s g x).bring = s.bring := rfl
@[simp] theorem setGen_alarms : (setGen s g x).alarms = s.alarms := rfl
@[simp] theorem setGen_units : (setGen s g x).units = s.units := rfl
@[simp] theorem setGen_sticky : (setGen s g x).sticky = s.sticky := rfl
@[simp] theorem setGen_raised : (setGen s g x).raised = s.raised := rfl
@[simp] theorem setGen_safe : (setGen s g x).safe = s.safe := rfl
@[simp] theorem setGen_ledgerR : (setGen s g x).ledgerR = s.ledgerR := rfl
@[simp] theorem setGen_ledgerC : (setGen s g x).ledgerC = s.ledgerC := rfl
@[simp] theorem setGen_irq : (setGen s g x).irq = s.irq := rfl
@[simp] theorem setGen_cfg : (setGen s g x).cfg = s.cfg := rfl
@[simp] theorem setGen_cnt : (setGen s g x).cnt = s.cnt := rfl
@[simp] theorem setGen_fstat : (setGen s g x).fstat = s.fstat := rfl
@[simp] theorem setGen_fns : (setGen s g x).fns = s.fns := rfl
@[simp] theorem setGen_rings : (setGen s g x).rings = s.rings := rfl
@[simp] theorem setGen_reqs : (setGen s g x).reqs = s.reqs := rfl
@[simp] theorem setGen_chains : (setGen s g x).chains = s.chains := rfl
@[simp] theorem setGen_nextReq : (setGen s g x).nextReq = s.nextReq := rfl
@[simp] theorem setGen_chainUse : (setGen s g x).chainUse = s.chainUse := rfl
@[simp] theorem setGen_echoUse : (setGen s g x).echoUse = s.echoUse := rfl
@[simp] theorem setGen_txns : (setGen s g x).txns = s.txns := rfl
@[simp] theorem setGen_bursts : (setGen s g x).bursts = s.bursts := rfl
@[simp] theorem setGen_vault : (setGen s g x).vault = s.vault := rfl
@[simp] theorem setGen_cache : (setGen s g x).cache = s.cache := rfl
@[simp] theorem setGen_rng : (setGen s g x).rng = s.rng := rfl
@[simp] theorem setGen_chans : (setGen s g x).chans = s.chans := rfl
@[simp] theorem setGen_timers : (setGen s g x).timers = s.timers := rfl
@[simp] theorem setGen_peer : (setGen s g x).peer = s.peer := rfl
@[simp] theorem setGen_lookup : (setGen s g x).lookup = s.lookup := rfl
@[simp] theorem setGen_cal : (setGen s g x).cal = s.cal := rfl
@[simp] theorem setGen_mgmt : (setGen s g x).mgmt = s.mgmt := rfl
@[simp] theorem setGen_nv : (setGen s g x).nv = s.nv := rfl
@[simp] theorem setGen_life : (setGen s g x).life = s.life := rfl
@[simp] theorem setGen_tap : (setGen s g x).tap = s.tap := rfl
end setGen

/-! ### setStat -/

section setStat
variable (s : State) (f : Nat) (x : FnStats)
@[simp] theorem setStat_pending : (setStat s f x).pending = s.pending := rfl
@[simp] theorem setStat_free : (setStat s f x).free = s.free := rfl
@[simp] theorem setStat_pins : (setStat s f x).pins = s.pins := rfl
@[simp] theorem setStat_bring : (setStat s f x).bring = s.bring := rfl
@[simp] theorem setStat_alarms : (setStat s f x).alarms = s.alarms := rfl
@[simp] theorem setStat_units : (setStat s f x).units = s.units := rfl
@[simp] theorem setStat_gens : (setStat s f x).gens = s.gens := rfl
@[simp] theorem setStat_sticky : (setStat s f x).sticky = s.sticky := rfl
@[simp] theorem setStat_raised : (setStat s f x).raised = s.raised := rfl
@[simp] theorem setStat_safe : (setStat s f x).safe = s.safe := rfl
@[simp] theorem setStat_ledgerR : (setStat s f x).ledgerR = s.ledgerR := rfl
@[simp] theorem setStat_ledgerC : (setStat s f x).ledgerC = s.ledgerC := rfl
@[simp] theorem setStat_irq : (setStat s f x).irq = s.irq := rfl
@[simp] theorem setStat_cfg : (setStat s f x).cfg = s.cfg := rfl
@[simp] theorem setStat_cnt : (setStat s f x).cnt = s.cnt := rfl
@[simp] theorem setStat_fns : (setStat s f x).fns = s.fns := rfl
@[simp] theorem setStat_rings : (setStat s f x).rings = s.rings := rfl
@[simp] theorem setStat_reqs : (setStat s f x).reqs = s.reqs := rfl
@[simp] theorem setStat_chains : (setStat s f x).chains = s.chains := rfl
@[simp] theorem setStat_nextReq : (setStat s f x).nextReq = s.nextReq := rfl
@[simp] theorem setStat_chainUse : (setStat s f x).chainUse = s.chainUse := rfl
@[simp] theorem setStat_echoUse : (setStat s f x).echoUse = s.echoUse := rfl
@[simp] theorem setStat_txns : (setStat s f x).txns = s.txns := rfl
@[simp] theorem setStat_bursts : (setStat s f x).bursts = s.bursts := rfl
@[simp] theorem setStat_vault : (setStat s f x).vault = s.vault := rfl
@[simp] theorem setStat_cache : (setStat s f x).cache = s.cache := rfl
@[simp] theorem setStat_rng : (setStat s f x).rng = s.rng := rfl
@[simp] theorem setStat_chans : (setStat s f x).chans = s.chans := rfl
@[simp] theorem setStat_timers : (setStat s f x).timers = s.timers := rfl
@[simp] theorem setStat_peer : (setStat s f x).peer = s.peer := rfl
@[simp] theorem setStat_lookup : (setStat s f x).lookup = s.lookup := rfl
@[simp] theorem setStat_cal : (setStat s f x).cal = s.cal := rfl
@[simp] theorem setStat_mgmt : (setStat s f x).mgmt = s.mgmt := rfl
@[simp] theorem setStat_nv : (setStat s f x).nv = s.nv := rfl
@[simp] theorem setStat_life : (setStat s f x).life = s.life := rfl
@[simp] theorem setStat_tap : (setStat s f x).tap = s.tap := rfl
end setStat

/-! ### setChan -/

section setChan
variable (s : State) (c : Nat) (x : ChanRec)
@[simp] theorem setChan_pending : (setChan s c x).pending = s.pending := rfl
@[simp] theorem setChan_free : (setChan s c x).free = s.free := rfl
@[simp] theorem setChan_pins : (setChan s c x).pins = s.pins := rfl
@[simp] theorem setChan_bring : (setChan s c x).bring = s.bring := rfl
@[simp] theorem setChan_alarms : (setChan s c x).alarms = s.alarms := rfl
@[simp] theorem setChan_units : (setChan s c x).units = s.units := rfl
@[simp] theorem setChan_gens : (setChan s c x).gens = s.gens := rfl
@[simp] theorem setChan_sticky : (setChan s c x).sticky = s.sticky := rfl
@[simp] theorem setChan_raised : (setChan s c x).raised = s.raised := rfl
@[simp] theorem setChan_safe : (setChan s c x).safe = s.safe := rfl
@[simp] theorem setChan_ledgerR : (setChan s c x).ledgerR = s.ledgerR := rfl
@[simp] theorem setChan_ledgerC : (setChan s c x).ledgerC = s.ledgerC := rfl
@[simp] theorem setChan_irq : (setChan s c x).irq = s.irq := rfl
@[simp] theorem setChan_cfg : (setChan s c x).cfg = s.cfg := rfl
@[simp] theorem setChan_cnt : (setChan s c x).cnt = s.cnt := rfl
@[simp] theorem setChan_fstat : (setChan s c x).fstat = s.fstat := rfl
@[simp] theorem setChan_fns : (setChan s c x).fns = s.fns := rfl
@[simp] theorem setChan_rings : (setChan s c x).rings = s.rings := rfl
@[simp] theorem setChan_reqs : (setChan s c x).reqs = s.reqs := rfl
@[simp] theorem setChan_chains : (setChan s c x).chains = s.chains := rfl
@[simp] theorem setChan_nextReq : (setChan s c x).nextReq = s.nextReq := rfl
@[simp] theorem setChan_chainUse : (setChan s c x).chainUse = s.chainUse := rfl
@[simp] theorem setChan_echoUse : (setChan s c x).echoUse = s.echoUse := rfl
@[simp] theorem setChan_txns : (setChan s c x).txns = s.txns := rfl
@[simp] theorem setChan_bursts : (setChan s c x).bursts = s.bursts := rfl
@[simp] theorem setChan_vault : (setChan s c x).vault = s.vault := rfl
@[simp] theorem setChan_cache : (setChan s c x).cache = s.cache := rfl
@[simp] theorem setChan_rng : (setChan s c x).rng = s.rng := rfl
@[simp] theorem setChan_timers : (setChan s c x).timers = s.timers := rfl
@[simp] theorem setChan_peer : (setChan s c x).peer = s.peer := rfl
@[simp] theorem setChan_lookup : (setChan s c x).lookup = s.lookup := rfl
@[simp] theorem setChan_cal : (setChan s c x).cal = s.cal := rfl
@[simp] theorem setChan_mgmt : (setChan s c x).mgmt = s.mgmt := rfl
@[simp] theorem setChan_nv : (setChan s c x).nv = s.nv := rfl
@[simp] theorem setChan_life : (setChan s c x).life = s.life := rfl
@[simp] theorem setChan_tap : (setChan s c x).tap = s.tap := rfl
end setChan

/-! ### setTimer -/

section setTimer
variable (s : State) (t : Nat) (x : TimerRec)
@[simp] theorem setTimer_pending : (setTimer s t x).pending = s.pending := rfl
@[simp] theorem setTimer_free : (setTimer s t x).free = s.free := rfl
@[simp] theorem setTimer_pins : (setTimer s t x).pins = s.pins := rfl
@[simp] theorem setTimer_bring : (setTimer s t x).bring = s.bring := rfl
@[simp] theorem setTimer_alarms : (setTimer s t x).alarms = s.alarms := rfl
@[simp] theorem setTimer_units : (setTimer s t x).units = s.units := rfl
@[simp] theorem setTimer_gens : (setTimer s t x).gens = s.gens := rfl
@[simp] theorem setTimer_sticky : (setTimer s t x).sticky = s.sticky := rfl
@[simp] theorem setTimer_raised : (setTimer s t x).raised = s.raised := rfl
@[simp] theorem setTimer_safe : (setTimer s t x).safe = s.safe := rfl
@[simp] theorem setTimer_ledgerR : (setTimer s t x).ledgerR = s.ledgerR := rfl
@[simp] theorem setTimer_ledgerC : (setTimer s t x).ledgerC = s.ledgerC := rfl
@[simp] theorem setTimer_irq : (setTimer s t x).irq = s.irq := rfl
@[simp] theorem setTimer_cfg : (setTimer s t x).cfg = s.cfg := rfl
@[simp] theorem setTimer_cnt : (setTimer s t x).cnt = s.cnt := rfl
@[simp] theorem setTimer_fstat : (setTimer s t x).fstat = s.fstat := rfl
@[simp] theorem setTimer_fns : (setTimer s t x).fns = s.fns := rfl
@[simp] theorem setTimer_rings : (setTimer s t x).rings = s.rings := rfl
@[simp] theorem setTimer_reqs : (setTimer s t x).reqs = s.reqs := rfl
@[simp] theorem setTimer_chains : (setTimer s t x).chains = s.chains := rfl
@[simp] theorem setTimer_nextReq : (setTimer s t x).nextReq = s.nextReq := rfl
@[simp] theorem setTimer_chainUse : (setTimer s t x).chainUse = s.chainUse := rfl
@[simp] theorem setTimer_echoUse : (setTimer s t x).echoUse = s.echoUse := rfl
@[simp] theorem setTimer_txns : (setTimer s t x).txns = s.txns := rfl
@[simp] theorem setTimer_bursts : (setTimer s t x).bursts = s.bursts := rfl
@[simp] theorem setTimer_vault : (setTimer s t x).vault = s.vault := rfl
@[simp] theorem setTimer_cache : (setTimer s t x).cache = s.cache := rfl
@[simp] theorem setTimer_rng : (setTimer s t x).rng = s.rng := rfl
@[simp] theorem setTimer_chans : (setTimer s t x).chans = s.chans := rfl
@[simp] theorem setTimer_peer : (setTimer s t x).peer = s.peer := rfl
@[simp] theorem setTimer_lookup : (setTimer s t x).lookup = s.lookup := rfl
@[simp] theorem setTimer_cal : (setTimer s t x).cal = s.cal := rfl
@[simp] theorem setTimer_mgmt : (setTimer s t x).mgmt = s.mgmt := rfl
@[simp] theorem setTimer_nv : (setTimer s t x).nv = s.nv := rfl
@[simp] theorem setTimer_life : (setTimer s t x).life = s.life := rfl
@[simp] theorem setTimer_tap : (setTimer s t x).tap = s.tap := rfl
end setTimer

/-! ### setSlot -/

section setSlot
variable (s : State) (i : Nat) (x : SlotRec)
@[simp] theorem setSlot_pending : (setSlot s i x).pending = s.pending := rfl
@[simp] theorem setSlot_free : (setSlot s i x).free = s.free := rfl
@[simp] theorem setSlot_pins : (setSlot s i x).pins = s.pins := rfl
@[simp] theorem setSlot_bring : (setSlot s i x).bring = s.bring := rfl
@[simp] theorem setSlot_alarms : (setSlot s i x).alarms = s.alarms := rfl
@[simp] theorem setSlot_units : (setSlot s i x).units = s.units := rfl
@[simp] theorem setSlot_gens : (setSlot s i x).gens = s.gens := rfl
@[simp] theorem setSlot_sticky : (setSlot s i x).sticky = s.sticky := rfl
@[simp] theorem setSlot_raised : (setSlot s i x).raised = s.raised := rfl
@[simp] theorem setSlot_safe : (setSlot s i x).safe = s.safe := rfl
@[simp] theorem setSlot_ledgerR : (setSlot s i x).ledgerR = s.ledgerR := rfl
@[simp] theorem setSlot_ledgerC : (setSlot s i x).ledgerC = s.ledgerC := rfl
@[simp] theorem setSlot_irq : (setSlot s i x).irq = s.irq := rfl
@[simp] theorem setSlot_cfg : (setSlot s i x).cfg = s.cfg := rfl
@[simp] theorem setSlot_cnt : (setSlot s i x).cnt = s.cnt := rfl
@[simp] theorem setSlot_fstat : (setSlot s i x).fstat = s.fstat := rfl
@[simp] theorem setSlot_fns : (setSlot s i x).fns = s.fns := rfl
@[simp] theorem setSlot_rings : (setSlot s i x).rings = s.rings := rfl
@[simp] theorem setSlot_reqs : (setSlot s i x).reqs = s.reqs := rfl
@[simp] theorem setSlot_chains : (setSlot s i x).chains = s.chains := rfl
@[simp] theorem setSlot_nextReq : (setSlot s i x).nextReq = s.nextReq := rfl
@[simp] theorem setSlot_chainUse : (setSlot s i x).chainUse = s.chainUse := rfl
@[simp] theorem setSlot_echoUse : (setSlot s i x).echoUse = s.echoUse := rfl
@[simp] theorem setSlot_txns : (setSlot s i x).txns = s.txns := rfl
@[simp] theorem setSlot_bursts : (setSlot s i x).bursts = s.bursts := rfl
@[simp] theorem setSlot_cache : (setSlot s i x).cache = s.cache := rfl
@[simp] theorem setSlot_rng : (setSlot s i x).rng = s.rng := rfl
@[simp] theorem setSlot_chans : (setSlot s i x).chans = s.chans := rfl
@[simp] theorem setSlot_timers : (setSlot s i x).timers = s.timers := rfl
@[simp] theorem setSlot_peer : (setSlot s i x).peer = s.peer := rfl
@[simp] theorem setSlot_lookup : (setSlot s i x).lookup = s.lookup := rfl
@[simp] theorem setSlot_cal : (setSlot s i x).cal = s.cal := rfl
@[simp] theorem setSlot_mgmt : (setSlot s i x).mgmt = s.mgmt := rfl
@[simp] theorem setSlot_nv : (setSlot s i x).nv = s.nv := rfl
@[simp] theorem setSlot_life : (setSlot s i x).life = s.life := rfl
@[simp] theorem setSlot_tap : (setSlot s i x).tap = s.tap := rfl
end setSlot

/-! ### setMail -/

section setMail
variable (s : State) (f : Nat) (x : Mail)
@[simp] theorem setMail_pending : (setMail s f x).pending = s.pending := rfl
@[simp] theorem setMail_free : (setMail s f x).free = s.free := rfl
@[simp] theorem setMail_pins : (setMail s f x).pins = s.pins := rfl
@[simp] theorem setMail_bring : (setMail s f x).bring = s.bring := rfl
@[simp] theorem setMail_alarms : (setMail s f x).alarms = s.alarms := rfl
@[simp] theorem setMail_units : (setMail s f x).units = s.units := rfl
@[simp] theorem setMail_gens : (setMail s f x).gens = s.gens := rfl
@[simp] theorem setMail_sticky : (setMail s f x).sticky = s.sticky := rfl
@[simp] theorem setMail_raised : (setMail s f x).raised = s.raised := rfl
@[simp] theorem setMail_safe : (setMail s f x).safe = s.safe := rfl
@[simp] theorem setMail_ledgerR : (setMail s f x).ledgerR = s.ledgerR := rfl
@[simp] theorem setMail_ledgerC : (setMail s f x).ledgerC = s.ledgerC := rfl
@[simp] theorem setMail_irq : (setMail s f x).irq = s.irq := rfl
@[simp] theorem setMail_cfg : (setMail s f x).cfg = s.cfg := rfl
@[simp] theorem setMail_cnt : (setMail s f x).cnt = s.cnt := rfl
@[simp] theorem setMail_fstat : (setMail s f x).fstat = s.fstat := rfl
@[simp] theorem setMail_fns : (setMail s f x).fns = s.fns := rfl
@[simp] theorem setMail_rings : (setMail s f x).rings = s.rings := rfl
@[simp] theorem setMail_reqs : (setMail s f x).reqs = s.reqs := rfl
@[simp] theorem setMail_chains : (setMail s f x).chains = s.chains := rfl
@[simp] theorem setMail_nextReq : (setMail s f x).nextReq = s.nextReq := rfl
@[simp] theorem setMail_chainUse : (setMail s f x).chainUse = s.chainUse := rfl
@[simp] theorem setMail_echoUse : (setMail s f x).echoUse = s.echoUse := rfl
@[simp] theorem setMail_txns : (setMail s f x).txns = s.txns := rfl
@[simp] theorem setMail_bursts : (setMail s f x).bursts = s.bursts := rfl
@[simp] theorem setMail_vault : (setMail s f x).vault = s.vault := rfl
@[simp] theorem setMail_cache : (setMail s f x).cache = s.cache := rfl
@[simp] theorem setMail_rng : (setMail s f x).rng = s.rng := rfl
@[simp] theorem setMail_chans : (setMail s f x).chans = s.chans := rfl
@[simp] theorem setMail_timers : (setMail s f x).timers = s.timers := rfl
@[simp] theorem setMail_peer : (setMail s f x).peer = s.peer := rfl
@[simp] theorem setMail_lookup : (setMail s f x).lookup = s.lookup := rfl
@[simp] theorem setMail_cal : (setMail s f x).cal = s.cal := rfl
@[simp] theorem setMail_nv : (setMail s f x).nv = s.nv := rfl
@[simp] theorem setMail_life : (setMail s f x).life = s.life := rfl
@[simp] theorem setMail_tap : (setMail s f x).tap = s.tap := rfl
end setMail

/-! ### arrive -/

section arrive
variable (s : State) (p : Principal)
@[simp] theorem arrive_pending : (arrive s p).pending = s.pending := rfl
@[simp] theorem arrive_free : (arrive s p).free = s.free := rfl
@[simp] theorem arrive_pins : (arrive s p).pins = s.pins := rfl
@[simp] theorem arrive_bring : (arrive s p).bring = s.bring := rfl
@[simp] theorem arrive_alarms : (arrive s p).alarms = s.alarms := rfl
@[simp] theorem arrive_units : (arrive s p).units = s.units := rfl
@[simp] theorem arrive_gens : (arrive s p).gens = s.gens := rfl
@[simp] theorem arrive_sticky : (arrive s p).sticky = s.sticky := rfl
@[simp] theorem arrive_raised : (arrive s p).raised = s.raised := rfl
@[simp] theorem arrive_safe : (arrive s p).safe = s.safe := rfl
@[simp] theorem arrive_ledgerR : (arrive s p).ledgerR = s.ledgerR := rfl
@[simp] theorem arrive_ledgerC : (arrive s p).ledgerC = s.ledgerC := rfl
@[simp] theorem arrive_irq : (arrive s p).irq = s.irq := rfl
@[simp] theorem arrive_cfg : (arrive s p).cfg = s.cfg := rfl
@[simp] theorem arrive_cnt : (arrive s p).cnt = s.cnt := rfl
@[simp] theorem arrive_fstat : (arrive s p).fstat = s.fstat := rfl
@[simp] theorem arrive_fns : (arrive s p).fns = s.fns := rfl
@[simp] theorem arrive_rings : (arrive s p).rings = s.rings := rfl
@[simp] theorem arrive_reqs : (arrive s p).reqs = s.reqs := rfl
@[simp] theorem arrive_chains : (arrive s p).chains = s.chains := rfl
@[simp] theorem arrive_nextReq : (arrive s p).nextReq = s.nextReq := rfl
@[simp] theorem arrive_chainUse : (arrive s p).chainUse = s.chainUse := rfl
@[simp] theorem arrive_echoUse : (arrive s p).echoUse = s.echoUse := rfl
@[simp] theorem arrive_txns : (arrive s p).txns = s.txns := rfl
@[simp] theorem arrive_bursts : (arrive s p).bursts = s.bursts := rfl
@[simp] theorem arrive_vault : (arrive s p).vault = s.vault := rfl
@[simp] theorem arrive_cache : (arrive s p).cache = s.cache := rfl
@[simp] theorem arrive_rng : (arrive s p).rng = s.rng := rfl
@[simp] theorem arrive_chans : (arrive s p).chans = s.chans := rfl
@[simp] theorem arrive_timers : (arrive s p).timers = s.timers := rfl
@[simp] theorem arrive_peer : (arrive s p).peer = s.peer := rfl
@[simp] theorem arrive_lookup : (arrive s p).lookup = s.lookup := rfl
@[simp] theorem arrive_cal : (arrive s p).cal = s.cal := rfl
@[simp] theorem arrive_nv : (arrive s p).nv = s.nv := rfl
@[simp] theorem arrive_life : (arrive s p).life = s.life := rfl
@[simp] theorem arrive_tap : (arrive s p).tap = s.tap := rfl
end arrive

/-! ### leave -/

section leave
variable (s : State) (p : Principal)
@[simp] theorem leave_pending : (leave s p).pending = s.pending := rfl
@[simp] theorem leave_free : (leave s p).free = s.free := rfl
@[simp] theorem leave_pins : (leave s p).pins = s.pins := rfl
@[simp] theorem leave_bring : (leave s p).bring = s.bring := rfl
@[simp] theorem leave_alarms : (leave s p).alarms = s.alarms := rfl
@[simp] theorem leave_units : (leave s p).units = s.units := rfl
@[simp] theorem leave_gens : (leave s p).gens = s.gens := rfl
@[simp] theorem leave_sticky : (leave s p).sticky = s.sticky := rfl
@[simp] theorem leave_raised : (leave s p).raised = s.raised := rfl
@[simp] theorem leave_safe : (leave s p).safe = s.safe := rfl
@[simp] theorem leave_ledgerR : (leave s p).ledgerR = s.ledgerR := rfl
@[simp] theorem leave_ledgerC : (leave s p).ledgerC = s.ledgerC := rfl
@[simp] theorem leave_irq : (leave s p).irq = s.irq := rfl
@[simp] theorem leave_cfg : (leave s p).cfg = s.cfg := rfl
@[simp] theorem leave_cnt : (leave s p).cnt = s.cnt := rfl
@[simp] theorem leave_fstat : (leave s p).fstat = s.fstat := rfl
@[simp] theorem leave_fns : (leave s p).fns = s.fns := rfl
@[simp] theorem leave_rings : (leave s p).rings = s.rings := rfl
@[simp] theorem leave_reqs : (leave s p).reqs = s.reqs := rfl
@[simp] theorem leave_chains : (leave s p).chains = s.chains := rfl
@[simp] theorem leave_nextReq : (leave s p).nextReq = s.nextReq := rfl
@[simp] theorem leave_chainUse : (leave s p).chainUse = s.chainUse := rfl
@[simp] theorem leave_echoUse : (leave s p).echoUse = s.echoUse := rfl
@[simp] theorem leave_txns : (leave s p).txns = s.txns := rfl
@[simp] theorem leave_bursts : (leave s p).bursts = s.bursts := rfl
@[simp] theorem leave_vault : (leave s p).vault = s.vault := rfl
@[simp] theorem leave_cache : (leave s p).cache = s.cache := rfl
@[simp] theorem leave_rng : (leave s p).rng = s.rng := rfl
@[simp] theorem leave_chans : (leave s p).chans = s.chans := rfl
@[simp] theorem leave_timers : (leave s p).timers = s.timers := rfl
@[simp] theorem leave_peer : (leave s p).peer = s.peer := rfl
@[simp] theorem leave_lookup : (leave s p).lookup = s.lookup := rfl
@[simp] theorem leave_cal : (leave s p).cal = s.cal := rfl
@[simp] theorem leave_nv : (leave s p).nv = s.nv := rfl
@[simp] theorem leave_life : (leave s p).life = s.life := rfl
@[simp] theorem leave_tap : (leave s p).tap = s.tap := rfl
end leave

/-! ### setAcct -/

section setAcct
variable (s : State) (k : Nat) (x : Account)
@[simp] theorem setAcct_pending : (setAcct s k x).pending = s.pending := rfl
@[simp] theorem setAcct_free : (setAcct s k x).free = s.free := rfl
@[simp] theorem setAcct_pins : (setAcct s k x).pins = s.pins := rfl
@[simp] theorem setAcct_bring : (setAcct s k x).bring = s.bring := rfl
@[simp] theorem setAcct_alarms : (setAcct s k x).alarms = s.alarms := rfl
@[simp] theorem setAcct_units : (setAcct s k x).units = s.units := rfl
@[simp] theorem setAcct_gens : (setAcct s k x).gens = s.gens := rfl
@[simp] theorem setAcct_sticky : (setAcct s k x).sticky = s.sticky := rfl
@[simp] theorem setAcct_raised : (setAcct s k x).raised = s.raised := rfl
@[simp] theorem setAcct_safe : (setAcct s k x).safe = s.safe := rfl
@[simp] theorem setAcct_ledgerR : (setAcct s k x).ledgerR = s.ledgerR := rfl
@[simp] theorem setAcct_ledgerC : (setAcct s k x).ledgerC = s.ledgerC := rfl
@[simp] theorem setAcct_irq : (setAcct s k x).irq = s.irq := rfl
@[simp] theorem setAcct_cfg : (setAcct s k x).cfg = s.cfg := rfl
@[simp] theorem setAcct_cnt : (setAcct s k x).cnt = s.cnt := rfl
@[simp] theorem setAcct_fstat : (setAcct s k x).fstat = s.fstat := rfl
@[simp] theorem setAcct_fns : (setAcct s k x).fns = s.fns := rfl
@[simp] theorem setAcct_rings : (setAcct s k x).rings = s.rings := rfl
@[simp] theorem setAcct_reqs : (setAcct s k x).reqs = s.reqs := rfl
@[simp] theorem setAcct_chains : (setAcct s k x).chains = s.chains := rfl
@[simp] theorem setAcct_nextReq : (setAcct s k x).nextReq = s.nextReq := rfl
@[simp] theorem setAcct_chainUse : (setAcct s k x).chainUse = s.chainUse := rfl
@[simp] theorem setAcct_echoUse : (setAcct s k x).echoUse = s.echoUse := rfl
@[simp] theorem setAcct_txns : (setAcct s k x).txns = s.txns := rfl
@[simp] theorem setAcct_bursts : (setAcct s k x).bursts = s.bursts := rfl
@[simp] theorem setAcct_vault : (setAcct s k x).vault = s.vault := rfl
@[simp] theorem setAcct_cache : (setAcct s k x).cache = s.cache := rfl
@[simp] theorem setAcct_rng : (setAcct s k x).rng = s.rng := rfl
@[simp] theorem setAcct_chans : (setAcct s k x).chans = s.chans := rfl
@[simp] theorem setAcct_timers : (setAcct s k x).timers = s.timers := rfl
@[simp] theorem setAcct_peer : (setAcct s k x).peer = s.peer := rfl
@[simp] theorem setAcct_lookup : (setAcct s k x).lookup = s.lookup := rfl
@[simp] theorem setAcct_mgmt : (setAcct s k x).mgmt = s.mgmt := rfl
@[simp] theorem setAcct_nv : (setAcct s k x).nv = s.nv := rfl
@[simp] theorem setAcct_life : (setAcct s k x).life = s.life := rfl
@[simp] theorem setAcct_tap : (setAcct s k x).tap = s.tap := rfl
end setAcct

/-! ### setNvRec -/

section setNvRec
variable (s : State) (k : Nat) (x : NvRec)
@[simp] theorem setNvRec_pending : (setNvRec s k x).pending = s.pending := rfl
@[simp] theorem setNvRec_free : (setNvRec s k x).free = s.free := rfl
@[simp] theorem setNvRec_pins : (setNvRec s k x).pins = s.pins := rfl
@[simp] theorem setNvRec_bring : (setNvRec s k x).bring = s.bring := rfl
@[simp] theorem setNvRec_alarms : (setNvRec s k x).alarms = s.alarms := rfl
@[simp] theorem setNvRec_units : (setNvRec s k x).units = s.units := rfl
@[simp] theorem setNvRec_gens : (setNvRec s k x).gens = s.gens := rfl
@[simp] theorem setNvRec_sticky : (setNvRec s k x).sticky = s.sticky := rfl
@[simp] theorem setNvRec_raised : (setNvRec s k x).raised = s.raised := rfl
@[simp] theorem setNvRec_safe : (setNvRec s k x).safe = s.safe := rfl
@[simp] theorem setNvRec_ledgerR : (setNvRec s k x).ledgerR = s.ledgerR := rfl
@[simp] theorem setNvRec_ledgerC : (setNvRec s k x).ledgerC = s.ledgerC := rfl
@[simp] theorem setNvRec_irq : (setNvRec s k x).irq = s.irq := rfl
@[simp] theorem setNvRec_cfg : (setNvRec s k x).cfg = s.cfg := rfl
@[simp] theorem setNvRec_cnt : (setNvRec s k x).cnt = s.cnt := rfl
@[simp] theorem setNvRec_fstat : (setNvRec s k x).fstat = s.fstat := rfl
@[simp] theorem setNvRec_fns : (setNvRec s k x).fns = s.fns := rfl
@[simp] theorem setNvRec_rings : (setNvRec s k x).rings = s.rings := rfl
@[simp] theorem setNvRec_reqs : (setNvRec s k x).reqs = s.reqs := rfl
@[simp] theorem setNvRec_chains : (setNvRec s k x).chains = s.chains := rfl
@[simp] theorem setNvRec_nextReq : (setNvRec s k x).nextReq = s.nextReq := rfl
@[simp] theorem setNvRec_chainUse : (setNvRec s k x).chainUse = s.chainUse := rfl
@[simp] theorem setNvRec_echoUse : (setNvRec s k x).echoUse = s.echoUse := rfl
@[simp] theorem setNvRec_txns : (setNvRec s k x).txns = s.txns := rfl
@[simp] theorem setNvRec_bursts : (setNvRec s k x).bursts = s.bursts := rfl
@[simp] theorem setNvRec_vault : (setNvRec s k x).vault = s.vault := rfl
@[simp] theorem setNvRec_cache : (setNvRec s k x).cache = s.cache := rfl
@[simp] theorem setNvRec_rng : (setNvRec s k x).rng = s.rng := rfl
@[simp] theorem setNvRec_chans : (setNvRec s k x).chans = s.chans := rfl
@[simp] theorem setNvRec_timers : (setNvRec s k x).timers = s.timers := rfl
@[simp] theorem setNvRec_peer : (setNvRec s k x).peer = s.peer := rfl
@[simp] theorem setNvRec_lookup : (setNvRec s k x).lookup = s.lookup := rfl
@[simp] theorem setNvRec_cal : (setNvRec s k x).cal = s.cal := rfl
@[simp] theorem setNvRec_mgmt : (setNvRec s k x).mgmt = s.mgmt := rfl
@[simp] theorem setNvRec_life : (setNvRec s k x).life = s.life := rfl
@[simp] theorem setNvRec_tap : (setNvRec s k x).tap = s.tap := rfl
end setNvRec

/-! ### Updates of one field -/

section one
variable (s : State) (n : Nat)
@[simp] theorem useFree_pending : (useFree s n).pending = s.pending := rfl
@[simp] theorem useFree_pins : (useFree s n).pins = s.pins := rfl
@[simp] theorem useFree_bring : (useFree s n).bring = s.bring := rfl
@[simp] theorem useFree_alarms : (useFree s n).alarms = s.alarms := rfl
@[simp] theorem useFree_units : (useFree s n).units = s.units := rfl
@[simp] theorem useFree_gens : (useFree s n).gens = s.gens := rfl
@[simp] theorem useFree_sticky : (useFree s n).sticky = s.sticky := rfl
@[simp] theorem useFree_raised : (useFree s n).raised = s.raised := rfl
@[simp] theorem useFree_safe : (useFree s n).safe = s.safe := rfl
@[simp] theorem useFree_ledgerR : (useFree s n).ledgerR = s.ledgerR := rfl
@[simp] theorem useFree_ledgerC : (useFree s n).ledgerC = s.ledgerC := rfl
@[simp] theorem useFree_irq : (useFree s n).irq = s.irq := rfl
@[simp] theorem useFree_cfg : (useFree s n).cfg = s.cfg := rfl
@[simp] theorem useFree_cnt : (useFree s n).cnt = s.cnt := rfl
@[simp] theorem useFree_fstat : (useFree s n).fstat = s.fstat := rfl
@[simp] theorem useFree_fns : (useFree s n).fns = s.fns := rfl
@[simp] theorem useFree_rings : (useFree s n).rings = s.rings := rfl
@[simp] theorem useFree_reqs : (useFree s n).reqs = s.reqs := rfl
@[simp] theorem useFree_chains : (useFree s n).chains = s.chains := rfl
@[simp] theorem useFree_nextReq : (useFree s n).nextReq = s.nextReq := rfl
@[simp] theorem useFree_chainUse : (useFree s n).chainUse = s.chainUse := rfl
@[simp] theorem useFree_echoUse : (useFree s n).echoUse = s.echoUse := rfl
@[simp] theorem useFree_txns : (useFree s n).txns = s.txns := rfl
@[simp] theorem useFree_bursts : (useFree s n).bursts = s.bursts := rfl
@[simp] theorem useFree_vault : (useFree s n).vault = s.vault := rfl
@[simp] theorem useFree_cache : (useFree s n).cache = s.cache := rfl
@[simp] theorem useFree_rng : (useFree s n).rng = s.rng := rfl
@[simp] theorem useFree_chans : (useFree s n).chans = s.chans := rfl
@[simp] theorem useFree_timers : (useFree s n).timers = s.timers := rfl
@[simp] theorem useFree_peer : (useFree s n).peer = s.peer := rfl
@[simp] theorem useFree_lookup : (useFree s n).lookup = s.lookup := rfl
@[simp] theorem useFree_cal : (useFree s n).cal = s.cal := rfl
@[simp] theorem useFree_mgmt : (useFree s n).mgmt = s.mgmt := rfl
@[simp] theorem useFree_nv : (useFree s n).nv = s.nv := rfl
@[simp] theorem useFree_life : (useFree s n).life = s.life := rfl
@[simp] theorem useFree_tap : (useFree s n).tap = s.tap := rfl
@[simp] theorem raiseSrc_pending : (raiseSrc s n).pending = s.pending := rfl
@[simp] theorem raiseSrc_free : (raiseSrc s n).free = s.free := rfl
@[simp] theorem raiseSrc_pins : (raiseSrc s n).pins = s.pins := rfl
@[simp] theorem raiseSrc_bring : (raiseSrc s n).bring = s.bring := rfl
@[simp] theorem raiseSrc_alarms : (raiseSrc s n).alarms = s.alarms := rfl
@[simp] theorem raiseSrc_units : (raiseSrc s n).units = s.units := rfl
@[simp] theorem raiseSrc_gens : (raiseSrc s n).gens = s.gens := rfl
@[simp] theorem raiseSrc_sticky : (raiseSrc s n).sticky = s.sticky := rfl
@[simp] theorem raiseSrc_safe : (raiseSrc s n).safe = s.safe := rfl
@[simp] theorem raiseSrc_ledgerR : (raiseSrc s n).ledgerR = s.ledgerR := rfl
@[simp] theorem raiseSrc_ledgerC : (raiseSrc s n).ledgerC = s.ledgerC := rfl
@[simp] theorem raiseSrc_irq : (raiseSrc s n).irq = s.irq := rfl
@[simp] theorem raiseSrc_cfg : (raiseSrc s n).cfg = s.cfg := rfl
@[simp] theorem raiseSrc_cnt : (raiseSrc s n).cnt = s.cnt := rfl
@[simp] theorem raiseSrc_fstat : (raiseSrc s n).fstat = s.fstat := rfl
@[simp] theorem raiseSrc_fns : (raiseSrc s n).fns = s.fns := rfl
@[simp] theorem raiseSrc_rings : (raiseSrc s n).rings = s.rings := rfl
@[simp] theorem raiseSrc_reqs : (raiseSrc s n).reqs = s.reqs := rfl
@[simp] theorem raiseSrc_chains : (raiseSrc s n).chains = s.chains := rfl
@[simp] theorem raiseSrc_nextReq : (raiseSrc s n).nextReq = s.nextReq := rfl
@[simp] theorem raiseSrc_chainUse : (raiseSrc s n).chainUse = s.chainUse := rfl
@[simp] theorem raiseSrc_echoUse : (raiseSrc s n).echoUse = s.echoUse := rfl
@[simp] theorem raiseSrc_txns : (raiseSrc s n).txns = s.txns := rfl
@[simp] theorem raiseSrc_bursts : (raiseSrc s n).bursts = s.bursts := rfl
@[simp] theorem raiseSrc_vault : (raiseSrc s n).vault = s.vault := rfl
@[simp] theorem raiseSrc_cache : (raiseSrc s n).cache = s.cache := rfl
@[simp] theorem raiseSrc_rng : (raiseSrc s n).rng = s.rng := rfl
@[simp] theorem raiseSrc_chans : (raiseSrc s n).chans = s.chans := rfl
@[simp] theorem raiseSrc_timers : (raiseSrc s n).timers = s.timers := rfl
@[simp] theorem raiseSrc_peer : (raiseSrc s n).peer = s.peer := rfl
@[simp] theorem raiseSrc_lookup : (raiseSrc s n).lookup = s.lookup := rfl
@[simp] theorem raiseSrc_cal : (raiseSrc s n).cal = s.cal := rfl
@[simp] theorem raiseSrc_mgmt : (raiseSrc s n).mgmt = s.mgmt := rfl
@[simp] theorem raiseSrc_nv : (raiseSrc s n).nv = s.nv := rfl
@[simp] theorem raiseSrc_life : (raiseSrc s n).life = s.life := rfl
@[simp] theorem raiseSrc_tap : (raiseSrc s n).tap = s.tap := rfl
@[simp] theorem drivePins_pending : (drivePins s).pending = s.pending := rfl
@[simp] theorem drivePins_free : (drivePins s).free = s.free := rfl
@[simp] theorem drivePins_bring : (drivePins s).bring = s.bring := rfl
@[simp] theorem drivePins_alarms : (drivePins s).alarms = s.alarms := rfl
@[simp] theorem drivePins_units : (drivePins s).units = s.units := rfl
@[simp] theorem drivePins_gens : (drivePins s).gens = s.gens := rfl
@[simp] theorem drivePins_sticky : (drivePins s).sticky = s.sticky := rfl
@[simp] theorem drivePins_raised : (drivePins s).raised = s.raised := rfl
@[simp] theorem drivePins_safe : (drivePins s).safe = s.safe := rfl
@[simp] theorem drivePins_ledgerR : (drivePins s).ledgerR = s.ledgerR := rfl
@[simp] theorem drivePins_ledgerC : (drivePins s).ledgerC = s.ledgerC := rfl
@[simp] theorem drivePins_irq : (drivePins s).irq = s.irq := rfl
@[simp] theorem drivePins_cfg : (drivePins s).cfg = s.cfg := rfl
@[simp] theorem drivePins_cnt : (drivePins s).cnt = s.cnt := rfl
@[simp] theorem drivePins_fstat : (drivePins s).fstat = s.fstat := rfl
@[simp] theorem drivePins_fns : (drivePins s).fns = s.fns := rfl
@[simp] theorem drivePins_rings : (drivePins s).rings = s.rings := rfl
@[simp] theorem drivePins_reqs : (drivePins s).reqs = s.reqs := rfl
@[simp] theorem drivePins_chains : (drivePins s).chains = s.chains := rfl
@[simp] theorem drivePins_nextReq : (drivePins s).nextReq = s.nextReq := rfl
@[simp] theorem drivePins_chainUse : (drivePins s).chainUse = s.chainUse := rfl
@[simp] theorem drivePins_echoUse : (drivePins s).echoUse = s.echoUse := rfl
@[simp] theorem drivePins_txns : (drivePins s).txns = s.txns := rfl
@[simp] theorem drivePins_bursts : (drivePins s).bursts = s.bursts := rfl
@[simp] theorem drivePins_vault : (drivePins s).vault = s.vault := rfl
@[simp] theorem drivePins_cache : (drivePins s).cache = s.cache := rfl
@[simp] theorem drivePins_rng : (drivePins s).rng = s.rng := rfl
@[simp] theorem drivePins_chans : (drivePins s).chans = s.chans := rfl
@[simp] theorem drivePins_timers : (drivePins s).timers = s.timers := rfl
@[simp] theorem drivePins_peer : (drivePins s).peer = s.peer := rfl
@[simp] theorem drivePins_lookup : (drivePins s).lookup = s.lookup := rfl
@[simp] theorem drivePins_cal : (drivePins s).cal = s.cal := rfl
@[simp] theorem drivePins_mgmt : (drivePins s).mgmt = s.mgmt := rfl
@[simp] theorem drivePins_nv : (drivePins s).nv = s.nv := rfl
@[simp] theorem drivePins_life : (drivePins s).life = s.life := rfl
@[simp] theorem drivePins_tap : (drivePins s).tap = s.tap := rfl
end one

@[simp] theorem useFree_free (s : State) (n : Nat) : (useFree s n).free = s.free + n := rfl
@[simp] theorem raiseSrc_raised (s : State) (n : Nat) : (raiseSrc s n).raised = s.raised ++ [n] := rfl

theorem modFn_eq (s : State) (f : Nat) (h : FnRec → FnRec) : modFn s f h = setFn s f (h (getFn s f)) := rfl
theorem modRing_eq (s : State) (n : Nat) (h : RingRec → RingRec) : modRing s n h = setRing s n (h (getRing s n)) := rfl
theorem modUnit_eq (s : State) (u : Nat) (h : UnitRec → UnitRec) : modUnit s u h = setUnit s u (h (getUnit s u)) := rfl
theorem modStat_eq (s : State) (f : Nat) (h : FnStats → FnStats) : modStat s f h = setStat s f (h (getStat s f)) := rfl
theorem modChan_eq (s : State) (c : Nat) (h : ChanRec → ChanRec) : modChan s c h = setChan s c (h (getChan s c)) := rfl

end Sys2Proof.Machine
end

