-- ==== Sys2Proof/Laws/Table.lean ====
section
/-!
SUPPORT. Sparse tables: reading what was written, and their canonical form.
-/
namespace Sys2Proof.Machine

open Sys2Proof

variable {α : Type} [DecidableEq α]

/-- A value other than the default reads back. -/
theorem tget_tput_self (d : α) (t : Tbl α) (k : Nat) (v : α) (h : v ≠ d) : tget d (tput d t k v) k = v := by
  induction t with
  | nil => simp [tput, tget, h]
  | cons e t ih =>
    obtain ⟨k', v'⟩ := e
    simp only [tput]
    split
    · simp [tget]
    · split
      · simp [tget]
      · next h1 h2 => simp [tget, ih, Ne.symm h2]

/-- A write leaves every other entry as it was, whichever default it is read with. -/
theorem tget_tput_other (d d' : α) (t : Tbl α) (k j : Nat) (v : α) (h : j ≠ k) : tget d (tput d' t k v) j = tget d t j := by
  induction t with
  | nil => simp only [tput]; split <;> simp [tget, Ne.symm h]
  | cons e t ih =>
    obtain ⟨k', v'⟩ := e
    simp only [tput]
    split
    · split <;> simp [tget, Ne.symm h]
    · split
      · next h2 => subst h2; split <;> simp [tget, Ne.symm h]
      · simp [tget, ih]

/-- No key below the bound is listed. -/
theorem tget_below (d : α) (t : Tbl α) (lo k : Nat) (w : twfFrom d lo t = true) (h : k < lo) : tget d t k = d := by
  induction t generalizing lo with
  | nil => rfl
  | cons e t ih =>
    obtain ⟨k', v'⟩ := e
    simp only [twfFrom, Bool.and_eq_true, decide_eq_true_eq] at w
    have : k' ≠ k := by omega
    simp only [tget, this, if_false]
    exact ih (k' + 1) w.2 (by omega)

/-- In a canonical table every value reads back. -/
theorem tget_tput (d : α) (t : Tbl α) (k : Nat) (v : α) (lo : Nat) (w : twfFrom d lo t = true) :
    tget d (tput d t k v) k = v := by
  by_cases h : v = d
  · subst h
    induction t generalizing lo with
    | nil => simp [tput, tget]
    | cons e t ih =>
      obtain ⟨k', v'⟩ := e
      simp only [twfFrom, Bool.and_eq_true, decide_eq_true_eq] at w
      simp only [tput]
      split
      · next h1 => simp only [if_true, tget, show k' ≠ k by omega, if_false]; exact tget_below _ _ _ _ w.2 (by omega)
      · split
        · next h2 => simp only [if_true]; exact tget_below _ _ _ _ w.2 (by omega)
        · next h1 h2 => simp only [tget, Ne.symm h2, if_false]; exact ih (k' + 1) w.2
  · exact tget_tput_self d t k v h

theorem twfFrom_mono (d : α) (t : Tbl α) (a b : Nat) (h : a ≤ b) (w : twfFrom d b t = true) : twfFrom d a t = true := by
  cases t with
  | nil => rfl
  | cons e t =>
    simp only [twfFrom, Bool.and_eq_true, decide_eq_true_eq] at w ⊢
    exact ⟨⟨by omega, w.1.2⟩, w.2⟩

/-- A write keeps the canonical form. -/
theorem twfFrom_tput (d : α) (t : Tbl α) (k : Nat) (v : α) (lo : Nat) (h : lo ≤ k) (w : twfFrom d lo t = true) :
    twfFrom d lo (tput d t k v) = true := by
  induction t generalizing lo with
  | nil => simp only [tput]; split <;> simp_all [twfFrom]
  | cons e t ih =>
    obtain ⟨k', v'⟩ := e
    have w0 := w
    simp only [twfFrom, Bool.and_eq_true, decide_eq_true_eq] at w
    simp only [tput]
    split
    · split
      · exact w0
      · next h1 h2 =>
        simp only [twfFrom, Bool.and_eq_true, decide_eq_true_eq]
        exact ⟨⟨h, by simp [h2]⟩, ⟨by omega, w.1.2⟩, w.2⟩
    · split
      · next h2 =>
        split
        · exact twfFrom_mono d t _ _ (by omega) w.2
        · next h3 => subst h2; simp only [twfFrom, Bool.and_eq_true, decide_eq_true_eq]; exact ⟨⟨h, by simp [h3]⟩, w.2⟩
      · next h1 h2 =>
        simp only [twfFrom, Bool.and_eq_true, decide_eq_true_eq]
        exact ⟨w.1, ih (k' + 1) (by omega) w.2⟩

/-- The canonical form of a table is kept. -/
theorem twf_tput (d : α) (t : Tbl α) (k : Nat) (v : α) (w : twf d t = true) : twf d (tput d t k v) = true :=
  twfFrom_tput d t k v 0 (Nat.zero_le k) w

/-! ### The records of the state -/

@[simp] theorem getReq_setReq (s : State) (r : Nat) (q : Req) : getReq (setReq s r (some q)) r = some q :=
  tget_tput_self none s.reqs r (some q) (by simp)

theorem getReq_setReq_other (s : State) (r j : Nat) (q : Option Req) (h : j ≠ r) : getReq (setReq s r q) j = getReq s j :=
  tget_tput_other none none s.reqs r j q h

@[simp] theorem getChain_setChain (s : State) (c : Nat) (x : Chain) : getChain (setChain s c (some x)) c = some x :=
  tget_tput_self none s.chains c (some x) (by simp)

theorem getRing_setRing (s : State) (n : Nat) (r : RingRec) (w : twf ({} : RingRec) s.rings = true) : getRing (setRing s n r) n = r :=
  tget_tput ({} : RingRec) s.rings n r 0 w

theorem getRing_setRing_other (s : State) (n j : Nat) (r : RingRec) (h : j ≠ n) : getRing (setRing s n r) j = getRing s j :=
  tget_tput_other ({} : RingRec) ({} : RingRec) s.rings n j r h

theorem getFn_setFn_other (s : State) (f j : Nat) (r : FnRec) (h : j ≠ f) : getFn (setFn s f r) j = getFn s j :=
  tget_tput_other (fnDflt j) (fnDflt f) s.fns f j r h

theorem getFn_setFn (s : State) (f : Nat) (r : FnRec) (h : r ≠ fnDflt f) : getFn (setFn s f r) f = r :=
  tget_tput_self (fnDflt f) s.fns f r h

theorem getUnit_setUnit (s : State) (u : Nat) (r : UnitRec) (w : twf ({} : UnitRec) s.units = true) : getUnit (setUnit s u r) u = r :=
  tget_tput ({} : UnitRec) s.units u r 0 w

theorem getUnit_setUnit_other (s : State) (u j : Nat) (r : UnitRec) (h : j ≠ u) : getUnit (setUnit s u r) j = getUnit s j :=
  tget_tput_other ({} : UnitRec) ({} : UnitRec) s.units u j r h

theorem getChan_setChan (s : State) (c : Nat) (r : ChanRec) (w : twf ({} : ChanRec) s.chans = true) : getChan (setChan s c r) c = r :=
  tget_tput ({} : ChanRec) s.chans c r 0 w

theorem getChan_setChan_other (s : State) (c j : Nat) (r : ChanRec) (h : j ≠ c) : getChan (setChan s c r) j = getChan s j :=
  tget_tput_other ({} : ChanRec) ({} : ChanRec) s.chans c j r h

end Sys2Proof.Machine
end

