-- ==== Sys2Proof/Laws/Quiet.lean ====
section
/-!
SUPPORT. What the meanings leave alone: the queue of commands, the safe state, the pins but for those that the block drives, and
the test access port. One lemma per function; only the collector enters the safe state, and only a block reset leaves it.
-/
set_option linter.unusedTactic false
set_option linter.unreachableTactic false
set_option linter.unnecessarySeqFocus false
set_option linter.unusedSimpArgs false

set_option Elab.async false

namespace Sys2Proof.Machine

open Sys2Proof

/-- The part of a state that no request, run, grant, answer or management command changes: the queue of commands, the safe state,
the pins but for those that the block drives, and the test access port. -/
def quiet (s : State) : List Instr × Bool × Pins × Tap :=
  (s.pending, s.safe, { s.pins with fatal := false, safeAck := false, lantern := false }, s.tap)

@[simp] theorem quiet_mk (s : State) (a1 : Nat) (a3 : Bringup) (a4 : Alarms) (a5 : Tbl UnitRec) (a6 : Tbl GenRec)
    (a7 : BitVec 768) (a8 : List Nat) (a10 : Tbl Nat) (a11 : Tbl Nat) (a12 : List IrqMsg) (a13 : Tbl Nat) (a14 :
    Counters) (a15 : Tbl FnStats) (a16 : Tbl FnRec) (a17 : Tbl RingRec) (a18 : Tbl (Option Req)) (a19 : Tbl (Option
    Chain)) (a20 : Nat) (a21 : Tbl Nat) (a22 : Tbl Nat) (a23 : List Txn) (a24 : List Burst) (a25 : Vault) (a26 : List
    CacheEnt) (a27 : Rng) (a28 : Tbl ChanRec) (a29 : Tbl TimerRec) (a30 : Peer) (a31 : Lookup) (a32 : Calendar) (a33 :
    Mgmt) (a34 : Nv) (a35 : Life) :
    quiet
      { pending := s.pending, free := a1, pins := s.pins, bring := a3, alarms := a4, units := a5, gens := a6, sticky :=
      a7, raised := a8, safe := s.safe, ledgerR := a10, ledgerC := a11, irq := a12, cfg := a13, cnt := a14, fstat :=
      a15, fns := a16, rings := a17, reqs := a18, chains := a19, nextReq := a20, chainUse := a21, echoUse := a22, txns
      := a23, bursts := a24, vault := a25, cache := a26, rng := a27, chans := a28, timers := a29, peer := a30, lookup :=
      a31, cal := a32, mgmt := a33, nv := a34, life := a35, tap := s.tap } = quiet s := rfl

theorem quiet_foldl {α : Type} (g : State → α → State) (h : ∀ s a, quiet (g s a) = quiet s) (l : List α) (s : State) :
    quiet (l.foldl g s) = quiet s := by
  induction l generalizing s with
  | nil => rfl
  | cons a l ih => rw [List.foldl_cons, ih, h]

/-- A function of the state and the pair it answers. -/
theorem quiet_ite (c : Prop) [Decidable c] (a b s : State) (ha : quiet a = quiet s) (hb : quiet b = quiet s) :
    quiet (if c then a else b) = quiet s := by
  split <;> assumption


@[simp] theorem quiet_useFree (s : State) (n : Nat) : quiet (useFree s n) = quiet s := by
  rfl

@[simp] theorem quiet_setFn (s : State) (f : Nat) (r : FnRec) : quiet (setFn s f r) = quiet s := by
  rfl

@[simp] theorem quiet_modFn (s : State) (f : Nat) (g : FnRec → FnRec) : quiet (modFn s f g) = quiet s := by
  rfl

@[simp] theorem quiet_setRing (s : State) (n : Nat) (r : RingRec) : quiet (setRing s n r) = quiet s := by
  rfl

@[simp] theorem quiet_modRing (s : State) (n : Nat) (g : RingRec → RingRec) : quiet (modRing s n g) = quiet s := by
  rfl

@[simp] theorem quiet_setReq (s : State) (r : Nat) (q : Option Req) : quiet (setReq s r q) = quiet s := by
  rfl

@[simp] theorem quiet_modReq (s : State) (r : Nat) (g : Req → Req) : quiet (modReq s r g) = quiet s := by
  unfold modReq; split <;> simp

@[simp] theorem quiet_setChain (s : State) (c : Nat) (q : Option Chain) : quiet (setChain s c q) = quiet s := by
  rfl

@[simp] theorem quiet_modChain (s : State) (c : Nat) (g : Chain → Chain) : quiet (modChain s c g) = quiet s := by
  unfold modChain; split <;> simp

@[simp] theorem quiet_setUnit (s : State) (u : Nat) (r : UnitRec) : quiet (setUnit s u r) = quiet s := by
  rfl

@[simp] theorem quiet_modUnit (s : State) (u : Nat) (g : UnitRec → UnitRec) : quiet (modUnit s u g) = quiet s := by
  rfl

@[simp] theorem quiet_setGen (s : State) (g : Nat) (r : GenRec) : quiet (setGen s g r) = quiet s := by
  rfl

@[simp] theorem quiet_setStat (s : State) (f : Nat) (r : FnStats) : quiet (setStat s f r) = quiet s := by
  rfl

@[simp] theorem quiet_modStat (s : State) (f : Nat) (g : FnStats → FnStats) : quiet (modStat s f g) = quiet s := by
  rfl

@[simp] theorem quiet_setChan (s : State) (c : Nat) (r : ChanRec) : quiet (setChan s c r) = quiet s := by
  rfl

@[simp] theorem quiet_modChan (s : State) (c : Nat) (g : ChanRec → ChanRec) : quiet (modChan s c g) = quiet s := by
  rfl

@[simp] theorem quiet_setTimer (s : State) (t : Nat) (r : TimerRec) : quiet (setTimer s t r) = quiet s := by
  rfl

@[simp] theorem quiet_setSlot (s : State) (i : Nat) (r : SlotRec) : quiet (setSlot s i r) = quiet s := by
  rfl

@[simp] theorem quiet_setMail (s : State) (f : Nat) (m : Mail) : quiet (setMail s f m) = quiet s := by
  rfl

@[simp] theorem quiet_arrive (s : State) (p : Principal) : quiet (arrive s p) = quiet s := by
  unfold arrive; (try dsimp only); (repeat' split) <;> (try simp) <;>
    (repeat' (first | rfl | (simp; done) | (refine (quiet_foldl _ (fun s a => ?_) _ _).trans ?_ <;> (try dsimp only)) | split | (refine quiet_ite _ _ _ _ ?_ ?_)))
    <;> (try simp)

@[simp] theorem quiet_leave (s : State) (p : Principal) : quiet (leave s p) = quiet s := by
  unfold leave; (try dsimp only); (repeat' split) <;> (try simp) <;>
    (repeat' (first | rfl | (simp; done) | (refine (quiet_foldl _ (fun s a => ?_) _ _).trans ?_ <;> (try dsimp only)) | split | (refine quiet_ite _ _ _ _ ?_ ?_)))
    <;> (try simp)

@[simp] theorem quiet_setAcct (s : State) (k : Nat) (a : Account) : quiet (setAcct s k a) = quiet s := by
  rfl

@[simp] theorem quiet_setNvRec (s : State) (k : Nat) (r : NvRec) : quiet (setNvRec s k r) = quiet s := by
  rfl

@[simp] theorem quiet_raiseSrc (s : State) (src : Nat) : quiet (raiseSrc s src) = quiet s := by
  rfl

@[simp] theorem quiet_cfgSet (s : State) (i sub v : Nat) : quiet (cfgSet s i sub v) = quiet s := by
  rfl

@[simp] theorem quiet_failWith (s : State) (srcs : List Nat) (f : State → State) (h : ∀ t, quiet (f t) = quiet t) :
    quiet (failWith s srcs f) = quiet s := by
  unfold failWith
  have k : quiet (srcs.foldl raiseSrc s) = quiet s := quiet_foldl _ (fun s x => by simp) srcs s
  dsimp only; split
  · exact k
  · exact (h _).trans k

@[simp] theorem quiet_raiseMsg (s : State) (fn vec : Nat) (own : Bool) : quiet (raiseMsg s fn vec own) = quiet s := by
  unfold raiseMsg; split <;> simp

@[simp] theorem quiet_raiseOwn (s : State) : quiet (raiseOwn s) = quiet s := by
  unfold raiseOwn; simp

@[simp] theorem quiet_raiseFn (s : State) (f vec : Nat) : quiet (raiseFn s f vec) = quiet s := by
  unfold raiseFn; split <;> simp

@[simp] theorem quiet_withdraw (s : State) (p : IrqMsg → Bool) : quiet (withdraw s p) = quiet s := by
  unfold withdraw; split <;> simp

@[simp] theorem quiet_withdrawFn (s : State) (f : Nat) : quiet (withdrawFn s f) = quiet s := by
  unfold withdrawFn; simp

@[simp] theorem quiet_withdrawAll (s : State) : quiet (withdrawAll s) = quiet s := by
  unfold withdrawAll; simp [quiet_foldl]

@[simp] theorem quiet_releaseHeld (s : State) (f : Nat) : quiet (releaseHeld s f) = quiet s := by
  unfold releaseHeld; (try dsimp only); (repeat' split) <;> (try simp) <;>
    (repeat' (first | rfl | (simp; done) | (refine (quiet_foldl _ (fun s a => ?_) _ _).trans ?_ <;> (try dsimp only)) | split | (refine quiet_ite _ _ _ _ ?_ ?_)))
    <;> (try simp)

@[simp] theorem quiet_charge (s : State) (k f n : Nat) : quiet (charge s k f n) = quiet s := by
  rfl

@[simp] theorem quiet_noteWrite (s : State) (o : Own) : quiet (noteWrite s o) = quiet s := by
  unfold noteWrite; split <;> simp

@[simp] theorem quiet_issueOn (s : State) (b : Burst) (port tag : Nat) : quiet (issueOn s b port tag) = quiet s := by
  unfold issueOn; simp

theorem quiet_tryIssue (s : State) (b : Burst) (s' : State) (h : tryIssue s b = some s') : quiet s' = quiet s := by
  unfold tryIssue at h
  split at h
  · split at h
    · cases h
    · split at h
      · cases h
      · cases h; simp
  · cases h

@[simp] theorem quiet_submit (s : State) (b : Burst) : quiet (submit s b) = quiet s := by
  unfold submit
  split
  · exact quiet_mk ..
  · split
    · next s' h => exact quiet_tryIssue s b s' h
    · exact quiet_mk ..

@[simp] theorem quiet_readPieces (s : State) (w : Who) (ps : List (Nat × Nat × Nat)) (own : Nat → Own) (vault : Bool) :
    quiet (readPieces s w ps own vault) = quiet s := by
  unfold readPieces; (repeat' split) <;> simp [quiet_foldl]

@[simp] theorem quiet_writePieces (s : State) (w : Who) (ps : List (Nat × Nat × Nat)) (data : Bytes) (own : Nat → Own) (vault : Bool) :
    quiet (writePieces s w ps data own vault) = quiet s := by
  unfold writePieces; (try dsimp only); (repeat' split) <;> (try simp) <;>
    (repeat' (first | rfl | (simp; done) | (refine (quiet_foldl _ (fun s a => ?_) _ _).trans ?_ <;> (try dsimp only)) | split | (refine quiet_ite _ _ _ _ ?_ ?_)))
    <;> (try simp)

@[simp] theorem quiet_disown (s : State) (p : Own → Bool) : quiet (disown s p) = quiet s := by
  rfl

@[simp] theorem quiet_countEnd (s : State) (f : Nat) (st : Status) : quiet (countEnd s f st) = quiet s := by
  unfold countEnd; simp

@[simp] theorem quiet_countUnits (s : State) (f : Nat) (lane : Bool) (n : Nat) :
    quiet (countUnits s f lane n) = quiet s := by
  rfl

@[simp] theorem quiet_cacheNodes (s : State) (ns : List (TreePos × Bytes)) : quiet (cacheNodes s ns) = quiet s := by
  unfold cacheNodes; (try dsimp only); (repeat' split) <;> (try simp) <;>
    (repeat' (first | rfl | (simp; done) | (refine (quiet_foldl _ (fun s a => ?_) _ _).trans ?_ <;> (try dsimp only)) | split | (refine quiet_ite _ _ _ _ ?_ ?_)))
    <;> (try simp)

theorem quiet_pickSlot (s : State) (p : Nat × State) (h : pickSlot s = some p) : quiet p.2 = quiet s := by
  unfold pickSlot at h
  split at h
  · cases h; exact quiet_mk ..
  · cases h; exact quiet_mk ..
  · dsimp only at h
    split at h
    · cases h; exact quiet_mk ..
    · cases h

@[simp] theorem quiet_unpickSlot (s : State) (i : Nat) : quiet (unpickSlot s i) = quiet s := by
  unfold unpickSlot; (try dsimp only); (repeat' split) <;> (try simp) <;>
    (repeat' (first | rfl | (simp; done) | (refine (quiet_foldl _ (fun s a => ?_) _ _).trans ?_ <;> (try dsimp only)) | split | (refine quiet_ite _ _ _ _ ?_ ?_)))
    <;> (try simp)

@[simp] theorem quiet_unpickAll (s : State) (p : VUpd → Bool) : quiet (unpickAll s p) = quiet s := by
  unfold unpickAll; (try dsimp only); (repeat' split) <;> (try simp) <;>
    (repeat' (first | rfl | (simp; done) | (refine (quiet_foldl _ (fun s a => ?_) _ _).trans ?_ <;> (try dsimp only)) | split | (refine quiet_ite _ _ _ _ ?_ ?_)))
    <;> (try simp)

@[simp] theorem quiet_cacheMod (s : State) (slot gen : Nat) (g : CacheEnt → CacheEnt) :
    quiet (cacheMod s slot gen g) = quiet s := by
  rfl

@[simp] theorem quiet_takeRef (s : State) (slot : Nat) : quiet (takeRef s slot) = quiet s := by
  unfold takeRef; split <;> simp

@[simp] theorem quiet_makeRoom (s : State) (bank slot : Nat) : quiet (makeRoom s bank slot) = quiet s := by
  unfold makeRoom; (try dsimp only); (repeat' split) <;> (try simp) <;>
    (repeat' (first | rfl | (simp; done) | (refine (quiet_foldl _ (fun s a => ?_) _ _).trans ?_ <;> (try dsimp only)) | split | (refine quiet_ite _ _ _ _ ?_ ?_)))
    <;> (try simp)

@[simp] theorem quiet_cacheInstall (s : State) (slot : Nat) : quiet (cacheInstall s slot) = quiet s := by
  unfold cacheInstall; (try dsimp only); (repeat' split) <;> (try simp) <;>
    (repeat' (first | rfl | (simp; done) | (refine (quiet_foldl _ (fun s a => ?_) _ _).trans ?_ <;> (try dsimp only)) | split | (refine quiet_ite _ _ _ _ ?_ ?_)))
    <;> (try simp)

@[simp] theorem quiet_cacheSync (s : State) (slot : Nat) : quiet (cacheSync s slot) = quiet s := by
  unfold cacheSync; (try dsimp only); (repeat' split) <;> (try simp) <;>
    (repeat' (first | rfl | (simp; done) | (refine (quiet_foldl _ (fun s a => ?_) _ _).trans ?_ <;> (try dsimp only)) | split | (refine quiet_ite _ _ _ _ ?_ ?_)))
    <;> (try simp)

@[simp] theorem quiet_releaseRef (s : State) (slot gen : Nat) : quiet (releaseRef s slot gen) = quiet s := by
  rfl

@[simp] theorem quiet_cacheDrop (s : State) (slot : Nat) : quiet (cacheDrop s slot) = quiet s := by
  rfl

@[simp] theorem quiet_cacheZero (s : State) (slot : Nat) : quiet (cacheZero s slot) = quiet s := by
  unfold cacheZero; (try dsimp only); (repeat' split) <;> (try simp) <;>
    (repeat' (first | rfl | (simp; done) | (refine (quiet_foldl _ (fun s a => ?_) _ _).trans ?_ <;> (try dsimp only)) | split | (refine quiet_ite _ _ _ _ ?_ ?_)))
    <;> (try simp)

@[simp] theorem quiet_dropFrame (s : State) (large : Option Nat) : quiet (dropFrame s large) = quiet s := by
  unfold dropFrame; (try dsimp only); (repeat' split) <;> (try simp) <;>
    (repeat' (first | rfl | (simp; done) | (refine (quiet_foldl _ (fun s a => ?_) _ _).trans ?_ <;> (try dsimp only)) | split | (refine quiet_ite _ _ _ _ ?_ ?_)))
    <;> (try simp)

@[simp] theorem quiet_freeSlot (s : State) (i : Nat) : quiet (freeSlot s i) = quiet s := by
  unfold freeSlot; simp

@[simp] theorem quiet_dropShadow (s : State) (i : Nat) : quiet (dropShadow s i) = quiet s := by
  rfl

@[simp] theorem quiet_clearCfg (s : State) (i : Nat) : quiet (clearCfg s i) = quiet s := by
  rfl

@[simp] theorem quiet_dropPend (s : State) (g : Nat) : quiet (dropPend s g) = quiet s := by
  rfl

@[simp] theorem quiet_releaseRing (s : State) (n : Nat) : quiet (releaseRing s n) = quiet s := by
  rfl

@[simp] theorem quiet_releaseChan (s : State) (c : Nat) : quiet (releaseChan s c) = quiet s := by
  rfl

@[simp] theorem quiet_clearStat (s : State) (f : Nat) : quiet (clearStat s f) = quiet s := by
  rfl

@[simp] theorem quiet_buryDamaged (s : State) (f : Nat) : quiet (buryDamaged s f) = quiet s := by
  rfl

@[simp] theorem quiet_makeAbsent (s : State) (f : Nat) (released : Bool) : quiet (makeAbsent s f released) = quiet s := by
  unfold makeAbsent; simp [quiet_foldl]

@[simp] theorem quiet_installNow (s : State) (i : Nat) : quiet (installNow s i) = quiet s := by
  unfold installNow; (try dsimp only); (repeat' split) <;> (try simp) <;>
    (repeat' (first | rfl | (simp; done) | (refine (quiet_foldl _ (fun s a => ?_) _ _).trans ?_ <;> (try dsimp only)) | split | (refine quiet_ite _ _ _ _ ?_ ?_)))
    <;> (try simp)

@[simp] theorem quiet_flipSlot (s : State) (i : Nat) (keep : Bool) (h : Shadow) :
    quiet (flipSlot s i keep h) = quiet s := by
  unfold flipSlot; (try dsimp only); (repeat' split) <;> (try simp) <;>
    (repeat' (first | rfl | (simp; done) | (refine (quiet_foldl _ (fun s a => ?_) _ _).trans ?_ <;> (try dsimp only)) | split | (refine quiet_ite _ _ _ _ ?_ ?_)))
    <;> (try simp)

@[simp] theorem quiet_putBackCfg (s : State) (f : Nat) (l : List (Nat × Nat)) : quiet (putBackCfg s f l) = quiet s := by
  unfold putBackCfg; (try dsimp only); (repeat' split) <;> (try simp) <;>
    (repeat' (first | rfl | (simp; done) | (refine (quiet_foldl _ (fun s a => ?_) _ _).trans ?_ <;> (try dsimp only)) | split | (refine quiet_ite _ _ _ _ ?_ ?_)))
    <;> (try simp)

@[simp] theorem quiet_restoreFn (s : State) (f : Nat) (r : Restoral) : quiet (restoreFn s f r) = quiet s := by
  unfold restoreFn; (try dsimp only); (repeat' split) <;> (try simp) <;>
    (repeat' (first | rfl | (simp; done) | (refine (quiet_foldl _ (fun s a => ?_) _ _).trans ?_ <;> (try dsimp only)) | split | (refine quiet_ite _ _ _ _ ?_ ?_)))
    <;> (try simp)

@[simp] theorem quiet_unrestoreFn (s : State) (f : Nat) (r : Restoral) : quiet (unrestoreFn s f r) = quiet s := by
  unfold unrestoreFn; (try dsimp only); (repeat' split) <;> (try simp) <;>
    (repeat' (first | rfl | (simp; done) | (refine (quiet_foldl _ (fun s a => ?_) _ _).trans ?_ <;> (try dsimp only)) | split | (refine quiet_ite _ _ _ _ ?_ ?_)))
    <;> (try simp)

@[simp] theorem quiet_unputSlot (s : State) (i epoch : Nat) : quiet (unputSlot s i epoch) = quiet s := by
  unfold unputSlot; (try dsimp only); (repeat' split) <;> (try simp) <;>
    (repeat' (first | rfl | (simp; done) | (refine (quiet_foldl _ (fun s a => ?_) _ _).trans ?_ <;> (try dsimp only)) | split | (refine quiet_ite _ _ _ _ ?_ ?_)))
    <;> (try simp)

@[simp] theorem quiet_applyOp (s : State) (o : VOp) : quiet (applyOp s o) = quiet s := by
  unfold applyOp; dsimp only; (repeat' split) <;> simp [quiet_foldl, quiet_ite]

@[simp] theorem quiet_stampOp (n : Nat) (s : State) (o : VOp) : quiet (stampOp n s o) = quiet s := by
  unfold stampOp; (try dsimp only); (repeat' split) <;> (try simp) <;>
    (repeat' (first | rfl | (simp; done) | (refine (quiet_foldl _ (fun s a => ?_) _ _).trans ?_ <;> (try dsimp only)) | split | (refine quiet_ite _ _ _ _ ?_ ?_)))
    <;> (try simp)

@[simp] theorem quiet_afterOps (s : State) (ops : List VOp) (n : Nat) : quiet (afterOps s ops n) = quiet s := by
  unfold afterOps; (try dsimp only); (repeat' split) <;> (try simp) <;>
    (repeat' (first | rfl | (simp; done) | (refine (quiet_foldl _ (fun s a => ?_) _ _).trans ?_ <;> (try dsimp only)) | split | (refine quiet_ite _ _ _ _ ?_ ?_)))
    <;> (try simp)

@[simp] theorem quiet_vaultWrites (s : State) (region f : Nat) (ws : List (Nat × Bytes)) :
    quiet (vaultWrites s region f ws).1 = quiet s := by
  unfold vaultWrites
  dsimp only
  generalize (Who.mk region 0 (vaultPasid s) (some f)) = w
  suffices h : ∀ (l : List (Nat × Bytes)) (a : State × Nat),
      quiet (l.foldl (fun (a : State × Nat) e => (writePieces a.1 w (piecesOf e.1 e.2.length) e.2 (fun _ => .vupd) true,
        a.2 + (piecesOf e.1 e.2.length).length)) a).1 = quiet a.1 from h ws (s, 0)
  intro l
  induction l with
  | nil => intro a; rfl
  | cons e l ih => intro a; rw [List.foldl_cons, ih]; simp

@[simp] theorem quiet_writeUpd (s : State) (u : VUpd) (t : List VUpd) : quiet (writeUpd s u t) = quiet s := by
  unfold writeUpd; simp

@[simp] theorem quiet_readUpd (s : State) (u : VUpd) (t : List VUpd) (items : List TreePos) :
    quiet (readUpd s u t items) = quiet s := by
  unfold readUpd; (try dsimp only); (repeat' split) <;> (try simp) <;>
    (repeat' (first | rfl | (simp; done) | (refine (quiet_foldl _ (fun s a => ?_) _ _).trans ?_ <;> (try dsimp only)) | split | (refine quiet_ite _ _ _ _ ?_ ?_)))
    <;> (try simp)

@[simp] theorem quiet_takeUpd (s : State) (u : VUpd) (t : List VUpd) : quiet (takeUpd s u t) = quiet s := by
  unfold takeUpd; (try dsimp only); (repeat' split) <;> (try simp) <;>
    (repeat' (first | rfl | (simp; done) | (refine (quiet_foldl _ (fun s a => ?_) _ _).trans ?_ <;> (try dsimp only)) | split | (refine quiet_ite _ _ _ _ ?_ ?_)))
    <;> (try simp)

theorem quiet_beginFrom (n : Nat) (s : State) : quiet (beginFrom n s) = quiet s := by
  induction n generalizing s with
  | zero => rfl
  | succ n ih =>
    unfold beginFrom
    repeat' split
    · rfl
    · rfl
    · rfl
    · rw [ih]; simp

@[simp] theorem quiet_beginUpd (s : State) : quiet (beginUpd s) = quiet s := quiet_beginFrom _ s

@[simp] theorem quiet_submitUpd (s : State) (ops : List VOp) (req : Option Nat) :
    quiet (submitUpd s ops req) = quiet s := by
  unfold submitUpd; (try dsimp only); (repeat' split) <;> (try simp) <;>
    (repeat' (first | rfl | (simp; done) | (refine (quiet_foldl _ (fun s a => ?_) _ _).trans ?_ <;> (try dsimp only)) | split | (refine quiet_ite _ _ _ _ ?_ ?_)))
    <;> (try simp)

@[simp] theorem quiet_effectPoint (s : State) (u : VUpd) : quiet (effectPoint s u) = quiet s := by
  unfold effectPoint; (try dsimp only); (repeat' split) <;> (try simp) <;>
    (repeat' (first | rfl | (simp; done) | (refine (quiet_foldl _ (fun s a => ?_) _ _).trans ?_ <;> (try dsimp only)) | split | (refine quiet_ite _ _ _ _ ?_ ?_)))
    <;> (try simp)

@[simp] theorem quiet_damageLine (s : State) (leaf : Nat) : quiet (damageLine s leaf) = quiet s := by
  unfold damageLine
  split
  · rfl
  · dsimp only
    split
    · refine (quiet_foldl _ (fun s k => ?_) _ _).trans rfl
      split
      · rfl
      · split
        · split <;> rfl
        · exact (quiet_modFn ..).trans rfl
    · split
      · refine (quiet_foldl _ (fun s k => ?_) _ _).trans rfl
        split
        · exact quiet_modFn ..
        · rfl
      · split
        · split
          · exact (quiet_modFn ..).trans rfl
          · rfl
        · rfl

@[simp] theorem quiet_eraseAdvance (s : State) (i : Nat) : quiet (eraseAdvance s i) = quiet s := by
  unfold eraseAdvance; split <;> simp

@[simp] theorem quiet_signalOn (s : State) (n vec : Nat) : quiet (signalOn s n vec) = quiet s := by
  unfold signalOn; (try dsimp only); (repeat' split) <;> (try simp) <;>
    (repeat' (first | rfl | (simp; done) | (refine (quiet_foldl _ (fun s a => ?_) _ _).trans ?_ <;> (try dsimp only)) | split | (refine quiet_ite _ _ _ _ ?_ ?_)))
    <;> (try simp)

@[simp] theorem quiet_signalRing (s : State) (n : Nat) : quiet (signalRing s n) = quiet s := by
  unfold signalRing; simp

@[simp] theorem quiet_coalTest (s : State) (n vec : Nat) : quiet (coalTest s n vec) = quiet s := by
  unfold coalTest; (try dsimp only); (repeat' split) <;> (try simp) <;>
    (repeat' (first | rfl | (simp; done) | (refine (quiet_foldl _ (fun s a => ?_) _ _).trans ?_ <;> (try dsimp only)) | split | (refine quiet_ite _ _ _ _ ?_ ?_)))
    <;> (try simp)

@[simp] theorem quiet_ringOff (s : State) (n : Nat) : quiet (ringOff s n) = quiet s := by
  rfl

@[simp] theorem quiet_ringSettle (s : State) (n : Nat) : quiet (ringSettle s n) = quiet s := by
  unfold ringSettle; dsimp only; (repeat' split) <;> simp [quiet_foldl, quiet_ite]

@[simp] theorem quiet_entryDone (s : State) (n chain : Nat) : quiet (entryDone s n chain) = quiet s := by
  unfold entryDone; dsimp only; (repeat' split) <;> simp [quiet_foldl, quiet_ite]

@[simp] theorem quiet_putEntry (s : State) (n chain : Nat) (st : Status) (fetchFail counted atOnce : Bool) (vec : Nat) (wrote : Bool)
    (entry : Nat → Bool → Bytes) :
    quiet (putEntry s n chain st fetchFail counted atOnce vec wrote entry) = quiet s := by
  unfold putEntry; (try dsimp only); (repeat' split) <;> (try simp) <;>
    (repeat' (first | rfl | (simp; done) | (refine (quiet_foldl _ (fun s a => ?_) _ _).trans ?_ <;> (try dsimp only)) | split | (refine quiet_ite _ _ _ _ ?_ ?_)))
    <;> (try simp)

@[simp] theorem quiet_ffDone (s : State) (n : Nat) : quiet (ffDone s n) = quiet s := by
  unfold ffDone; (try dsimp only); (repeat' split) <;> (try simp) <;>
    (repeat' (first | rfl | (simp; done) | (refine (quiet_foldl _ (fun s a => ?_) _ _).trans ?_ <;> (try dsimp only)) | split | (refine quiet_ite _ _ _ _ ?_ ?_)))
    <;> (try simp)

@[simp] theorem quiet_putFetchFail (s : State) (n first : Nat) (st : Status) :
    quiet (putFetchFail s n first st) = quiet s := by
  unfold putFetchFail; (try dsimp only); (repeat' split) <;> (try simp) <;>
    (repeat' (first | rfl | (simp; done) | (refine (quiet_foldl _ (fun s a => ?_) _ _).trans ?_ <;> (try dsimp only)) | split | (refine quiet_ite _ _ _ _ ?_ ?_)))
    <;> (try simp)

@[simp] theorem quiet_sendPeer (s : State) (m : PeerMsg) : quiet (sendPeer s m) = quiet s := by
  unfold sendPeer; split <;> simp

@[simp] theorem quiet_abandonToken (s : State) (t : Nat) : quiet (abandonToken s t) = quiet s := by
  unfold abandonToken; split <;> simp

@[simp] theorem quiet_chargePka (s : State) (q : Req) : quiet (chargePka s q) = quiet s := by
  unfold chargePka; (repeat' split) <;> simp

@[simp] theorem quiet_dropRef (s : State) (slot : Option Nat) (gen : Nat) : quiet (dropRef s slot gen) = quiet s := by
  unfold dropRef; split <;> simp

@[simp] theorem quiet_dropFetches (s : State) (r : Nat) : quiet (dropFetches s r) = quiet s := by
  unfold dropFetches; (try dsimp only); (repeat' split) <;> (try simp) <;>
    (repeat' (first | rfl | (simp; done) | (refine (quiet_foldl _ (fun s a => ?_) _ _).trans ?_ <;> (try dsimp only)) | split | (refine quiet_ite _ _ _ _ ?_ ?_)))
    <;> (try simp)

@[simp] theorem quiet_retireReq (s : State) (r : Nat) (q : Req) : quiet (retireReq s r q) = quiet s := by
  unfold retireReq; (repeat' split) <;> simp

@[simp] theorem quiet_endReq (s : State) (r : Nat) (st : Status) (res : Nat) (notRun : Bool) :
    quiet (endReq s r st res notRun) = quiet s := by
  unfold endReq; (try dsimp only); (repeat' split) <;> (try simp) <;>
    (repeat' (first | rfl | (simp; done) | (refine (quiet_foldl _ (fun s a => ?_) _ _).trans ?_ <;> (try dsimp only)) | split | (refine quiet_ite _ _ _ _ ?_ ?_)))
    <;> (try simp)

@[simp] theorem quiet_endNotRun (s : State) (steps : List Nat) (st : Status) : quiet (endNotRun s steps st) = quiet s := by
  unfold endNotRun; (repeat' split) <;> simp [quiet_foldl]

@[simp] theorem quiet_rejectChain (s : State) (cid r : Nat) (st : Status) (res : Nat) :
    quiet (rejectChain s cid r st res) = quiet s := by
  unfold rejectChain; (try dsimp only); (repeat' split) <;> (try simp) <;>
    (repeat' (first | rfl | (simp; done) | (refine (quiet_foldl _ (fun s a => ?_) _ _).trans ?_ <;> (try dsimp only)) | split | (refine quiet_ite _ _ _ _ ?_ ?_)))
    <;> (try simp)

@[simp] theorem quiet_endFailed (s : State) (r : Nat) (st : Status) (res : Nat) :
    quiet (endFailed s r st res) = quiet s := by
  unfold endFailed; (repeat' split) <;> simp

@[simp] theorem quiet_dropQueued (s : State) (r : Nat) : quiet (dropQueued s r) = quiet s := by
  rfl

@[simp] theorem quiet_failStep (s : State) (r : Nat) (st : Status) (res : Nat) : quiet (failStep s r st res) = quiet s := by
  unfold failStep; (repeat' split) <;> simp

@[simp] theorem quiet_failWork (s : State) (r : Nat) (st : Status) : quiet (failWork s r st) = quiet s := by
  unfold failWork; (try dsimp only); (repeat' split) <;> (try simp) <;>
    (repeat' (first | rfl | (simp; done) | (refine (quiet_foldl _ (fun s a => ?_) _ _).trans ?_ <;> (try dsimp only)) | split | (refine quiet_ite _ _ _ _ ?_ ?_)))
    <;> (try simp)

@[simp] theorem quiet_killStep (s : State) (r : Nat) (st : Status) : quiet (killStep s r st) = quiet s := by
  unfold killStep; dsimp only; (repeat' split) <;> simp [quiet_foldl, quiet_ite]

@[simp] theorem quiet_killChain (s : State) (cid : Nat) (st : Status) : quiet (killChain s cid st) = quiet s := by
  unfold killChain; (repeat' split) <;> simp

@[simp] theorem quiet_endWaiting (s : State) (n : Nat) (rs : List Nat) (st : Status) :
    quiet (endWaiting s n rs st) = quiet s := by
  unfold endWaiting; simp

@[simp] theorem quiet_endIncomplete (s : State) (n : Nat) (st : Status) : quiet (endIncomplete s n st) = quiet s := by
  unfold endIncomplete; simp

@[simp] theorem quiet_killRing (s : State) (n : Nat) (st : Status) : quiet (killRing s n st) = quiet s := by
  unfold killRing; (repeat' split) <;> simp [quiet_foldl]

@[simp] theorem quiet_dropFetch (s : State) (n : Nat) : quiet (dropFetch s n) = quiet s := by
  rfl

@[simp] theorem quiet_cqFailed (s : State) (n chain : Nat) (fetchFail : Bool) (vec : Nat) :
    quiet (cqFailed s n chain fetchFail vec) = quiet s := by
  unfold cqFailed; (try dsimp only); (repeat' split) <;> (try simp) <;>
    (repeat' (first | rfl | (simp; done) | (refine (quiet_foldl _ (fun s a => ?_) _ _).trans ?_ <;> (try dsimp only)) | split | (refine quiet_ite _ _ _ _ ?_ ?_)))
    <;> (try simp)

@[simp] theorem quiet_cqWritten (s : State) (n : Nat) (st : Status) (counted atOnce : Bool) (chain : Nat) (fetchFail : Bool) (vec : Nat) :
    quiet (cqWritten s n st counted atOnce chain fetchFail vec) = quiet s := by
  unfold cqWritten; (try dsimp only); (repeat' split) <;> (try simp) <;>
    (repeat' (first | rfl | (simp; done) | (refine (quiet_foldl _ (fun s a => ?_) _ _).trans ?_ <;> (try dsimp only)) | split | (refine quiet_ite _ _ _ _ ?_ ?_)))
    <;> (try simp)

@[simp] theorem quiet_issueReads (s : State) (r : Nat) (ph : Phase) (stream : Nat) (ps : List (Nat × Nat × Nat)) (vault : Bool) :
    quiet (issueReads s r ph stream ps vault) = quiet s := by
  unfold issueReads; split <;> simp

@[simp] theorem quiet_readList (s : State) (r : Nat) (ph : Phase) (addr : Nat) :
    quiet (readList s r ph addr) = quiet s := by
  unfold readList; simp

@[simp] theorem quiet_beginLook (s : State) (r : Nat) (q : Req) (l : Look) : quiet (beginLook s r q l) = quiet s := by
  unfold beginLook; split <;> simp

@[simp] theorem quiet_markSpill (s : State) (c : Chain) : quiet (markSpill s c) = quiet s := by
  unfold markSpill; (try dsimp only); (repeat' split) <;> (try simp) <;>
    (repeat' (first | rfl | (simp; done) | (refine (quiet_foldl _ (fun s a => ?_) _ _).trans ?_ <;> (try dsimp only)) | split | (refine quiet_ite _ _ _ _ ?_ ?_)))
    <;> (try simp)

@[simp] theorem quiet_issueFetch (s : State) (f : VFetch) : quiet (issueFetch s f) = quiet s := by
  unfold issueFetch; simp

@[simp] theorem quiet_enqueue (s : State) (r : Nat) : quiet (enqueue s r) = quiet s := by
  unfold enqueue; simp

@[simp] theorem quiet_enqueueEcho (s : State) (r : Nat) : quiet (enqueueEcho s r) = quiet s := by
  unfold enqueueEcho; dsimp only; (repeat' split) <;> simp [quiet_foldl, quiet_ite]

@[simp] theorem quiet_bindKey (s : State) (r i : Nat) (second : Bool) : quiet (bindKey s r i second) = quiet s := by
  unfold bindKey; dsimp only; (repeat' split) <;> simp [quiet_foldl, quiet_ite]

@[simp] theorem quiet_falseHit (s : State) (r : Nat) : quiet (falseHit s r) = quiet s := by
  unfold falseHit
  exact (quiet_failWith _ _ _ fun _ => by simp).trans (quiet_mk ..)

@[simp] theorem quiet_beginFetch (s : State) (r : Nat) (q : Req) (i : Nat) : quiet (beginFetch s r q i) = quiet s := by
  unfold beginFetch; simp

@[simp] theorem quiet_afterKeys (s : State) (r : Nat) (q : Req) : quiet (afterKeys s r q) = quiet s := by
  unfold afterKeys; (try dsimp only); (repeat' split) <;> (try simp) <;>
    (repeat' (first | rfl | (simp; done) | (refine (quiet_foldl _ (fun s a => ?_) _ _).trans ?_ <;> (try dsimp only)) | split | (refine quiet_ite _ _ _ _ ?_ ?_)))
    <;> (try simp)

@[simp] theorem quiet_resolveOne (s : State) (r : Nat) (q : Req) (i : Nat) (epoch : Option Nat) (second : Bool) :
    quiet (resolveOne s r q i epoch second).1 = quiet s := by
  unfold resolveOne
  split
  · simp
  · simp
  · simp
  · dsimp only
    split <;> (split <;> [skip; split]) <;> simp

@[simp] theorem quiet_sendQuery (s : State) (r : Nat) (q : Req) : quiet (sendQuery s r q) = quiet s := by
  unfold sendQuery; dsimp only; (repeat' split) <;> simp [quiet_foldl, quiet_ite]

theorem quiet_resolveFrom (n : Nat) (s : State) (r : Nat) : quiet (resolveFrom n s r) = quiet s := by
  induction n generalizing s with
  | zero => rfl
  | succ n ih =>
    unfold resolveFrom
    (repeat' split) <;> (try dsimp only) <;> (repeat' split) <;> simp [ih]

@[simp] theorem quiet_resolve (s : State) (r : Nat) : quiet (resolve s r) = quiet s := quiet_resolveFrom 3 s r

@[simp] theorem quiet_retryResolve (s : State) : quiet (retryResolve s) = quiet s := by
  unfold retryResolve; (repeat' split) <;> simp [quiet_foldl]

@[simp] theorem quiet_check78 (s : State) (r : Nat) : quiet (check78 s r) = quiet s := by
  unfold check78; (repeat' split) <;> simp

@[simp] theorem quiet_startStep (s : State) (r : Nat) : quiet (startStep s r) = quiet s := by
  unfold startStep; (try dsimp only); (repeat' split) <;> (try simp) <;>
    (repeat' (first | rfl | (simp; done) | (refine (quiet_foldl _ (fun s a => ?_) _ _).trans ?_ <;> (try dsimp only)) | split | (refine quiet_ite _ _ _ _ ?_ ?_)))
    <;> (try simp)

@[simp] theorem quiet_startChain (s : State) (cid : Nat) : quiet (startChain s cid) = quiet s := by
  unfold startChain; (repeat' split) <;> simp

@[simp] theorem quiet_takePages (s : State) (cid : Nat) (c : Chain) (pages : Nat) :
    quiet (takePages s cid c pages) = quiet s := by
  rfl

@[simp] theorem quiet_placeAndStart (s : State) (cid : Nat) : quiet (placeAndStart s cid) = quiet s := by
  unfold placeAndStart; dsimp only; (repeat' split) <;> simp [quiet_foldl, quiet_ite]

theorem quiet_gather (n : Nat) (s : State) (c : Nat) : quiet (gather n s c) = quiet s := by
  induction n generalizing s with
  | zero => rfl
  | succ n ih =>
    unfold gather
    split
    · rfl
    · split
      · simp
      · split
        · rfl
        · dsimp only
          split
          · simp
          · split
            · rw [ih]; simp
            · simp

@[simp] theorem quiet_afterLook (s : State) (r : Nat) (l : Look) : quiet (afterLook s r l) = quiet s := by
  unfold afterLook
  (repeat' split) <;> simp [quiet_gather]

@[simp] theorem quiet_listArrived (s : State) (r : Nat) (q : Req) (src : Bool) (addr : Nat) (b : Bytes) :
    quiet (listArrived s r q src addr b) = quiet s := by
  unfold listArrived; dsimp only; (repeat' split) <;> simp [quiet_foldl, quiet_ite]

@[simp] theorem quiet_endTooLong (s : State) (n : Nat) (ids : List Nat) : quiet (endTooLong s n ids) = quiet s := by
  unfold endTooLong; (try dsimp only); (repeat' split) <;> (try simp) <;>
    (repeat' (first | rfl | (simp; done) | (refine (quiet_foldl _ (fun s a => ?_) _ _).trans ?_ <;> (try dsimp only)) | split | (refine quiet_ite _ _ _ _ ?_ ?_)))
    <;> (try simp)

@[simp] theorem quiet_takeChain (s : State) (n : Nat) (ids : List Nat) : quiet (takeChain s n ids) = quiet s := by
  unfold takeChain
  split
  · rfl
  · dsimp only
    rw [quiet_gather]
    simp [quiet_foldl]

theorem quiet_pump (n : Nat) (s : State) (r : Nat) : quiet (pump n s r) = quiet s := by
  induction n generalizing s with
  | zero => rfl
  | succ n ih =>
    unfold pump
    (repeat' split) <;> (try dsimp only) <;> (repeat' split) <;> simp [ih]

@[simp] theorem quiet_pumpRing (s : State) (n : Nat) : quiet (pumpRing s n) = quiet s := quiet_pump _ s n

@[simp] theorem quiet_pumpAll (s : State) : quiet (pumpAll s) = quiet s := by
  unfold pumpAll; (repeat' split) <;> simp [quiet_foldl]

@[simp] theorem quiet_endStep (s : State) (r : Nat) (st : Status) (res : Nat) : quiet (endStep s r st res) = quiet s := by
  unfold endStep; (repeat' split) <;> simp

@[simp] theorem quiet_beginData (s : State) (r : Nat) : quiet (beginData s r) = quiet s := by
  unfold beginData; split <;> simp

@[simp] theorem quiet_dataArrived (s : State) (r : Nat) (q : Req) : quiet (dataArrived s r q) = quiet s := by
  rfl

@[simp] theorem quiet_afterWrites (s : State) (r : Nat) : quiet (afterWrites s r) = quiet s := by
  unfold afterWrites; (try dsimp only); (repeat' split) <;> (try simp) <;>
    (repeat' (first | rfl | (simp; done) | (refine (quiet_foldl _ (fun s a => ?_) _ _).trans ?_ <;> (try dsimp only)) | split | (refine quiet_ite _ _ _ _ ?_ ?_)))
    <;> (try simp)

@[simp] theorem quiet_writeOut (s : State) (r : Nat) (out : Bytes) (st : Status) (res : Nat) :
    quiet (writeOut s r out st res) = quiet s := by
  unfold writeOut; (try dsimp only); (repeat' split) <;> (try simp) <;>
    (repeat' (first | rfl | (simp; done) | (refine (quiet_foldl _ (fun s a => ?_) _ _).trans ?_ <;> (try dsimp only)) | split | (refine quiet_ite _ _ _ _ ?_ ?_)))
    <;> (try simp)

@[simp] theorem quiet_reqWritten (s : State) (r : Nat) (err : Option Status) : quiet (reqWritten s r err) = quiet s := by
  unfold reqWritten; dsimp only; (repeat' split) <;> simp [quiet_foldl, quiet_ite]

@[simp] theorem quiet_ctxArrived (s : State) (r : Nat) (q : Req) (b : Bytes) : quiet (ctxArrived s r q b) = quiet s := by
  unfold ctxArrived; simp

@[simp] theorem quiet_prmArrived (s : State) (r : Nat) (q : Req) (b : Bytes) : quiet (prmArrived s r q b) = quiet s := by
  unfold prmArrived; split <;> simp

@[simp] theorem quiet_stageEnded (s : State) (r : Nat) : quiet (stageEnded s r) = quiet s := by
  unfold stageEnded; (repeat' split) <;> simp

@[simp] theorem quiet_reqRead (s : State) (r stream off : Nat) (err : Option Status) (b : Bytes) :
    quiet (reqRead s r stream off err b) = quiet s := by
  unfold reqRead; dsimp only; (repeat' split) <;> simp [quiet_foldl, quiet_ite]

@[simp] theorem quiet_eraseEnded (s : State) (i : Nat) (err : Option Status) : quiet (eraseEnded s i err) = quiet s := by
  unfold eraseEnded; (repeat' split) <;> simp [quiet_foldl]

@[simp] theorem quiet_actEnd (s : State) (f code : Nat) : quiet (actEnd s f code) = quiet s := by
  unfold actEnd; simp

@[simp] theorem quiet_renewEnded (s : State) (u : VUpd) (err : Option Status) : quiet (renewEnded s u err) = quiet s := by
  unfold renewEnded; (try dsimp only); (repeat' split) <;> (try simp) <;>
    (repeat' (first | rfl | (simp; done) | (refine (quiet_foldl _ (fun s a => ?_) _ _).trans ?_ <;> (try dsimp only)) | split | (refine quiet_ite _ _ _ _ ?_ ?_)))
    <;> (try simp)

@[simp] theorem quiet_unassign (s : State) (u : VUpd) : quiet (unassign s u) = quiet s := by
  unfold unassign; (try dsimp only); (repeat' split) <;> (try simp) <;>
    (repeat' (first | rfl | (simp; done) | (refine (quiet_foldl _ (fun s a => ?_) _ _).trans ?_ <;> (try dsimp only)) | split | (refine quiet_ite _ _ _ _ ?_ ?_)))
    <;> (try simp)

@[simp] theorem quiet_noteFailed (s : State) (u : VUpd) : quiet (noteFailed s u) = quiet s := by
  unfold noteFailed; (try dsimp only); (repeat' split) <;> (try simp) <;>
    (repeat' (first | rfl | (simp; done) | (refine (quiet_foldl _ (fun s a => ?_) _ _).trans ?_ <;> (try dsimp only)) | split | (refine quiet_ite _ _ _ _ ?_ ?_)))
    <;> (try simp)

@[simp] theorem quiet_resumeReq (s : State) (r : Nat) (err : Option Status) : quiet (resumeReq s r err) = quiet s := by
  unfold resumeReq; (try dsimp only); (repeat' split) <;> (try simp) <;>
    (repeat' (first | rfl | (simp; done) | (refine (quiet_foldl _ (fun s a => ?_) _ _).trans ?_ <;> (try dsimp only)) | split | (refine quiet_ite _ _ _ _ ?_ ?_)))
    <;> (try simp)

@[simp] theorem quiet_requeue (s : State) (ops : List VOp) : quiet (requeue s ops) = quiet s := by
  unfold requeue; (try dsimp only); (repeat' split) <;> (try simp) <;>
    (repeat' (first | rfl | (simp; done) | (refine (quiet_foldl _ (fun s a => ?_) _ _).trans ?_ <;> (try dsimp only)) | split | (refine quiet_ite _ _ _ _ ?_ ?_)))
    <;> (try simp)

@[simp] theorem quiet_markAgain (s : State) (u : VUpd) : quiet (markAgain s u) = quiet s := by
  unfold markAgain; (try dsimp only); (repeat' split) <;> (try simp) <;>
    (repeat' (first | rfl | (simp; done) | (refine (quiet_foldl _ (fun s a => ?_) _ _).trans ?_ <;> (try dsimp only)) | split | (refine quiet_ite _ _ _ _ ?_ ?_)))
    <;> (try simp)

@[simp] theorem quiet_updEnded (s : State) (u : VUpd) (err : Option Status) : quiet (updEnded s u err) = quiet s := by
  unfold updEnded; (repeat' split) <;> simp [quiet_foldl]

@[simp] theorem quiet_retryUpd (s : State) (u : VUpd) (t : List VUpd) (ws : List (Nat × Bytes)) :
    quiet (retryUpd s u t ws) = quiet s := by
  unfold retryUpd; simp

@[simp] theorem quiet_walkOn (s : State) : quiet (walkOn s) = quiet s := by
  unfold walkOn; (try dsimp only); (repeat' split) <;> (try simp) <;>
    (repeat' (first | rfl | (simp; done) | (refine (quiet_foldl _ (fun s a => ?_) _ _).trans ?_ <;> (try dsimp only)) | split | (refine quiet_ite _ _ _ _ ?_ ?_)))
    <;> (try simp)

@[simp] theorem quiet_popUpd (s : State) : quiet (popUpd s) = quiet s := by
  rfl

@[simp] theorem quiet_attemptEnded (s : State) (u : VUpd) (t : List VUpd) : quiet (attemptEnded s u t) = quiet s := by
  unfold attemptEnded; (repeat' split) <;> simp [quiet_foldl]

@[simp] theorem quiet_updWritten (s : State) (addr : Nat) (data : Bytes) (err : Option Status) :
    quiet (updWritten s addr data err) = quiet s := by
  unfold updWritten; dsimp only; (repeat' split) <;> simp

theorem quiet_nextCandidate (s : State) (u : VUpd) (s' : State) (h : nextCandidate s u = some s') : quiet s' = quiet s := by
  unfold nextCandidate at h
  split at h
  · split at h
    · cases h
    · split at h
      · cases h
      · split at h
        · cases h
        · next p hp =>
          cases h
          exact (quiet_mk (setReq p.2 _ _) ..).trans (by simpa using quiet_pickSlot s p hp)
  · cases h

@[simp] theorem quiet_forgetSlot (s : State) (u : VUpd) : quiet (forgetSlot s u) = quiet s := by
  unfold forgetSlot; split <;> simp

@[simp] theorem quiet_damageLines (s : State) (bad : List Nat) : quiet (damageLines s bad) = quiet s := by
  unfold damageLines; (try dsimp only); (repeat' split) <;> (try simp) <;>
    (repeat' (first | rfl | (simp; done) | (refine (quiet_foldl _ (fun s a => ?_) _ _).trans ?_ <;> (try dsimp only)) | split | (refine quiet_ite _ _ _ _ ?_ ?_)))
    <;> (try simp)

@[simp] theorem quiet_updReadEnded (s : State) (u : VUpd) (t : List VUpd) : quiet (updReadEnded s u t) = quiet s := by
  unfold updReadEnded
  split
  · simp
  · dsimp only
    split
    · simp
    · split
      · simp
      · split
        · next s' h => rw [quiet_walkOn, quiet_nextCandidate _ _ _ h]; simp
        · simp

@[simp] theorem quiet_updRead (s : State) (off : Nat) (b : Bytes) (err : Option Status) :
    quiet (updRead s off b err) = quiet s := by
  unfold updRead; dsimp only; (repeat' split) <;> simp

@[simp] theorem quiet_fetchGood (s : State) (f : VFetch) (leaves : List Nat) :
    quiet (fetchGood s f leaves) = quiet s := by
  unfold fetchGood; (try dsimp only); (repeat' split) <;> (try simp) <;>
    (repeat' (first | rfl | (simp; done) | (refine (quiet_foldl _ (fun s a => ?_) _ _).trans ?_ <;> (try dsimp only)) | split | (refine quiet_ite _ _ _ _ ?_ ?_)))
    <;> (try simp)

@[simp] theorem quiet_fetchEnded (s : State) (f : VFetch) : quiet (fetchEnded s f) = quiet s := by
  unfold fetchEnded; dsimp only; (repeat' split) <;> simp

@[simp] theorem quiet_fetchRead (s : State) (id off : Nat) (err : Option Status) (b : Bytes) :
    quiet (fetchRead s id off err b) = quiet s := by
  unfold fetchRead; dsimp only; (repeat' split) <;> simp

@[simp] theorem quiet_addStart (s : State) (c : Nat) : quiet (addStart s c).1 = quiet s := by
  unfold addStart
  dsimp only
  split
  · rfl
  · split <;> simp

@[simp] theorem quiet_signalChan (s : State) (c : Nat) : quiet (signalChan s c) = quiet s := by
  unfold signalChan; simp

@[simp] theorem quiet_ccbFailed (s : State) (c : Nat) : quiet (ccbFailed s c) = quiet s := by
  unfold ccbFailed; simp

@[simp] theorem quiet_modRun (s : State) (c : Nat) (g : Run → Run) : quiet (modRun s c g) = quiet s := by
  rfl

@[simp] theorem quiet_endRun (s : State) (c : Nat) (st : Status) (res : Nat) : quiet (endRun s c st res) = quiet s := by
  unfold endRun; (try dsimp only); (repeat' split) <;> (try simp) <;>
    (repeat' (first | rfl | (simp; done) | (refine (quiet_foldl _ (fun s a => ?_) _ _).trans ?_ <;> (try dsimp only)) | split | (refine quiet_ite _ _ _ _ ?_ ?_)))
    <;> (try simp)

@[simp] theorem quiet_ccbWritten (s : State) (c : Nat) (int : Bool) : quiet (ccbWritten s c int) = quiet s := by
  unfold ccbWritten; (repeat' split) <;> simp [quiet_foldl]

@[simp] theorem quiet_fetchDesc (s : State) (c : Nat) : quiet (fetchDesc s c) = quiet s := by
  unfold fetchDesc; (repeat' split) <;> simp

@[simp] theorem quiet_retireDesc (s : State) (c : Nat) (wrote : Nat) : quiet (retireDesc s c wrote) = quiet s := by
  unfold retireDesc; dsimp only; (repeat' split) <;> simp [quiet_foldl, quiet_ite]

@[simp] theorem quiet_descArrived (s : State) (c : Nat) (b : Bytes) : quiet (descArrived s c b) = quiet s := by
  unfold descArrived; dsimp only; (repeat' split) <;> simp [quiet_foldl, quiet_ite]

@[simp] theorem quiet_runReads (s : State) (c : Nat) (st : RunStage) (ps : List (Nat × Nat × Nat × Nat)) :
    quiet (runReads s c st ps) = quiet s := by
  unfold runReads; (repeat' split) <;> simp [quiet_foldl]

@[simp] theorem quiet_runWrites (s : State) (c : Nat) (ps : List (Nat × Nat × Nat)) (data : Bytes) :
    quiet (runWrites s c ps data) = quiet s := by
  unfold runWrites; (try dsimp only); (repeat' split) <;> (try simp) <;>
    (repeat' (first | rfl | (simp; done) | (refine (quiet_foldl _ (fun s a => ?_) _ _).trans ?_ <;> (try dsimp only)) | split | (refine quiet_ite _ _ _ _ ?_ ?_)))
    <;> (try simp)

@[simp] theorem quiet_runQuiet (s : State) (c : Nat) : quiet (runQuiet s c) = quiet s := by
  unfold runQuiet; (repeat' split) <;> simp

@[simp] theorem quiet_passOn (s : State) (c off : Nat) (b : Bytes) : quiet (passOn s c off b) = quiet s := by
  unfold passOn; (try dsimp only); (repeat' split) <;> (try simp) <;>
    (repeat' (first | rfl | (simp; done) | (refine (quiet_foldl _ (fun s a => ?_) _ _).trans ?_ <;> (try dsimp only)) | split | (refine quiet_ite _ _ _ _ ?_ ?_)))
    <;> (try simp)

@[simp] theorem quiet_runAnswer (s : State) (c : Nat) (o : Own) (err : Option Status) (b : Bytes) :
    quiet (runAnswer s c o err b) = quiet s := by
  unfold runAnswer; (try dsimp only); (repeat' split) <;> (try simp) <;>
    (repeat' (first | rfl | (simp; done) | (refine (quiet_foldl _ (fun s a => ?_) _ _).trans ?_ <;> (try dsimp only)) | split | (refine quiet_ite _ _ _ _ ?_ ?_)))
    <;> (try simp)

@[simp] theorem quiet_headArrived (s : State) (c : Nat) (err : Option Status) (b : Bytes) :
    quiet (headArrived s c err b) = quiet s := by
  unfold headArrived; (repeat' split) <;> simp

@[simp] theorem quiet_cdescRead (s : State) (c : Nat) (err : Option Status) (b : Bytes) :
    quiet (cdescRead s c err b) = quiet s := by
  unfold cdescRead; (repeat' split) <;> simp

@[simp] theorem quiet_stopChan (s : State) (c : Nat) (disable : Bool) : quiet (stopChan s c disable) = quiet s := by
  unfold stopChan; dsimp only; (repeat' split) <;> simp [quiet_foldl, quiet_ite]

@[simp] theorem quiet_resetActEnd (s : State) (f : Nat) : quiet (resetActEnd s f) = quiet s := by
  unfold resetActEnd; (repeat' split) <;> simp

@[simp] theorem quiet_clearCoal (s : State) (f : Nat) : quiet (clearCoal s f) = quiet s := by
  unfold clearCoal; simp [quiet_foldl]

@[simp] theorem quiet_endMail (s : State) (f : Nat) : quiet (endMail s f) = quiet s := by
  unfold endMail; (try dsimp only); (repeat' split) <;> (try simp) <;>
    (repeat' (first | rfl | (simp; done) | (refine (quiet_foldl _ (fun s a => ?_) _ _).trans ?_ <;> (try dsimp only)) | split | (refine quiet_ite _ _ _ _ ?_ ?_)))
    <;> (try simp)

@[simp] theorem quiet_resetBegin (s : State) (f : Nat) : quiet (resetBegin s f) = quiet s := by
  unfold resetBegin
  dsimp only
  refine (quiet_foldl _ (fun s n => quiet_endIncomplete ..) _ _).trans ?_
  rw [quiet_endMail, quiet_clearCoal, quiet_withdrawFn]
  refine (quiet_foldl _ (fun s c => quiet_ite _ _ _ _ (quiet_stopChan ..) rfl) _ _).trans ?_
  refine (quiet_foldl _ (fun s n => quiet_dropFetch ..) _ _).trans ?_
  simp

@[simp] theorem quiet_resetFrozen (s : State) (f : Nat) : quiet (resetFrozen s f) = quiet s := by
  unfold resetFrozen; (try dsimp only); (repeat' split) <;> (try simp) <;>
    (repeat' (first | rfl | (simp; done) | (refine (quiet_foldl _ (fun s a => ?_) _ _).trans ?_ <;> (try dsimp only)) | split | (refine quiet_ite _ _ _ _ ?_ ?_)))
    <;> (try simp)

@[simp] theorem quiet_veReset (s : State) (f : Nat) : quiet (veReset s f) = quiet s := by
  unfold veReset
  split
  · exact quiet_resetBegin ..
  · exact quiet_resetBegin ..
  · exact quiet_modFn ..
  · exact quiet_modFn ..
  · exact quiet_resetFrozen ..
  all_goals rfl

@[simp] theorem quiet_ringRestart (s : State) (n : Nat) : quiet (ringRestart s n) = quiet s := by
  rfl

@[simp] theorem quiet_thawRing (s : State) (n : Nat) : quiet (thawRing s n) = quiet s := by
  rfl

@[simp] theorem quiet_thawChan (s : State) (c : Nat) : quiet (thawChan s c) = quiet s := by
  unfold thawChan; dsimp only; (repeat' split) <;> simp [quiet_foldl, quiet_ite]

@[simp] theorem quiet_thawFn (s : State) (f : Nat) : quiet (thawFn s f) = quiet s := by
  unfold thawFn; dsimp only; (repeat' split) <;> simp [quiet_foldl]

@[simp] theorem quiet_thawOne (s : State) (f : Nat) : quiet (thawOne s f) = quiet s := by
  unfold thawOne; (try dsimp only); (repeat' split) <;> (try simp) <;>
    (repeat' (first | rfl | (simp; done) | (refine (quiet_foldl _ (fun s a => ?_) _ _).trans ?_ <;> (try dsimp only)) | split | (refine quiet_ite _ _ _ _ ?_ ?_)))
    <;> (try simp)

@[simp] theorem quiet_thawDone (s : State) : quiet (thawDone s) = quiet s := by
  unfold thawDone; (repeat' split) <;> simp [quiet_foldl]

@[simp] theorem quiet_fireTimer (s : State) (t : Nat) : quiet (fireTimer s t) = quiet s := by
  unfold fireTimer; (try dsimp only); (repeat' split) <;> (try simp) <;>
    (repeat' (first | rfl | (simp; done) | (refine (quiet_foldl _ (fun s a => ?_) _ _).trans ?_ <;> (try dsimp only)) | split | (refine quiet_ite _ _ _ _ ?_ ?_)))
    <;> (try simp)

@[simp] theorem quiet_giveRing (s : State) (f n loc : Nat) : quiet (giveRing s f n loc) = quiet s := by
  rfl

@[simp] theorem quiet_addRing (s : State) (f : Nat) : quiet (addRing s f) = quiet s := by
  unfold addRing
  split
  · rfl
  · simp

@[simp] theorem quiet_giveChan (s : State) (f c loc : Nat) : quiet (giveChan s f c loc) = quiet s := by
  rfl

@[simp] theorem quiet_addChan (s : State) (f : Nat) : quiet (addChan s f) = quiet s := by
  unfold addChan; split <;> simp

theorem quiet_times (n : Nat) (g : State → State) (s : State) (h : ∀ s, quiet (g s) = quiet s) : quiet (times n g s) = quiet s :=
  quiet_foldl _ (fun s _ => h s) _ s

@[simp] theorem quiet_trimRings (s : State) (f k : Nat) : quiet (trimRings s f k) = quiet s := by
  unfold trimRings; simp [quiet_foldl]

@[simp] theorem quiet_trimChans (s : State) (f k : Nat) : quiet (trimChans s f k) = quiet s := by
  unfold trimChans; simp [quiet_foldl]

@[simp] theorem quiet_fitPools (s : State) (f : Nat) : quiet (fitPools s f) = quiet s := by
  unfold fitPools
  dsimp only
  rw [quiet_times _ _ _ (fun s => quiet_addChan s f), quiet_trimChans, quiet_times _ _ _ (fun s => quiet_addRing s f), quiet_trimRings]

@[simp] theorem quiet_rehomeGroup (s : State) (g : Nat) : quiet (rehomeGroup s g) = quiet s := by
  unfold rehomeGroup; dsimp only; (repeat' split) <;> simp [quiet_foldl]

@[simp] theorem quiet_rehomeRegion (s : State) (m : Nat) : quiet (rehomeRegion s m) = quiet s := by
  unfold rehomeRegion; (try dsimp only); (repeat' split) <;> (try simp) <;>
    (repeat' (first | rfl | (simp; done) | (refine (quiet_foldl _ (fun s a => ?_) _ _).trans ?_ <;> (try dsimp only)) | split | (refine quiet_ite _ _ _ _ ?_ ?_)))
    <;> (try simp)

@[simp] theorem quiet_rehomeChans (s : State) (m : Nat) : quiet (rehomeChans s m) = quiet s := by
  unfold rehomeChans; (try dsimp only); (repeat' split) <;> (try simp) <;>
    (repeat' (first | rfl | (simp; done) | (refine (quiet_foldl _ (fun s a => ?_) _ _).trans ?_ <;> (try dsimp only)) | split | (refine quiet_ite _ _ _ _ ?_ ?_)))
    <;> (try simp)

@[simp] theorem quiet_modAct (s : State) (f : Nat) (g : ActJob → ActJob) : quiet (modAct s f g) = quiet s := by
  rfl

@[simp] theorem quiet_actBegin (s : State) (f : Nat) (k : ActKind) : quiet (actBegin s f k) = quiet s := by
  unfold actBegin; simp

@[simp] theorem quiet_actRead (s : State) (f off : Nat) (err : Option Status) (b : Bytes) :
    quiet (actRead s f off err b) = quiet s := by
  rfl

@[simp] theorem quiet_actWrite (s : State) (f : Nat) (out : Bytes) : quiet (actWrite s f out) = quiet s := by
  unfold actWrite; (try dsimp only); (repeat' split) <;> (try simp) <;>
    (repeat' (first | rfl | (simp; done) | (refine (quiet_foldl _ (fun s a => ?_) _ _).trans ?_ <;> (try dsimp only)) | split | (refine quiet_ite _ _ _ _ ?_ ?_)))
    <;> (try simp)

@[simp] theorem quiet_putCfg (s : State) (i : Nat) (vals : List Nat) : quiet (putCfg s i vals) = quiet s := by
  unfold putCfg; (try dsimp only); (repeat' split) <;> (try simp) <;>
    (repeat' (first | rfl | (simp; done) | (refine (quiet_foldl _ (fun s a => ?_) _ _).trans ?_ <;> (try dsimp only)) | split | (refine quiet_ite _ _ _ _ ?_ ?_)))
    <;> (try simp)

@[simp] theorem quiet_installRing (f : Nat) (s : State) (x : BodyItem) : quiet (installRing f s x) = quiet s := by
  unfold installRing; (try dsimp only); (repeat' split) <;> (try simp) <;>
    (repeat' (first | rfl | (simp; done) | (refine (quiet_foldl _ (fun s a => ?_) _ _).trans ?_ <;> (try dsimp only)) | split | (refine quiet_ite _ _ _ _ ?_ ?_)))
    <;> (try simp)

@[simp] theorem quiet_installChan (f : Nat) (s : State) (x : BodyItem) : quiet (installChan f s x) = quiet s := by
  unfold installChan; (try dsimp only); (repeat' split) <;> (try simp) <;>
    (repeat' (first | rfl | (simp; done) | (refine (quiet_foldl _ (fun s a => ?_) _ _).trans ?_ <;> (try dsimp only)) | split | (refine quiet_ite _ _ _ _ ?_ ?_)))
    <;> (try simp)

@[simp] theorem quiet_installAfter (f : Nat) (s : State) (x : BodyItem) : quiet (installAfter f s x) = quiet s := by
  unfold installAfter; (try dsimp only); (repeat' split) <;> (try simp) <;>
    (repeat' (first | rfl | (simp; done) | (refine (quiet_foldl _ (fun s a => ?_) _ _).trans ?_ <;> (try dsimp only)) | split | (refine quiet_ite _ _ _ _ ?_ ?_)))
    <;> (try simp)

@[simp] theorem quiet_claimSlot (s : State) (i : Nat) : quiet (claimSlot s i) = quiet s := by
  rfl

@[simp] theorem quiet_putQuotas (s : State) (f : Nat) (b : Body) : quiet (putQuotas s f b) = quiet s := by
  unfold putQuotas; (try dsimp only); (repeat' split) <;> (try simp) <;>
    (repeat' (first | rfl | (simp; done) | (refine (quiet_foldl _ (fun s a => ?_) _ _).trans ?_ <;> (try dsimp only)) | split | (refine quiet_ite _ _ _ _ ?_ ?_)))
    <;> (try simp)

@[simp] theorem quiet_holdFor (s : State) (f : Nat) (b : Body) : quiet (holdFor s f b) = quiet s := by
  unfold holdFor; (try dsimp only); (repeat' split) <;> (try simp) <;>
    (repeat' (first | rfl | (simp; done) | (refine (quiet_foldl _ (fun s a => ?_) _ _).trans ?_ <;> (try dsimp only)) | split | (refine quiet_ite _ _ _ _ ?_ ?_)))
    <;> (try simp)

@[simp] theorem quiet_installFn (s : State) (f : Nat) (b : Body) (ses was : Session) (ack : Bytes) :
    quiet (installFn s f b ses was ack) = quiet s := by
  unfold installFn; (try dsimp only); (repeat' split) <;> (try simp) <;>
    (repeat' (first | rfl | (simp; done) | (refine (quiet_foldl _ (fun s a => ?_) _ _).trans ?_ <;> (try dsimp only)) | split | (refine quiet_ite _ _ _ _ ?_ ?_)))
    <;> (try simp)

@[simp] theorem quiet_takeBack (s : State) (f : Nat) (a : ActJob) (err : Status) :
    quiet (takeBack s f a err) = quiet s := by
  unfold takeBack; (try dsimp only); (repeat' split) <;> (try simp) <;>
    (repeat' (first | rfl | (simp; done) | (refine (quiet_foldl _ (fun s a => ?_) _ _).trans ?_ <;> (try dsimp only)) | split | (refine quiet_ite _ _ _ _ ?_ ?_)))
    <;> (try simp)

@[simp] theorem quiet_actEffect (s : State) (f : Nat) (a : ActJob) : quiet (actEffect s f a) = quiet s := by
  unfold actEffect; split <;> simp

@[simp] theorem quiet_actWritten (s : State) (f : Nat) (err : Option Status) : quiet (actWritten s f err) = quiet s := by
  unfold actWritten; dsimp only; (repeat' split) <;> simp [quiet_foldl, quiet_ite]

@[simp] theorem quiet_probePort (s : State) (p : Nat) (vigil : Bool) : quiet (probePort s p vigil) = quiet s := by
  unfold probePort; simp

@[simp] theorem quiet_surveyEnd (s : State) : quiet (surveyEnd s) = quiet s := by
  rfl

@[simp] theorem quiet_probeEnded (s : State) (p : Nat) (err : Option Status) : quiet (probeEnded s p err) = quiet s := by
  unfold probeEnded; dsimp only; (repeat' split) <;> simp [quiet_foldl, quiet_ite]

@[simp] theorem quiet_lateError (s : State) (o : Own) : quiet (lateError s o) = quiet s := by
  unfold lateError; dsimp only; (repeat' split) <;> simp [quiet_foldl, quiet_ite]

@[simp] theorem quiet_noteErr (s : State) (o : Own) (e : Status) : quiet (noteErr s o e) = quiet s := by
  unfold noteErr; (try dsimp only); (repeat' split) <;> (try simp) <;>
    (repeat' (first | rfl | (simp; done) | (refine (quiet_foldl _ (fun s a => ?_) _ _).trans ?_ <;> (try dsimp only)) | split | (refine quiet_ite _ _ _ _ ?_ ?_)))
    <;> (try simp)

@[simp] theorem quiet_descRead (s : State) (n first count : Nat) (err : Option Status) (b : Bytes) :
    quiet (descRead s n first count err b) = quiet s := by
  unfold descRead; (repeat' split) <;> simp [quiet_foldl]

@[simp] theorem quiet_answered (s : State) (o : Own) (addr : Nat) (data : Bytes) (err : Option Status) :
    quiet (answered s o addr data err) = quiet s := by
  unfold answered; (try dsimp only); (repeat' split) <;> (try simp) <;>
    (repeat' (first | rfl | (simp; done) | (refine (quiet_foldl _ (fun s a => ?_) _ _).trans ?_ <;> (try dsimp only)) | split | (refine quiet_ite _ _ _ _ ?_ ?_)))
    <;> (try simp)

@[simp] theorem quiet_retireTxn (s : State) (t : Txn) (err : Option Status) : quiet (retireTxn s t err) = quiet s := by
  unfold retireTxn; dsimp only; split <;> simp

@[simp] theorem quiet_modTxn (s : State) (port tag : Nat) (g : Txn → Txn) : quiet (modTxn s port tag g) = quiet s := by
  rfl

@[simp] theorem quiet_cancelWaiting (s : State) (o : Own) : quiet (cancelWaiting s o) = quiet s := by
  unfold cancelWaiting; split <;> simp

@[simp] theorem quiet_failTxn (s : State) (t : Txn) (e : Status) : quiet (failTxn s t e) = quiet s := by
  unfold failTxn; dsimp only; split <;> simp

@[simp] theorem quiet_protocolBreak (s : State) (port tag : Nat) : quiet (protocolBreak s port tag) = quiet s := by
  unfold protocolBreak; dsimp only; (repeat' split) <;> simp [quiet_foldl, quiet_ite]

@[simp] theorem quiet_portError (s : State) (port : Nat) (resp : BitVec 2) (cut : Bool) :
    quiet (portError s port resp cut) = quiet s := by
  unfold portError; (try dsimp only); (repeat' split) <;> (try simp) <;>
    (repeat' (first | rfl | (simp; done) | (refine (quiet_foldl _ (fun s a => ?_) _ _).trans ?_ <;> (try dsimp only)) | split | (refine quiet_ite _ _ _ _ ?_ ?_)))
    <;> (try simp)

@[simp] theorem quiet_lateAnswer (s : State) (t : Txn) : quiet (lateAnswer s t) = quiet s := by
  rfl

@[simp] theorem quiet_readBeat (port tag : Nat) (resp : BitVec 2) (last : Bool) (data : Bytes) (s : State) :
    quiet (readBeat port tag resp last data s) = quiet s := by
  unfold readBeat; (try dsimp only); (repeat' split) <;> (try simp) <;>
    (repeat' (first | rfl | (simp; done) | (refine (quiet_foldl _ (fun s a => ?_) _ _).trans ?_ <;> (try dsimp only)) | split | (refine quiet_ite _ _ _ _ ?_ ?_)))
    <;> (try simp)

@[simp] theorem quiet_writeResponse (port tag : Nat) (resp : BitVec 2) (s : State) :
    quiet (writeResponse port tag resp s) = quiet s := by
  unfold writeResponse; (try dsimp only); (repeat' split) <;> (try simp) <;>
    (repeat' (first | rfl | (simp; done) | (refine (quiet_foldl _ (fun s a => ?_) _ _).trans ?_ <;> (try dsimp only)) | split | (refine quiet_ite _ _ _ _ ?_ ?_)))
    <;> (try simp)

@[simp] theorem quiet_portTimeout (port tag : Nat) (s : State) : quiet (portTimeout port tag s) = quiet s := by
  unfold portTimeout; dsimp only; (repeat' split) <;> simp [quiet_foldl, quiet_ite]

@[simp] theorem quiet_vaultTimeout (port tag : Nat) (s : State) : quiet (vaultTimeout port tag s) = quiet s := by
  unfold vaultTimeout; (repeat' split) <;> simp

@[simp] theorem quiet_eraseKeys (s : State) : quiet (eraseKeys s) = quiet s := by
  rfl

@[simp] theorem quiet_noteUnnamed (s : State) : quiet (noteUnnamed s) = quiet s := by
  unfold noteUnnamed; (try dsimp only); (repeat' split) <;> (try simp) <;>
    (repeat' (first | rfl | (simp; done) | (refine (quiet_foldl _ (fun s a => ?_) _ _).trans ?_ <;> (try dsimp only)) | split | (refine quiet_ite _ _ _ _ ?_ ?_)))
    <;> (try simp)

@[simp] theorem quiet_dropUpds (s : State) (p : VUpd → Bool) : quiet (dropUpds s p) = quiet s := by
  unfold dropUpds; (try dsimp only); (repeat' split) <;> (try simp) <;>
    (repeat' (first | rfl | (simp; done) | (refine (quiet_foldl _ (fun s a => ?_) _ _).trans ?_ <;> (try dsimp only)) | split | (refine quiet_ite _ _ _ _ ?_ ?_)))
    <;> (try simp)

@[simp] theorem quiet_rerun (s : State) (r : Nat) : quiet (rerun s r) = quiet s := by
  unfold rerun; (try dsimp only); (repeat' split) <;> (try simp) <;>
    (repeat' (first | rfl | (simp; done) | (refine (quiet_foldl _ (fun s a => ?_) _ _).trans ?_ <;> (try dsimp only)) | split | (refine quiet_ite _ _ _ _ ?_ ?_)))
    <;> (try simp)

@[simp] theorem quiet_offCell (s : State) (u r : Nat) : quiet (offCell s u r) = quiet s := by
  unfold offCell; dsimp only; (repeat' split) <;> simp [quiet_foldl, quiet_ite]

@[simp] theorem quiet_noCell (s : State) (r : Nat) : quiet (noCell s r) = quiet s := by
  unfold noCell; split <;> simp

@[simp] theorem quiet_cellDown (s : State) (u : Nat) : quiet (cellDown s u) = quiet s := by
  unfold cellDown; (repeat' split) <;> simp [quiet_foldl]

@[simp] theorem quiet_rehouse (s : State) (e : CacheEnt) : quiet (rehouse s e) = quiet s := by
  unfold rehouse; (try dsimp only); (repeat' split) <;> (try simp) <;>
    (repeat' (first | rfl | (simp; done) | (refine (quiet_foldl _ (fun s a => ?_) _ _).trans ?_ <;> (try dsimp only)) | split | (refine quiet_ite _ _ _ _ ?_ ?_)))
    <;> (try simp)

@[simp] theorem quiet_rebank (s : State) : quiet (rebank s) = quiet s := by
  unfold rebank; (try dsimp only); (repeat' split) <;> (try simp) <;>
    (repeat' (first | rfl | (simp; done) | (refine (quiet_foldl _ (fun s a => ?_) _ _).trans ?_ <;> (try dsimp only)) | split | (refine quiet_ite _ _ _ _ ?_ ?_)))
    <;> (try simp)

@[simp] theorem quiet_portDown (s : State) (p : Nat) : quiet (portDown s p) = quiet s := by
  unfold portDown; (try dsimp only); (repeat' split) <;> (try simp) <;>
    (repeat' (first | rfl | (simp; done) | (refine (quiet_foldl _ (fun s a => ?_) _ _).trans ?_ <;> (try dsimp only)) | split | (refine quiet_ite _ _ _ _ ?_ ?_)))
    <;> (try simp)

@[simp] theorem quiet_runMoved (s : State) (c : Nat) : quiet (runMoved s c) = quiet s := by
  unfold runMoved; dsimp only; (repeat' split) <;> simp [quiet_foldl, quiet_ite]

@[simp] theorem quiet_moverDown (s : State) (m : Nat) : quiet (moverDown s m) = quiet s := by
  unfold moverDown; (try dsimp only); (repeat' split) <;> (try simp) <;>
    (repeat' (first | rfl | (simp; done) | (refine (quiet_foldl _ (fun s a => ?_) _ _).trans ?_ <;> (try dsimp only)) | split | (refine quiet_ite _ _ _ _ ?_ ?_)))
    <;> (try simp)

@[simp] theorem quiet_sourceDown (s : State) (n : Nat) : quiet (sourceDown s n) = quiet s := by
  rfl

@[simp] theorem quiet_backToKey (s : State) (r : Nat) : quiet (backToKey s r) = quiet s := by
  unfold backToKey; split <;> simp

@[simp] theorem quiet_restep (s : State) (r : Nat) : quiet (restep s r) = quiet s := by
  unfold restep; (try dsimp only); (repeat' split) <;> (try simp) <;>
    (repeat' (first | rfl | (simp; done) | (refine (quiet_foldl _ (fun s a => ?_) _ _).trans ?_ <;> (try dsimp only)) | split | (refine quiet_ite _ _ _ _ ?_ ?_)))
    <;> (try simp)

@[simp] theorem quiet_seqDown (s : State) (u : Nat) : quiet (seqDown s u) = quiet s := by
  unfold seqDown; (try dsimp only); (repeat' split) <;> (try simp) <;>
    (repeat' (first | rfl | (simp; done) | (refine (quiet_foldl _ (fun s a => ?_) _ _).trans ?_ <;> (try dsimp only)) | split | (refine quiet_ite _ _ _ _ ?_ ?_)))
    <;> (try simp)

@[simp] theorem quiet_groupDown (s : State) (g : Nat) : quiet (groupDown s g) = quiet s := by
  unfold groupDown; (try dsimp only); (repeat' split) <;> (try simp) <;>
    (repeat' (first | rfl | (simp; done) | (refine (quiet_foldl _ (fun s a => ?_) _ _).trans ?_ <;> (try dsimp only)) | split | (refine quiet_ite _ _ _ _ ?_ ?_)))
    <;> (try simp)

@[simp] theorem quiet_regionDown (s : State) (m : Nat) : quiet (regionDown s m) = quiet s := by
  unfold regionDown
  dsimp only
  refine (quiet_mk _ ..).trans ?_
  refine (quiet_foldl _ (fun s i => quiet_portDown ..) _ _).trans ?_
  refine (quiet_foldl _ (fun s i => quiet_moverDown ..) _ _).trans ?_
  refine (quiet_foldl _ (fun s n => quiet_endWaiting ..) _ _).trans ?_
  refine (quiet_foldl _ (fun s n => ?_) _ _).trans ?_
  · (repeat' split) <;> simp
  · rw [quiet_rehomeRegion]
    exact quiet_foldl _ (fun s n => quiet_dropFetch ..) _ _

@[simp] theorem quiet_afterChange (old s : State) : quiet (afterChange old s) = quiet s := by
  unfold afterChange
  dsimp only
  have h1 := quiet_foldl (fun t m => if regionUp old m && !regionUp s m then regionDown t m else t)
    (fun t m => quiet_ite _ _ _ _ (quiet_regionDown ..) rfl) (List.range 4) s
  generalize List.foldl _ s (List.range 4) = s1 at *
  have h2 := quiet_foldl (fun t g => if groupUp old g && !groupUp s1 g && regionUp t (g / 2) then groupDown t g else t)
    (fun t m => quiet_ite _ _ _ _ (quiet_groupDown ..) rfl) (List.range 8) s1
  generalize List.foldl _ s1 (List.range 8) = s2 at *
  rw [← h1, ← h2]
  have h3 : quiet (if (List.range 16).any fun b => active old (unitAt .kc b) != active s2 (unitAt .kc b) then rebank s2 else s2) =
      quiet s2 := quiet_ite _ _ _ _ (quiet_rebank ..) rfl
  generalize (if (List.range 16).any fun b => active old (unitAt .kc b) != active s2 (unitAt .kc b) then rebank s2 else s2) = s3 at *
  have h4 : quiet (if (upRegions s3).isEmpty && !(upRegions old).isEmpty then raiseSrc s3 516 else s3) = quiet s3 :=
    quiet_ite _ _ _ _ (quiet_raiseSrc ..) rfl
  generalize (if (upRegions s3).isEmpty && !(upRegions old).isEmpty then raiseSrc s3 516 else s3) = s4 at *
  rw [← h3, ← h4]
  exact quiet_ite _ _ _ _ (quiet_raiseSrc ..) rfl

@[simp] theorem quiet_unitDown (s : State) (u : Nat) : quiet (unitDown s u) = quiet s := by
  unfold unitDown; split <;> simp

@[simp] theorem quiet_setUnitState (s : State) (u : Nat) (st : UnitState) : quiet (setUnitState s u st) = quiet s := by
  unfold setUnitState; simp [quiet_foldl]

@[simp] theorem quiet_alarmOver (s : State) : quiet (alarmOver s) = quiet s := by
  unfold alarmOver; split <;> simp

@[simp] theorem quiet_takeDown (s : State) (u : Nat) (st : UnitState) : quiet (takeDown s u st) = quiet s := by
  unfold takeDown
  dsimp only
  rw [quiet_alarmOver, quiet_unitDown, quiet_afterChange, quiet_modUnit]
  refine quiet_foldl _ (fun s a => ?_) _ _
  split
  · exact quiet_modUnit ..
  · rfl

@[simp] theorem quiet_fenceUnit (s : State) (u : Nat) : quiet (fenceUnit s u) = quiet s := by
  unfold fenceUnit; split <;> simp

@[simp] theorem quiet_rehomeIdle (s : State) : quiet (rehomeIdle s) = quiet s := by
  unfold rehomeIdle; (try dsimp only); (repeat' split) <;> (try simp) <;>
    (repeat' (first | rfl | (simp; done) | (refine (quiet_foldl _ (fun s a => ?_) _ _).trans ?_ <;> (try dsimp only)) | split | (refine quiet_ite _ _ _ _ ?_ ?_)))
    <;> (try simp)

@[simp] theorem quiet_noneLeft (s : State) (u : Nat) : quiet (noneLeft s u) = quiet s := by
  unfold noneLeft; (try dsimp only); (repeat' split) <;> (try simp) <;>
    (repeat' (first | rfl | (simp; done) | (refine (quiet_foldl _ (fun s a => ?_) _ _).trans ?_ <;> (try dsimp only)) | split | (refine quiet_ite _ _ _ _ ?_ ?_)))
    <;> (try simp)

@[simp] theorem quiet_failTest (s : State) (u : Nat) : quiet (failTest s u) = quiet s := by
  unfold failTest; (try dsimp only); (repeat' split) <;> (try simp) <;>
    (repeat' (first | rfl | (simp; done) | (refine (quiet_foldl _ (fun s a => ?_) _ _).trans ?_ <;> (try dsimp only)) | split | (refine quiet_ite _ _ _ _ ?_ ?_)))
    <;> (try simp)

theorem quiet_whenUp (s t : State) (h : quiet t = quiet s) : quiet (whenUp s t) = quiet s := by
  unfold whenUp
  split <;> simp [h]

@[simp] theorem quiet_handOver (s : State) : quiet (handOver s) = quiet s := by
  rfl

@[simp] theorem quiet_noteReady (s : State) : quiet (noteReady s) = quiet s := by
  unfold noteReady; split <;> simp

@[simp] theorem quiet_applyEnable (s : State) (f : Nat) : quiet (applyEnable s f) = quiet s := by
  unfold applyEnable; dsimp only; (repeat' split) <;> simp [quiet_foldl, quiet_ite]

@[simp] theorem quiet_applyEnables (s : State) : quiet (applyEnables s) = quiet s := by
  unfold applyEnables; (repeat' split) <;> simp [quiet_foldl]

@[simp] theorem quiet_noteNormal (s : State) : quiet (noteNormal s) = quiet s := by
  unfold noteNormal; split <;> simp

@[simp] theorem quiet_noteVault (s : State) : quiet (noteVault s) = quiet s := by
  unfold noteVault; split <;> simp

@[simp] theorem quiet_bringWatch (s : State) : quiet (bringWatch s) = quiet s := by
  unfold bringWatch; simp

@[simp] theorem quiet_unitOut (s : State) (u : Nat) : quiet (unitOut s u) = quiet s := by
  unfold unitOut; split <;> simp

@[simp] theorem quiet_drainsOver (s : State) : quiet (drainsOver s) = quiet s := by
  unfold drainsOver; (repeat' split) <;> simp [quiet_foldl]

@[simp] theorem quiet_takeValues (s : State) (r : Nat) (q : Req) (st : Option Bytes) :
    quiet (takeValues s r q st) = quiet s := by
  have h (w : Bool) (f : Nat) (x : FnRec) : quiet (if w then setFn s f x else s) = quiet s := quiet_ite _ _ _ _ (quiet_setFn ..) rfl
  unfold takeValues
  extract_lets
  split
  · exact quiet_ite _ _ _ _ ((quiet_beginData ..).trans ((quiet_setReq ..).trans ((quiet_cacheMod ..).trans (h ..))))
      ((quiet_submitUpd ..).trans ((quiet_setReq ..).trans ((quiet_cacheMod ..).trans (h ..))))
  · exact quiet_ite _ _ _ _ ((quiet_beginData ..).trans ((quiet_setReq ..).trans (h ..)))
      ((quiet_submitUpd ..).trans ((quiet_setReq ..).trans (h ..)))

@[simp] theorem quiet_checkNine (s : State) (r : Nat) (q : Req) (st : Option Bytes) (go : State) (h : quiet go = quiet s) :
    quiet (checkNine s r q st go) = quiet s := by
  unfold checkNine
  split
  · simp
  · split
    · simp
    · split <;> simp [h]

@[simp] theorem quiet_symAccept (s : State) (r : Nat) (q : Req) : quiet (symAccept s r q) = quiet s := by
  unfold symAccept
  split
  · simp
  · split
    · split
      · simp
      · rw [quiet_checkNine]; simp
    · rw [quiet_checkNine]; simp

@[simp] theorem quiet_compareEnd (s : State) (r : Nat) (q : Req) (stream : Bytes) :
    quiet (compareEnd s r q stream) = quiet s := by
  unfold compareEnd; split <;> simp

@[simp] theorem quiet_echoFails (s : State) (r : Nat) (q : Req) (x : Seg) (i : Nat) :
    quiet (echoFails s r q x i) = quiet s := by
  unfold echoFails; dsimp only
  refine (quiet_failWith _ _ _ fun t => ?_).trans (quiet_mk ..)
  exact quiet_ite _ _ _ _ (quiet_writeOut ..) (quiet_failStep ..)

@[simp] theorem quiet_symPut (s : State) (r : Nat) (q : Req) (x : Seg) : quiet (symPut s r q x) = quiet s := by
  unfold symPut; (try dsimp only); (repeat' split) <;> (try simp) <;>
    (repeat' (first | rfl | (simp; done) | (refine (quiet_foldl _ (fun s a => ?_) _ _).trans ?_ <;> (try dsimp only)) | split | (refine quiet_ite _ _ _ _ ?_ ?_)))
    <;> (try simp)

theorem quiet_symEnd (s : State) (r : Nat) (q : Req) (place : State → Seg → State)
    (h : ∀ s x, quiet (place s x) = quiet s) : quiet (symEnd s r q place) = quiet s := by
  unfold symEnd; dsimp only
  split
  · simp
  · rw [h]; simp

@[simp] theorem quiet_symFinish (s : State) (r : Nat) (q : Req) : quiet (symFinish s r q) = quiet s :=
  quiet_symEnd _ _ _ _ fun _ _ => quiet_symPut ..

@[simp] theorem quiet_symStep (o : Op) (r : Nat) (s : State) : quiet (symStep o r s) = quiet s := by
  unfold symStep; (repeat' split) <;> simp

theorem quiet_whenReq (o : Op) (p : Phase) (r : Nat) (s : State) (f : Req → State) (h : ∀ q, quiet (f q) = quiet s) :
    quiet (whenReq o p r s f) = quiet s := by
  unfold whenReq
  split
  · rfl
  · split
    · simp [h]
    · rfl

@[simp] theorem quiet_nopOp (r : Nat) (s : State) : quiet (nopOp r s) = quiet s := quiet_whenReq _ _ _ _ _ fun _ => by simp

@[simp] theorem quiet_nopSignalOp (r : Nat) (s : State) : quiet (nopSignalOp r s) = quiet s := quiet_whenReq _ _ _ _ _ fun _ => by simp

@[simp] theorem quiet_contextInfoOp (r : Nat) (s : State) : quiet (contextInfoOp r s) = quiet s := by
  unfold contextInfoOp
  refine quiet_whenReq _ _ _ _ _ fun q => ?_
  (repeat' split) <;> simp

@[simp] theorem quiet_contextCloseOp (r : Nat) (s : State) : quiet (contextCloseOp r s) = quiet s :=
  quiet_whenReq _ _ _ _ _ fun _ => by (try dsimp only); (repeat' split) <;> simp

@[simp] theorem quiet_askWire (s : State) (w : Wire) : quiet (askWire s w) = quiet s := by
  unfold askWire; split <;> simp

@[simp] theorem quiet_takeReserve (s : State) (n : Nat) : quiet (takeReserve s n).2 = quiet s := by
  unfold takeReserve; (try dsimp only); (repeat' split) <;> (try simp) <;>
    (repeat' (first | rfl | (simp; done) | (refine (quiet_foldl _ (fun s a => ?_) _ _).trans ?_ <;> (try dsimp only)) | split | (refine quiet_ite _ _ _ _ ?_ ?_)))
    <;> (try simp)

theorem quiet_takeNow (s : State) (n cls : Nat) (d : Bytes × State) (h : takeNow s n cls = some d) : quiet d.2 = quiet s := by
  unfold takeNow at h
  split at h
  · cases h; simp
  · cases h

@[simp] theorem quiet_drbgReseed (s : State) (seed addl : Bytes) : quiet (drbgReseed s seed addl) = quiet s := by
  rfl

theorem quiet_drbgNext (s t : State) (a b : Bytes) (h : drbgNext s a = some (t, b)) : quiet t = quiet s := by
  unfold drbgNext at h
  split at h
  · cases h; rfl
  · obtain ⟨d, hd, he⟩ := Option.map_eq_some_iff.mp h
    cases he
    simp [quiet_takeNow _ _ _ _ hd]

theorem quiet_drbgReady (s t : State) (h : drbgReady s = some t) : quiet t = quiet s := by
  unfold drbgReady at h
  obtain ⟨⟨x, b⟩, hd, rfl⟩ := Option.map_eq_some_iff.mp h
  exact quiet_drbgNext s x [] b hd

@[simp] theorem quiet_drbgCall (s : State) (addl : Bytes) (n : Nat) : quiet (drbgCall s addl n).2 = quiet s := by
  unfold drbgCall; (try dsimp only); (repeat' split) <;> (try simp) <;>
    (repeat' (first | rfl | (simp; done) | (refine (quiet_foldl _ (fun s a => ?_) _ _).trans ?_ <;> (try dsimp only)) | split | (refine quiet_ite _ _ _ _ ?_ ?_)))
    <;> (try simp)

@[simp] theorem quiet_awaitWires (s : State) (r bits : Nat) : quiet (awaitWires s r bits) = quiet s := by
  unfold awaitWires; simp

@[simp] theorem quiet_awaitDrbg (s : State) (r : Nat) : quiet (awaitDrbg s r) = quiet s := by
  unfold awaitDrbg; (try dsimp only); (repeat' split) <;> (try simp) <;>
    (repeat' (first | rfl | (simp; done) | (refine (quiet_foldl _ (fun s a => ?_) _ _).trans ?_ <;> (try dsimp only)) | split | (refine quiet_ite _ _ _ _ ?_ ?_)))
    <;> (try simp)

@[simp] theorem quiet_reserve (s : State) (r : Nat) (q : Req) (a b c : Bool) (t : State) (h : reserve s r q a b c = some t) :
    quiet t = quiet s := by
  unfold reserve at h
  split at h
  · cases h; rfl
  · split at h
    · cases h; simp
    · cases h

@[simp] theorem quiet_newRecord (s : State) (f policy : Nat) (tag mat : Bytes) (limLog : Nat) :
    quiet (newRecord s f policy tag mat limLog).2 = quiet s := by
  unfold newRecord
  dsimp only
  split <;> simp

@[simp] theorem quiet_putSlot (s : State) (r : Nat) (q : Req) (policy : Nat) (tag mat : Bytes) (limLog : Nat) (tail : Bytes) :
    quiet (putSlot s r q policy tag mat limLog tail) = quiet s := by
  unfold putSlot
  split
  · simp
  · next p hp => simp [quiet_pickSlot s p hp]

@[simp] theorem quiet_createSlot (s : State) (r policy : Nat) (tag mat : Bytes) (limLog : Nat) (tail : Bytes) :
    quiet (createSlot s r policy tag mat limLog tail) = quiet s := by
  unfold createSlot
  split
  · rfl
  · split
    · simp
    · split
      · simp
      · simp
      · next t _ h => simp [quiet_drbgReady _ _ h]

theorem quiet_thenLoaded (s : State) (r : Nat) (f : State → Req → State) (h : ∀ q, quiet (f s q) = quiet s) :
    quiet (thenLoaded s r f) = quiet s := by
  unfold thenLoaded
  split
  · rfl
  · split
    · simp [h]
    · rfl

@[simp] theorem quiet_unitFails (s : State) (r : Nat) (q : Req) : quiet (unitFails s r q) = quiet s := by
  unfold unitFails
  exact quiet_failWith _ _ _ fun _ => by simp

@[simp] theorem quiet_resultFails (s : State) (r : Nat) (q : Req) : quiet (resultFails s r q) = quiet s := by
  unfold resultFails; (try dsimp only); (repeat' split) <;> (try simp) <;>
    (repeat' (first | rfl | (simp; done) | (refine (quiet_foldl _ (fun s a => ?_) _ _).trans ?_ <;> (try dsimp only)) | split | (refine quiet_ite _ _ _ _ ?_ ?_)))
    <;> (try simp)

@[simp] theorem quiet_pairFails (s : State) (r : Nat) (q : Req) : quiet (pairFails s r q) = quiet s := by
  unfold pairFails; (try dsimp only); (repeat' split) <;> (try simp) <;>
    (repeat' (first | rfl | (simp; done) | (refine (quiet_foldl _ (fun s a => ?_) _ _).trans ?_ <;> (try dsimp only)) | split | (refine quiet_ite _ _ _ _ ?_ ?_)))
    <;> (try simp)

@[simp] theorem quiet_pairTest (s : State) (r : Nat) (q : Req) (policy : Nat) (mat : Bytes) (misfit good : State)
    (h : quiet misfit = quiet s) (k : quiet good = quiet s) : quiet (pairTest s r q policy mat misfit good) = quiet s := by
  unfold pairTest; split
  · simp
  · split <;> assumption

@[simp] theorem quiet_countPka (s : State) : quiet (countPka s) = quiet s := by
  unfold countPka; (try dsimp only); (repeat' split) <;> (try simp) <;>
    (repeat' (first | rfl | (simp; done) | (refine (quiet_foldl _ (fun s a => ?_) _ _).trans ?_ <;> (try dsimp only)) | split | (refine quiet_ite _ _ _ _ ?_ ?_)))
    <;> (try simp)

@[simp] theorem quiet_ringCount (s : State) (n : Nat) (v : U32) : quiet (ringCount s n v) = quiet s := by
  unfold ringCount; dsimp only; (repeat' split) <;> simp [quiet_foldl, quiet_ite]

@[simp] theorem quiet_ringDoorbell (f : Nat) (off : BitVec 13) (v : U32) (s : State) :
    quiet (ringDoorbell f off v s) = quiet s := by
  unfold ringDoorbell; dsimp only; (repeat' split) <;> simp [quiet_foldl, quiet_ite]

@[simp] theorem quiet_wakeGroup (s : State) (g : Nat) : quiet (wakeGroup s g) = quiet s :=
  quiet_foldl _ (fun s u => quiet_modUnit s u _) _ _

@[simp] theorem quiet_descriptorFetch (n : Nat) (s : State) : quiet (descriptorFetch n s) = quiet s := by
  unfold descriptorFetch; split <;> simp

@[simp] theorem quiet_coalTime (n : Nat) (s : State) : quiet (coalTime n s) = quiet s := by
  unfold coalTime; split <;> simp

@[simp] theorem quiet_chainWaitEnd (g : Nat) (s : State) : quiet (chainWaitEnd g s) = quiet s := by
  unfold chainWaitEnd; dsimp only; (repeat' split) <;> simp [quiet_foldl, quiet_ite]

@[simp] theorem quiet_echoStagingWaitEnd (g : Nat) (s : State) : quiet (echoStagingWaitEnd g s) = quiet s := by
  unfold echoStagingWaitEnd; dsimp only; (repeat' split) <;> simp [quiet_foldl, quiet_ite]

@[simp] theorem quiet_cacheWayRelease (bank set : Nat) (s : State) : quiet (cacheWayRelease bank set s) = quiet s := by
  unfold cacheWayRelease; dsimp only; (repeat' split) <;> simp [quiet_foldl, quiet_ite]

@[simp] theorem quiet_interruptStall (s : State) : quiet (interruptStall s) = quiet s := by
  unfold interruptStall; split <;> simp

@[simp] theorem quiet_calendarEpoch (s : State) : quiet (calendarEpoch s) = quiet s := by
  unfold calendarEpoch; split <;> simp

@[simp] theorem quiet_grantReq (s : State) (k : Kind) (g cont r : Nat) : quiet (grantReq s k g cont r) = quiet s := by
  unfold grantReq
  split
  · rfl
  · dsimp only
    rw [quiet_setReq, quiet_foldl _ (fun s u => quiet_modUnit s u _)]
    simp

@[simp] theorem quiet_served (s : State) (k f : Nat) : quiet (served s k f) = quiet s := by
  rfl

@[simp] theorem quiet_grantUnits (s : State) (k : Kind) (g cont : Nat) : quiet (grantUnits s k g cont) = quiet s := by
  unfold grantUnits; dsimp only; (repeat' split) <;> simp [quiet_foldl, quiet_ite]

@[simp] theorem quiet_grantCredit (s : State) (k : Nat) : quiet (grantCredit s k) = quiet s := by
  unfold grantCredit
  dsimp only
  split
  · rfl
  · split
    · rfl
    · split
      · rfl
      · split
        · rfl
        · next h => rw [quiet_served, quiet_tryIssue _ _ _ h]; simp

theorem quiet_sendFirst (s t : State) (k : Nat) (p : Burst → Bool) (h : sendFirst s k p = some t) : quiet t = quiet s := by
  unfold sendFirst at h
  split at h
  · cases h
  · split at h
    · cases h
    · exact (quiet_tryIssue _ _ _ h).trans (quiet_mk ..)

@[simp] theorem quiet_grantBurst (s : State) (k : Nat) : quiet (grantBurst s k) = quiet s := by
  unfold grantBurst
  split
  · next h => exact quiet_sendFirst _ _ _ _ h
  · simp

@[simp] theorem quiet_grantUpdate (s : State) (k : Nat) : quiet (grantUpdate s k) = quiet s := by
  unfold grantUpdate
  cases h : sendFirst s k Burst.isUpd with
  | none => rfl
  | some t => exact quiet_sendFirst _ _ _ _ h

@[simp] theorem quiet_calendarGrant (c : Container) (s : State) : quiet (calendarGrant c s) = quiet s := by
  unfold calendarGrant; (repeat' split) <;> simp

@[simp] theorem quiet_clockGate (u : Nat) (s : State) : quiet (clockGate u s) = quiet s := by
  unfold clockGate; split <;> simp

@[simp] theorem quiet_powerEstimate (s : State) : quiet (powerEstimate s) = quiet s := by
  unfold powerEstimate; dsimp only; (repeat' split) <;> simp

theorem quiet_whenKnown (s : State) (port tag : Nat) (t : State) (h : quiet t = quiet s) : quiet (whenKnown s port tag t) = quiet s := by
  unfold whenKnown
  split <;> simp [h]

@[simp] theorem quiet_readAnswer (port tag : Nat) (resp : BitVec 2) (last : Bool) (data : Bytes) (s : State) :
    quiet (readAnswer port tag resp last data s) = quiet s := by
  unfold readAnswer; (try dsimp only); (repeat' split) <;> (try simp) <;>
    (repeat' (first | rfl | (simp; done) | (refine (quiet_foldl _ (fun s a => ?_) _ _).trans ?_ <;> (try dsimp only)) | split | (refine quiet_ite _ _ _ _ ?_ ?_)))
    <;> (try simp)

@[simp] theorem quiet_writeAnswer (port tag : Nat) (resp : BitVec 2) (s : State) :
    quiet (writeAnswer port tag resp s) = quiet s := by
  unfold writeAnswer; (try dsimp only); (repeat' split) <;> (try simp) <;>
    (repeat' (first | rfl | (simp; done) | (refine (quiet_foldl _ (fun s a => ?_) _ _).trans ?_ <;> (try dsimp only)) | split | (refine quiet_ite _ _ _ _ ?_ ?_)))
    <;> (try simp)

@[simp] theorem quiet_retireTimedOut (s : State) (p : Own → Bool) : quiet (retireTimedOut s p) = quiet s := by
  unfold retireTimedOut; (try dsimp only); (repeat' split) <;> (try simp) <;>
    (repeat' (first | rfl | (simp; done) | (refine (quiet_foldl _ (fun s a => ?_) _ _).trans ?_ <;> (try dsimp only)) | split | (refine quiet_ite _ _ _ _ ?_ ?_)))
    <;> (try simp)

@[simp] theorem quiet_chanBound (s : State) (c : Nat) : quiet (chanBound s c) = quiet s := by
  unfold chanBound; (try dsimp only); (repeat' split) <;> (try simp) <;>
    (repeat' (first | rfl | (simp; done) | (refine (quiet_foldl _ (fun s a => ?_) _ _).trans ?_ <;> (try dsimp only)) | split | (refine quiet_ite _ _ _ _ ?_ ?_)))
    <;> (try simp)

@[simp] theorem quiet_abandonWork (s : State) (f : Nat) : quiet (abandonWork s f) = quiet s := by
  unfold abandonWork; (repeat' split) <;> simp [quiet_foldl]

@[simp] theorem quiet_drainBoundFn (s : State) (f : Nat) : quiet (drainBoundFn s f) = quiet s := by
  unfold drainBoundFn; split <;> simp

@[simp] theorem quiet_resetEnd (s : State) (f : Nat) : quiet (resetEnd s f) = quiet s := by
  unfold resetEnd; simp [quiet_foldl]

@[simp] theorem quiet_queueDestroy (s : State) (f : Nat) (released : Bool) :
    quiet (queueDestroy s f released) = quiet s := by
  unfold queueDestroy; (repeat' split) <;> simp [quiet_foldl]

@[simp] theorem quiet_dropRenew (s : State) (f : Nat) : quiet (dropRenew s f) = quiet s := by
  unfold dropRenew; (try dsimp only); (repeat' split) <;> (try simp) <;>
    (repeat' (first | rfl | (simp; done) | (refine (quiet_foldl _ (fun s a => ?_) _ _).trans ?_ <;> (try dsimp only)) | split | (refine quiet_ite _ _ _ _ ?_ ?_)))
    <;> (try simp)

@[simp] theorem quiet_destroyAdvance (s : State) (f : Nat) : quiet (destroyAdvance s f) = quiet s := by
  unfold destroyAdvance; split <;> simp

@[simp] theorem quiet_destroyBegin (s : State) (f : Nat) : quiet (destroyBegin s f) = quiet s := by
  unfold destroyBegin; (try dsimp only); (repeat' split) <;> (try simp) <;>
    (repeat' (first | rfl | (simp; done) | (refine (quiet_foldl _ (fun s a => ?_) _ _).trans ?_ <;> (try dsimp only)) | split | (refine quiet_ite _ _ _ _ ?_ ?_)))
    <;> (try simp)

@[simp] theorem quiet_functionLevelReset (f : Nat) (s : State) : quiet (functionLevelReset f s) = quiet s := by
  unfold functionLevelReset; split <;> simp

@[simp] theorem quiet_enableIndication (f : Nat) (v : U32) (s : State) : quiet (enableIndication f v s) = quiet s := by
  unfold enableIndication; dsimp only; (repeat' split) <;> simp [quiet_foldl, quiet_ite]

@[simp] theorem quiet_unfetch (s : State) (n : Nat) : quiet (unfetch s n) = quiet s := by
  unfold unfetch; (try dsimp only); (repeat' split) <;> (try simp) <;>
    (repeat' (first | rfl | (simp; done) | (refine (quiet_foldl _ (fun s a => ?_) _ _).trans ?_ <;> (try dsimp only)) | split | (refine quiet_ite _ _ _ _ ?_ ?_)))
    <;> (try simp)

@[simp] theorem quiet_freezeBegin (s : State) (f : Nat) : quiet (freezeBegin s f) = quiet s := by
  unfold freezeBegin; simp [quiet_foldl]

@[simp] theorem quiet_cancelLate (s : State) (f : Nat) : quiet (cancelLate s f) = quiet s := by
  unfold cancelLate; (try dsimp only); (repeat' split) <;> (try simp) <;>
    (repeat' (first | rfl | (simp; done) | (refine (quiet_foldl _ (fun s a => ?_) _ _).trans ?_ <;> (try dsimp only)) | split | (refine quiet_ite _ _ _ _ ?_ ?_)))
    <;> (try simp)

@[simp] theorem quiet_freezeEnd (s : State) (f : Nat) : quiet (freezeEnd s f) = quiet s := by
  unfold freezeEnd; (try dsimp only); (repeat' split) <;> (try simp) <;>
    (repeat' (first | rfl | (simp; done) | (refine (quiet_foldl _ (fun s a => ?_) _ _).trans ?_ <;> (try dsimp only)) | split | (refine quiet_ite _ _ _ _ ?_ ?_)))
    <;> (try simp)

@[simp] theorem quiet_unmark (s : State) (f : Nat) : quiet (unmark s f) = quiet s := by
  unfold unmark; (try dsimp only); (repeat' split) <;> (try simp) <;>
    (repeat' (first | rfl | (simp; done) | (refine (quiet_foldl _ (fun s a => ?_) _ _).trans ?_ <;> (try dsimp only)) | split | (refine quiet_ite _ _ _ _ ?_ ?_)))
    <;> (try simp)

@[simp] theorem quiet_thawBegin (s : State) (f : Nat) : quiet (thawBegin s f) = quiet s := by
  unfold thawBegin; simp

@[simp] theorem quiet_veCreateFn (s : State) (f : Nat) (key : Bytes) : quiet (veCreateFn s f key) = quiet s := by
  unfold veCreateFn; (try dsimp only); (repeat' split) <;> (try simp) <;>
    (repeat' (first | rfl | (simp; done) | (refine (quiet_foldl _ (fun s a => ?_) _ _).trans ?_ <;> (try dsimp only)) | split | (refine quiet_ite _ _ _ _ ?_ ?_)))
    <;> (try simp)

@[simp] theorem quiet_giveCtx (s : State) (f : Nat) (key : Bytes) : quiet (giveCtx s f key) = quiet s := by
  unfold giveCtx; (try dsimp only); (repeat' split) <;> (try simp) <;>
    (repeat' (first | rfl | (simp; done) | (refine (quiet_foldl _ (fun s a => ?_) _ _).trans ?_ <;> (try dsimp only)) | split | (refine quiet_ite _ _ _ _ ?_ ?_)))
    <;> (try simp)

@[simp] theorem quiet_drawCtx (s : State) (f : Nat) : quiet (drawCtx s f) = quiet s := by
  unfold drawCtx
  split
  · next d h => simp [quiet_takeNow _ _ _ _ h]
  · simp

@[simp] theorem quiet_veCommand (s : State) (f : Nat) : quiet (veCommand s f) = quiet s := by
  unfold veCommand; split <;> simp

@[simp] theorem quiet_resetOver (s : State) (f : Nat) : quiet (resetOver s f) = quiet s := by
  unfold resetOver; split <;> simp

@[simp] theorem quiet_freezeOver (s : State) (f : Nat) : quiet (freezeOver s f) = quiet s := by
  unfold freezeOver; (try dsimp only); (repeat' split) <;> (try simp) <;>
    (repeat' (first | rfl | (simp; done) | (refine (quiet_foldl _ (fun s a => ?_) _ _).trans ?_ <;> (try dsimp only)) | split | (refine quiet_ite _ _ _ _ ?_ ?_)))
    <;> (try simp)

@[simp] theorem quiet_veResetAbandon (f : Nat) (s : State) : quiet (veResetAbandon f s) = quiet s := by
  unfold veResetAbandon; (repeat' split) <;> simp

@[simp] theorem quiet_freezeBound (f : Nat) (channels : Bool) (s : State) : quiet (freezeBound f channels s) = quiet s := by
  unfold freezeBound; (repeat' split) <;> simp [quiet_foldl]

@[simp] theorem quiet_drawBuffer (s : State) (r : Nat) (q : Req) (f : State → State) (h : ∀ s, quiet (f s) = quiet s) :
    quiet (drawBuffer s r q f) = quiet s := by
  unfold drawBuffer
  dsimp only
  split
  · simp
  · rw [h]; simp

@[simp] theorem quiet_pkaLoad (s : State) (r : Nat) (q : Req) : quiet (pkaLoad s r q) = quiet s := by
  unfold pkaLoad; split <;> simp

@[simp] theorem quiet_pkaAccept (s : State) (r : Nat) (q : Req) : quiet (pkaAccept s r q) = quiet s := by
  unfold pkaAccept
  dsimp only
  split
  · simp
  · split
    · simp
    · split
      · simp
      · next t h =>
        rw [← quiet_reserve _ _ _ _ _ _ _ h]
        have go : ∀ t : State, quiet (thenLoaded (beginData t r) r fun s q => pkaLoad s r q) = quiet t := fun t => by
          rw [quiet_thenLoaded _ _ _ fun q => quiet_pkaLoad _ r q]; simp
        split
        · simp
        · split
          · exact quiet_drawBuffer _ _ _ _ go
          · exact go t

@[simp] theorem quiet_verifyEnd (s : State) (r : Nat) (q : Req) : quiet (verifyEnd s r q) = quiet s := by
  unfold verifyEnd; dsimp only; (repeat' split) <;> simp [quiet_foldl, quiet_ite]

@[simp] theorem quiet_keepSecret (s : State) (r : Nat) (q : Req) (secret tail : Bytes) :
    quiet (keepSecret s r q secret tail) = quiet s := by
  unfold keepSecret; simp

@[simp] theorem quiet_pkaEnd (s : State) (r : Nat) (q : Req) : quiet (pkaEnd s r q) = quiet s := by
  unfold pkaEnd; (try dsimp only); (repeat' split) <;> (try simp) <;>
    (repeat' (first | rfl | (simp; done) | (refine (quiet_foldl _ (fun s a => ?_) _ _).trans ?_ <;> (try dsimp only)) | split | (refine quiet_ite _ _ _ _ ?_ ?_)))
    <;> (try simp)

@[simp] theorem quiet_pkaStep (o : Op) (r : Nat) (s : State) : quiet (pkaStep o r s) = quiet s := by
  unfold pkaStep; (repeat' split) <;> simp

@[simp] theorem quiet_pkaOperationEnd (r : Nat) (s : State) : quiet (pkaOperationEnd r s) = quiet s := by
  unfold pkaOperationEnd; (repeat' split) <;> simp

@[simp] theorem quiet_rsaKeygenTimeout (r : Nat) (s : State) : quiet (rsaKeygenTimeout r s) = quiet s :=
  quiet_whenReq _ _ _ _ _ fun _ => by (try dsimp only); split <;> simp

@[simp] theorem quiet_kmAccept (s : State) (r : Nat) (q : Req) (f : State → Req → State)
    (h : ∀ s q, quiet (f s q) = quiet s) : quiet (kmAccept s r q f) = quiet s := by
  unfold kmAccept
  split
  · simp
  · split
    · simp
    · split
      · simp
      · split
        · simp
        · next t ht => rw [quiet_thenLoaded _ _ _ fun q => h _ q, quiet_beginData, quiet_reserve _ _ _ _ _ _ _ ht]

@[simp] theorem quiet_kmCount (s : State) (q : Req) : quiet (kmCount s q) = quiet s := by
  unfold kmCount; (try dsimp only); (repeat' split) <;> (try simp) <;>
    (repeat' (first | rfl | (simp; done) | (refine (quiet_foldl _ (fun s a => ?_) _ _).trans ?_ <;> (try dsimp only)) | split | (refine quiet_ite _ _ _ _ ?_ ?_)))
    <;> (try simp)

@[simp] theorem quiet_pairImport (s : State) (r : Nat) (q : Req) (policy : Nat) (mat : Bytes) (good : State) (k : quiet good = quiet s) :
    quiet (pairImport s r q policy mat good) = quiet s := by
  unfold pairImport
  repeat' split
  · exact k
  · exact quiet_pairTest _ _ _ _ _ _ _ (by simp) k
  · simp
  · simp

@[simp] theorem quiet_importPackage (s : State) (r : Nat) (q : Req) (b : Bytes) :
    quiet (importPackage s r q b) = quiet s := by
  unfold importPackage; (try dsimp only); (repeat' split) <;> (try simp) <;>
    (repeat' (first | rfl | (simp; done) | (refine (quiet_foldl _ (fun s a => ?_) _ _).trans ?_ <;> (try dsimp only)) | split | (refine quiet_ite _ _ _ _ ?_ ?_)))
    <;> (try simp)

@[simp] theorem quiet_importRaw (s : State) (r : Nat) (q : Req) (b : Bytes) : quiet (importRaw s r q b) = quiet s := by
  unfold importRaw; (try dsimp only); (repeat' split) <;> (try simp) <;>
    (repeat' (first | rfl | (simp; done) | (refine (quiet_foldl _ (fun s a => ?_) _ _).trans ?_ <;> (try dsimp only)) | split | (refine quiet_ite _ _ _ _ ?_ ?_)))
    <;> (try simp)

@[simp] theorem quiet_importKem (s : State) (r : Nat) (q : Req) : quiet (importKem s r q) = quiet s := by
  unfold importKem; dsimp only; (repeat' split) <;> simp [quiet_foldl, quiet_ite]

@[simp] theorem quiet_exportKem (s : State) (r : Nat) (q : Req) : quiet (exportKem s r q) = quiet s := by
  unfold exportKem; (try dsimp only); (repeat' split) <;> (try simp) <;>
    (repeat' (first | rfl | (simp; done) | (refine (quiet_foldl _ (fun s a => ?_) _ _).trans ?_ <;> (try dsimp only)) | split | (refine quiet_ite _ _ _ _ ?_ ?_)))
    <;> (try simp)

@[simp] theorem quiet_beginReplace (s : State) (r : Nat) (q : Req) (i : Nat) (mat : Bytes) :
    quiet (beginReplace s r q i mat) = quiet s := by
  unfold beginReplace; (try dsimp only); (repeat' split) <;> (try simp) <;>
    (repeat' (first | rfl | (simp; done) | (refine (quiet_foldl _ (fun s a => ?_) _ _).trans ?_ <;> (try dsimp only)) | split | (refine quiet_ite _ _ _ _ ?_ ?_)))
    <;> (try simp)

@[simp] theorem quiet_replaceAsym (s : State) (r : Nat) (q : Req) (i : Nat) (mat : Bytes) :
    quiet (replaceAsym s r q i mat) = quiet s := by
  unfold replaceAsym; (try dsimp only); (repeat' split) <;> (try simp) <;>
    (repeat' (first | rfl | (simp; done) | (refine (quiet_foldl _ (fun s a => ?_) _ _).trans ?_ <;> (try dsimp only)) | split | (refine quiet_ite _ _ _ _ ?_ ?_)))
    <;> (try simp)

@[simp] theorem quiet_replaceLoaded (s : State) (r : Nat) (q : Req) : quiet (replaceLoaded s r q) = quiet s := by
  unfold replaceLoaded; (try dsimp only); (repeat' split) <;> (try simp) <;>
    (repeat' (first | rfl | (simp; done) | (refine (quiet_foldl _ (fun s a => ?_) _ _).trans ?_ <;> (try dsimp only)) | split | (refine quiet_ite _ _ _ _ ?_ ?_)))
    <;> (try simp)

@[simp] theorem quiet_updateOnly (s : State) (r : Nat) (q : Req) (ops : List VOp) :
    quiet (updateOnly s r q ops) = quiet s := by
  unfold updateOnly; simp

@[simp] theorem quiet_commitKey (r : Nat) (s : State) : quiet (commitKey r s) = quiet s :=
  quiet_whenReq _ _ _ _ _ fun _ => by (try dsimp only); (repeat' split) <;> simp

@[simp] theorem quiet_cancelKey (r : Nat) (s : State) : quiet (cancelKey r s) = quiet s :=
  quiet_whenReq _ _ _ _ _ fun _ => by (try dsimp only); (repeat' split) <;> simp

@[simp] theorem quiet_eraseStart (s : State) (r : Nat) (q : Req) (i : Nat) : quiet (eraseStart s r q i) = quiet s := by
  unfold eraseStart; dsimp only; (repeat' split) <;> simp [quiet_foldl, quiet_ite]

@[simp] theorem quiet_eraseKey (r : Nat) (s : State) : quiet (eraseKey r s) = quiet s :=
  quiet_whenReq _ _ _ _ _ fun _ => by (try dsimp only); (repeat' split) <;> simp

@[simp] theorem quiet_abandonHolders (s : State) (i : Nat) (st : Status) : quiet (abandonHolders s i st) = quiet s := by
  unfold abandonHolders; (try dsimp only); (repeat' split) <;> (try simp) <;>
    (repeat' (first | rfl | (simp; done) | (refine (quiet_foldl _ (fun s a => ?_) _ _).trans ?_ <;> (try dsimp only)) | split | (refine quiet_ite _ _ _ _ ?_ ?_)))
    <;> (try simp)

@[simp] theorem quiet_eraseUrgentKey (r : Nat) (s : State) : quiet (eraseUrgentKey r s) = quiet s :=
  quiet_whenReq _ _ _ _ _ fun _ => by (try dsimp only); (repeat' split) <;> simp [quiet_foldl]

@[simp] theorem quiet_eraseDrainEnd (slot : Nat) (s : State) : quiet (eraseDrainEnd slot s) = quiet s := by
  unfold eraseDrainEnd; split <;> simp

@[simp] theorem quiet_keyInfoOp (r : Nat) (s : State) : quiet (keyInfoOp r s) = quiet s := by
  unfold keyInfoOp
  refine quiet_whenReq _ _ _ _ _ fun q => ?_
  (repeat' split) <;> simp

@[simp] theorem quiet_genSymLoaded (s : State) (r : Nat) (q : Req) : quiet (genSymLoaded s r q) = quiet s := by
  unfold genSymLoaded; simp

@[simp] theorem quiet_deriveLoaded (s : State) (r : Nat) (q : Req) : quiet (deriveLoaded s r q) = quiet s := by
  unfold deriveLoaded; simp

@[simp] theorem quiet_importWrapped (s : State) (r : Nat) (q : Req) : quiet (importWrapped s r q) = quiet s := by
  unfold importWrapped; (repeat' split) <;> simp

@[simp] theorem quiet_exportWrapped (s : State) (r : Nat) (q : Req) : quiet (exportWrapped s r q) = quiet s := by
  unfold exportWrapped; (try dsimp only); (repeat' split) <;> (try simp) <;>
    (repeat' (first | rfl | (simp; done) | (refine (quiet_foldl _ (fun s a => ?_) _ _).trans ?_ <;> (try dsimp only)) | split | (refine quiet_ite _ _ _ _ ?_ ?_)))
    <;> (try simp)

@[simp] theorem quiet_kmLoaded (s : State) (r : Nat) (q : Req) : quiet (kmLoaded s r q) = quiet s := by
  unfold kmLoaded; (try dsimp only); (repeat' split) <;> (try simp) <;>
    (repeat' (first | rfl | (simp; done) | (refine (quiet_foldl _ (fun s a => ?_) _ _).trans ?_ <;> (try dsimp only)) | split | (refine quiet_ite _ _ _ _ ?_ ?_)))
    <;> (try simp)

@[simp] theorem quiet_kmStep (o : Op) (r : Nat) (s : State) : quiet (kmStep o r s) = quiet s := by
  unfold kmStep
  split
  · rfl
  · split
    · rfl
    · split
      · rw [quiet_pumpAll, quiet_kmAccept _ _ _ _ (fun s q => quiet_kmLoaded s r q)]
      · split
        · rw [quiet_pumpAll, quiet_kmLoaded]
        · rfl

@[simp] theorem quiet_pkaRandom (s : State) (n : Nat) : quiet (pkaRandom s n).2 = quiet s := by
  unfold pkaRandom; split
  · exact (quiet_askWire _ _).trans rfl
  · simp

@[simp] theorem quiet_awaitSupply (s : State) : quiet (awaitSupply s) = quiet s := by
  unfold awaitSupply; (try dsimp only); (repeat' split) <;> (try simp) <;>
    (repeat' (first | rfl | (simp; done) | (refine (quiet_foldl _ (fun s a => ?_) _ _).trans ?_ <;> (try dsimp only)) | split | (refine quiet_ite _ _ _ _ ?_ ?_)))
    <;> (try simp)

@[simp] theorem quiet_attestAccept (s : State) (r : Nat) (q : Req) : quiet (attestAccept s r q) = quiet s := by
  unfold attestAccept; (repeat' split) <;> simp

@[simp] theorem quiet_veAttestOp (r : Nat) (s : State) : quiet (veAttestOp r s) = quiet s := by
  unfold veAttestOp; (try dsimp only); (repeat' split) <;> (try simp) <;>
    (repeat' (first | rfl | (simp; done) | (refine (quiet_foldl _ (fun s a => ?_) _ _).trans ?_ <;> (try dsimp only)) | split | (refine quiet_ite _ _ _ _ ?_ ?_)))
    <;> (try simp)

@[simp] theorem quiet_randomAccept (s : State) (r : Nat) : quiet (randomAccept s r) = quiet s := by
  unfold randomAccept; (try dsimp only); (repeat' split) <;> (try simp) <;>
    (repeat' (first | rfl | (simp; done) | (refine (quiet_foldl _ (fun s a => ?_) _ _).trans ?_ <;> (try dsimp only)) | split | (refine quiet_ite _ _ _ _ ?_ ?_)))
    <;> (try simp)

@[simp] theorem quiet_randomLoaded (s : State) (r : Nat) (q : Req) : quiet (randomLoaded s r q) = quiet s := by
  unfold randomLoaded
  split
  · simp
  · split
    · simp
    · split
      · simp
      · next t h => simp [quiet_drbgNext _ t.1 _ t.2 h]

@[simp] theorem quiet_randomOp (r : Nat) (s : State) : quiet (randomOp r s) = quiet s := by
  unfold randomOp
  split
  · rfl
  · split
    · rfl
    · split
      · rw [quiet_pumpAll, quiet_thenLoaded _ _ _ (fun q => by simp)]; simp
      · split <;> simp

@[simp] theorem quiet_nvBegin (s : State) : quiet (nvBegin s) = quiet s := by
  unfold nvBegin; (repeat' split) <;> simp

@[simp] theorem quiet_nvSubmit (s : State) (j : NvJob) : quiet (nvSubmit s j) = quiet s := by
  unfold nvSubmit; simp

@[simp] theorem quiet_nvRead (s : State) (rec : Nat) : quiet (nvRead s rec) = quiet s := by
  unfold nvRead; simp

@[simp] theorem quiet_nvWrite (s : State) (rec : Nat) (p : Bytes) (w : NvWhy) : quiet (nvWrite s rec p w).1 = quiet s := by
  unfold nvWrite
  split <;> simp

@[simp] theorem quiet_markSlot (s : State) (rec bank slot : Nat) (v : NvSlot) :
    quiet (markSlot s rec bank slot v) = quiet s := by
  rfl

@[simp] theorem quiet_eraseBank (s : State) (rec bank : Nat) : quiet (eraseBank s rec bank) = quiet s := by
  rfl

@[simp] theorem quiet_retryCopy (s : State) (j : NvJob) : quiet (retryCopy s j).1 = quiet s := by
  unfold retryCopy
  dsimp only
  split <;> simp

@[simp] theorem quiet_checkCopy (s : State) (j : NvJob) (b : Bytes) : quiet (checkCopy s j b).1 = quiet s := by
  unfold checkCopy
  dsimp only
  split <;> simp

@[simp] theorem quiet_surveyStep (s : State) (j : NvJob) (e : Bool) : quiet (surveyStep s j e).1 = quiet s := by
  unfold surveyStep
  (repeat' split) <;> simp

@[simp] theorem quiet_recordStep (s : State) (j : NvJob) (w : Bytes) (e : Bool) : quiet (recordStep s j w e).1 = quiet s := by
  unfold recordStep
  dsimp only
  (repeat' split) <;> simp

@[simp] theorem quiet_nvAnswer (s : State) (w : Bytes) (e : Bool) : quiet (nvAnswer s w e).1 = quiet s := by
  unfold nvAnswer
  dsimp only
  split
  · rfl
  · split <;> (refine (quiet_mk (Prod.fst _) ..).trans ?_) <;> (repeat' split) <;> simp

@[simp] theorem quiet_markFailure (s : State) (n : Nat) (adaptive : Bool) : quiet (markFailure s n adaptive) = quiet s := by
  rfl

@[simp] theorem quiet_stopRngReqs (s : State) (st : Status) : quiet (stopRngReqs s st) = quiet s := by
  unfold stopRngReqs; (repeat' split) <;> simp [quiet_foldl]

@[simp] theorem quiet_haltRng (s : State) : quiet (haltRng s) = quiet s := by
  unfold haltRng; split <;> simp

@[simp] theorem quiet_adventBegin (s : State) (fromReset : Bool) : quiet (adventBegin s fromReset) = quiet s := by
  unfold adventBegin
  exact (quiet_mk ..).trans (quiet_foldl _ (fun s u => quiet_modUnit s u _) _ _)

@[simp] theorem quiet_startUpOver (s : State) : quiet (startUpOver s) = quiet s := by
  unfold startUpOver; (repeat' split) <;> simp

@[simp] theorem quiet_oscillatorSettle (failed : BitVec 8) (s : State) : quiet (oscillatorSettle failed s) = quiet s := by
  unfold oscillatorSettle; (repeat' split) <;> simp [quiet_foldl]

@[simp] theorem quiet_startUpAdvent (n : Nat) (pass : Bool) (s : State) : quiet (startUpAdvent n pass s) = quiet s := by
  unfold startUpAdvent; (repeat' split) <;> simp

@[simp] theorem quiet_startUpTest (n : Nat) (pass : Bool) (s : State) : quiet (startUpTest n pass s) = quiet s := by
  unfold startUpTest; (repeat' split) <;> simp

@[simp] theorem quiet_rngTested (pass : Bool) (s : State) : quiet (rngTested pass s) = quiet s := by
  unfold rngTested; (repeat' split) <;> simp

@[simp] theorem quiet_discardHeld (s : State) : quiet (discardHeld s) = quiet s := by
  unfold discardHeld; (try dsimp only); (repeat' split) <;> (try simp) <;>
    (repeat' (first | rfl | (simp; done) | (refine (quiet_foldl _ (fun s a => ?_) _ _).trans ?_ <;> (try dsimp only)) | split | (refine quiet_ite _ _ _ _ ?_ ?_)))
    <;> (try simp)

@[simp] theorem quiet_healthTestFailure (n : Nat) (adaptive : Bool) (s : State) :
    quiet (healthTestFailure n adaptive s) = quiet s := by
  unfold healthTestFailure; dsimp only; (repeat' split) <;> simp [quiet_foldl, quiet_ite]

@[simp] theorem quiet_adventRun (s : State) : quiet (adventRun s) = quiet s := by
  unfold adventRun; (repeat' split) <;> simp [quiet_foldl]

@[simp] theorem quiet_adventComplete (s : State) : quiet (adventComplete s) = quiet s := by
  unfold adventComplete; split <;> simp

@[simp] theorem quiet_absorb (s : State) (n : Nat) : quiet (absorb s n) = quiet s := by
  unfold absorb; (try dsimp only); (repeat' split) <;> (try simp) <;>
    (repeat' (first | rfl | (simp; done) | (refine (quiet_foldl _ (fun s a => ?_) _ _).trans ?_ <;> (try dsimp only)) | split | (refine quiet_ite _ _ _ _ ?_ ?_)))
    <;> (try simp)

@[simp] theorem quiet_absorbBlock (s : State) : quiet (absorbBlock s) = quiet s := by
  unfold absorbBlock; (try dsimp only); (repeat' split) <;> (try simp) <;>
    (repeat' (first | rfl | (simp; done) | (refine (quiet_foldl _ (fun s a => ?_) _ _).trans ?_ <;> (try dsimp only)) | split | (refine quiet_ite _ _ _ _ ?_ ?_)))
    <;> (try simp)

@[simp] theorem quiet_releaseBlock (s : State) : quiet (releaseBlock s) = quiet s := by
  unfold releaseBlock; (try dsimp only); (repeat' split) <;> (try simp) <;>
    (repeat' (first | rfl | (simp; done) | (refine (quiet_foldl _ (fun s a => ?_) _ _).trans ?_ <;> (try dsimp only)) | split | (refine quiet_ite _ _ _ _ ?_ ?_)))
    <;> (try simp)

@[simp] theorem quiet_conditionerBlockRelease (s : State) : quiet (conditionerBlockRelease s) = quiet s := by
  unfold conditionerBlockRelease; (try dsimp only); (repeat' split) <;> (try simp) <;>
    (repeat' (first | rfl | (simp; done) | (refine (quiet_foldl _ (fun s a => ?_) _ _).trans ?_ <;> (try dsimp only)) | split | (refine quiet_ite _ _ _ _ ?_ ?_)))
    <;> (try simp)

@[simp] theorem quiet_failAll (s : State) (src : Nat) (rs : List Nat) : quiet (failAll s src rs) = quiet s := by
  unfold failAll; (try dsimp only); (repeat' split) <;> (try simp) <;>
    (repeat' (first | rfl | (simp; done) | (refine (quiet_foldl _ (fun s a => ?_) _ _).trans ?_ <;> (try dsimp only)) | split | (refine quiet_ite _ _ _ _ ?_ ?_)))
    <;> (try simp)

@[simp] theorem quiet_laneWatch (s : State) (n : Nat) : quiet (laneWatch s n) = quiet s := by
  unfold laneWatch; (try dsimp only); (repeat' split) <;> (try simp) <;>
    (repeat' (first | rfl | (simp; done) | (refine (quiet_foldl _ (fun s a => ?_) _ _).trans ?_ <;> (try dsimp only)) | split | (refine quiet_ite _ _ _ _ ?_ ?_)))
    <;> (try simp)

@[simp] theorem quiet_seedGen (s : State) (g : Nat) (seed : Bytes) : quiet (seedGen s g seed) = quiet s := by
  unfold seedGen; (try dsimp only); (repeat' split) <;> (try simp) <;>
    (repeat' (first | rfl | (simp; done) | (refine (quiet_foldl _ (fun s a => ?_) _ _).trans ?_ <;> (try dsimp only)) | split | (refine quiet_ite _ _ _ _ ?_ ?_)))
    <;> (try simp)

@[simp] theorem quiet_fillBuffer (s : State) (n : Nat) (b : Bytes) : quiet (fillBuffer s n b) = quiet s := by
  unfold fillBuffer; (try dsimp only); (repeat' split) <;> (try simp) <;>
    (repeat' (first | rfl | (simp; done) | (refine (quiet_foldl _ (fun s a => ?_) _ _).trans ?_ <;> (try dsimp only)) | split | (refine quiet_ite _ _ _ _ ?_ ?_)))
    <;> (try simp)

@[simp] theorem quiet_giveKey (s : State) (r : Nat) (b : Bytes) : quiet (giveKey s r b) = quiet s := by
  unfold giveKey; (try dsimp only); (repeat' split) <;> (try simp) <;>
    (repeat' (first | rfl | (simp; done) | (refine (quiet_foldl _ (fun s a => ?_) _ _).trans ?_ <;> (try dsimp only)) | split | (refine quiet_ite _ _ _ _ ?_ ?_)))
    <;> (try simp)

@[simp] theorem quiet_giveDrbg (s : State) (seed : Bytes) : quiet (giveDrbg s seed) = quiet s := by
  unfold giveDrbg; (try dsimp only); (repeat' split) <;> (try simp) <;>
    (repeat' (first | rfl | (simp; done) | (refine (quiet_foldl _ (fun s a => ?_) _ _).trans ?_ <;> (try dsimp only)) | split | (refine quiet_ite _ _ _ _ ?_ ?_)))
    <;> (try simp)

@[simp] theorem quiet_reseedDue (g : Nat) (s : State) : quiet (reseedDue g s) = quiet s := by
  unfold reseedDue; dsimp only; (repeat' split) <;> simp [quiet_foldl, quiet_ite]

@[simp] theorem quiet_laneStopped (s : State) (n : Nat) : quiet (laneStopped s n) = quiet s := by
  unfold laneStopped
  exact quiet_failWith _ _ _ fun _ => by simp [quiet_foldl]

@[simp] theorem quiet_reseedGrace (g : Nat) (s : State) : quiet (reseedGrace g s) = quiet s := by
  unfold reseedGrace; dsimp only; (repeat' split) <;> simp [quiet_foldl, quiet_ite]

@[simp] theorem quiet_drbgReseedDue (s : State) : quiet (drbgReseedDue s) = quiet s := by
  unfold drbgReseedDue; split <;> simp

@[simp] theorem quiet_warmRing (s : State) (n : Nat) : quiet (warmRing s n) = quiet s := by
  rfl

@[simp] theorem quiet_warmChan (s : State) (c : Nat) : quiet (warmChan s c) = quiet s := by
  rfl

@[simp] theorem quiet_tryBegin (s : State) : quiet (tryBegin s) = quiet s := by
  unfold tryBegin; split <;> simp

@[simp] theorem quiet_stepFour (s : State) : quiet (stepFour s) = quiet s := by
  unfold stepFour; simp

@[simp] theorem quiet_bringAdvance (s : State) : quiet (bringAdvance s) = quiet s := by
  unfold bringAdvance; split <;> simp

@[simp] theorem quiet_fuseRead (word : BitVec 4) (answer : Option (BitVec 32)) (s : State) :
    quiet (fuseRead word answer s) = quiet s := by
  unfold fuseRead; dsimp only; (repeat' split) <;> simp [quiet_foldl, quiet_ite]

@[simp] theorem quiet_clockSurvey (core port mgmt : Nat) (s : State) : quiet (clockSurvey core port mgmt s) = quiet s := by
  unfold clockSurvey; dsimp only; (repeat' split) <;> simp [quiet_foldl, quiet_ite]

@[simp] theorem quiet_handshakeTimeout (lookup : Bool) (s : State) : quiet (handshakeTimeout lookup s) = quiet s := by
  unfold handshakeTimeout; (try dsimp only); (repeat' split) <;> (try simp) <;>
    (repeat' (first | rfl | (simp; done) | (refine (quiet_foldl _ (fun s a => ?_) _ _).trans ?_ <;> (try dsimp only)) | split | (refine quiet_ite _ _ _ _ ?_ ?_)))
    <;> (try simp)

theorem quiet_loadItems (l : List (Nat × Nat)) (b : Bytes) (s : State) : quiet (loadItems l b s) = quiet s := by
  induction l generalizing b s with
  | nil => rfl
  | cons e t ih => simp [loadItems, ih]

@[simp] theorem quiet_bootRead (s : State) : quiet (bootRead s) = quiet s := by
  unfold bootRead
  dsimp only
  (repeat' split) <;> simp [quiet_foldl, quiet_loadItems]

@[simp] theorem quiet_lifeFails (s : State) : quiet (lifeFails s) = quiet s := by
  rfl

@[simp] theorem quiet_loadLife (s : State) (b : Bytes) : quiet (loadLife s b) = quiet s := by
  unfold loadLife; dsimp only; (repeat' split) <;> simp [quiet_foldl, quiet_ite]

@[simp] theorem quiet_lifeRead (s : State) : quiet (lifeRead s) = quiet s := by
  unfold lifeRead; dsimp only; (repeat' split) <;> simp [quiet_foldl, quiet_ite]

@[simp] theorem quiet_probeAll (s : State) : quiet (probeAll s) = quiet s := by
  unfold probeAll; dsimp only; (repeat' split) <;> simp [quiet_foldl, quiet_ite]

@[simp] theorem quiet_stepEight (s : State) : quiet (stepEight s) = quiet s := by
  unfold stepEight; simp

@[simp] theorem quiet_stepFive (s : State) : quiet (stepFive s) = quiet s := by
  unfold stepFive; split <;> simp

@[simp] theorem quiet_jubileeRead (s : State) : quiet (jubileeRead s) = quiet s := by
  unfold jubileeRead
  dsimp only
  split
  · rfl
  · split
    · exact (quiet_mk _ ..).trans (quiet_foldl _ (fun s u => quiet_modUnit s u _) _ _)
    · exact quiet_mk ..

@[simp] theorem quiet_surveyOver (s : State) : quiet (surveyOver s) = quiet s := by
  unfold surveyOver; simp

@[simp] theorem quiet_emptyVault (s : State) : quiet (emptyVault s) = quiet s := by
  unfold emptyVault; simp [quiet_foldl]

@[simp] theorem quiet_cutShort (s : State) (r : Nat) : quiet (cutShort s r) = quiet s := by
  unfold cutShort; (repeat' split) <;> simp

@[simp] theorem quiet_drawMissing (s : State) : quiet (drawMissing s) = quiet s := by
  unfold drawMissing; (try dsimp only); (repeat' split) <;> (try simp) <;>
    (repeat' (first | rfl | (simp; done) | (refine (quiet_foldl _ (fun s a => ?_) _ _).trans ?_ <;> (try dsimp only)) | split | (refine quiet_ite _ _ _ _ ?_ ?_)))
    <;> (try simp)

@[simp] theorem quiet_incarnate (s : State) (b : Bytes) : quiet (incarnate s b) = quiet s := by
  unfold incarnate; (try dsimp only); (repeat' split) <;> (try simp) <;>
    (repeat' (first | rfl | (simp; done) | (refine (quiet_foldl _ (fun s a => ?_) _ _).trans ?_ <;> (try dsimp only)) | split | (refine quiet_ite _ _ _ _ ?_ ?_)))
    <;> (try simp)

@[simp] theorem quiet_writeBackCut (s : State) : quiet (writeBackCut s) = quiet s := by
  unfold writeBackCut; split <;> simp

@[simp] theorem quiet_refreeze (s : State) (f : Nat) : quiet (refreeze s f) = quiet s := by
  unfold refreeze; (repeat' split) <;> simp [quiet_foldl]

@[simp] theorem quiet_rethaw (s : State) (f : Nat) : quiet (rethaw s f) = quiet s := by
  unfold rethaw; (try dsimp only); (repeat' split) <;> (try simp) <;>
    (repeat' (first | rfl | (simp; done) | (refine (quiet_foldl _ (fun s a => ?_) _ _).trans ?_ <;> (try dsimp only)) | split | (refine quiet_ite _ _ _ _ ?_ ?_)))
    <;> (try simp)

@[simp] theorem quiet_redestroy (s : State) (f : Nat) : quiet (redestroy s f) = quiet s := by
  unfold redestroy; (try dsimp only); (repeat' split) <;> (try simp) <;>
    (repeat' (first | rfl | (simp; done) | (refine (quiet_foldl _ (fun s a => ?_) _ _).trans ?_ <;> (try dsimp only)) | split | (refine quiet_ite _ _ _ _ ?_ ?_)))
    <;> (try simp)

@[simp] theorem quiet_vaultTidy (s : State) : quiet (vaultTidy s) = quiet s := by
  unfold vaultTidy; (repeat' split) <;> simp [quiet_foldl]

@[simp] theorem quiet_vaultOpen (s : State) : quiet (vaultOpen s) = quiet s := by
  unfold vaultOpen; (try dsimp only); (repeat' split) <;> (try simp) <;>
    (repeat' (first | rfl | (simp; done) | (refine (quiet_foldl _ (fun s a => ?_) _ _).trans ?_ <;> (try dsimp only)) | split | (refine quiet_ite _ _ _ _ ?_ ?_)))
    <;> (try simp)

@[simp] theorem quiet_giveInc (s : State) (b : Bytes) : quiet (giveInc s b) = quiet s := by
  unfold giveInc; (try dsimp only); (repeat' split) <;> (try simp) <;>
    (repeat' (first | rfl | (simp; done) | (refine (quiet_foldl _ (fun s a => ?_) _ _).trans ?_ <;> (try dsimp only)) | split | (refine quiet_ite _ _ _ _ ?_ ?_)))
    <;> (try simp)

@[simp] theorem quiet_drawInc (s : State) : quiet (drawInc s) = quiet s := by
  unfold drawInc
  split
  · next d h => simp [quiet_takeNow _ _ _ _ h]
  · simp

@[simp] theorem quiet_vaultBringup (s : State) : quiet (vaultBringup s) = quiet s := by
  unfold vaultBringup; (try dsimp only); (repeat' split) <;> (try simp) <;>
    (repeat' (first | rfl | (simp; done) | (refine (quiet_foldl _ (fun s a => ?_) _ _).trans ?_ <;> (try dsimp only)) | split | (refine quiet_ite _ _ _ _ ?_ ?_)))
    <;> (try simp)

@[simp] theorem quiet_delivered (s : State) (w : Wire) (b : Bytes) : quiet (delivered s w b) = quiet s := by
  unfold delivered; (try dsimp only); (repeat' split) <;> (try simp) <;>
    (repeat' (first | rfl | (simp; done) | (refine (quiet_foldl _ (fun s a => ?_) _ _).trans ?_ <;> (try dsimp only)) | split | (refine quiet_ite _ _ _ _ ?_ ?_)))
    <;> (try simp)

@[simp] theorem quiet_privateWireDelivery (s : State) : quiet (privateWireDelivery s) = quiet s := by
  unfold privateWireDelivery; (try dsimp only); (repeat' split) <;> (try simp) <;>
    (repeat' (first | rfl | (simp; done) | (refine (quiet_foldl _ (fun s a => ?_) _ _).trans ?_ <;> (try dsimp only)) | split | (refine quiet_ite _ _ _ _ ?_ ?_)))
    <;> (try simp)

@[simp] theorem quiet_identityKeysDerived (s : State) : quiet (identityKeysDerived s) = quiet s := by
  unfold identityKeysDerived; split
  · rfl
  · split
    · rfl
    · split <;> rfl

@[simp] theorem quiet_stage (s : State) (prin : Principal) (g i sub : Nat) (v : Bytes) :
    quiet (stage s prin g i sub v) = quiet s := by
  rfl

@[simp] theorem quiet_candidate (s : State) (g : Nat) : quiet (candidate s g) = quiet s := by
  unfold candidate; (try dsimp only); (repeat' split) <;> (try simp) <;>
    (repeat' (first | rfl | (simp; done) | (refine (quiet_foldl _ (fun s a => ?_) _ _).trans ?_ <;> (try dsimp only)) | split | (refine quiet_ite _ _ _ _ ?_ ?_)))
    <;> (try simp)

@[simp] theorem quiet_unitsCommanded (t : State) : quiet (unitsCommanded t) = quiet t := by
  unfold unitsCommanded; (try dsimp only); (repeat' split) <;> (try simp) <;>
    (repeat' (first | rfl | (simp; done) | (refine (quiet_foldl _ (fun s a => ?_) _ _).trans ?_ <;> (try dsimp only)) | split | (refine quiet_ite _ _ _ _ ?_ ?_)))
    <;> (try simp)

@[simp] theorem quiet_ringEnable (s : State) (n : Nat) : quiet (ringEnable s n) = quiet s := by
  rfl

@[simp] theorem quiet_ringDisable (s : State) (n : Nat) : quiet (ringDisable s n) = quiet s := by
  unfold ringDisable; split <;> simp

@[simp] theorem quiet_ringApplied (s t : State) (n : Nat) : quiet (ringApplied s t n) = quiet t := by
  unfold ringApplied; dsimp only; (repeat' split) <;> simp

@[simp] theorem quiet_ringDrainBound (n : Nat) (s : State) : quiet (ringDrainBound n s) = quiet s := by
  unfold ringDrainBound; split <;> simp

@[simp] theorem quiet_chanEnable (s : State) (c : Nat) : quiet (chanEnable s c) = quiet s := by
  rfl

@[simp] theorem quiet_chanApplied (s t : State) (c : Nat) : quiet (chanApplied s t c) = quiet t := by
  unfold chanApplied
  (repeat' split) <;> (try simp only [quiet_chanEnable, quiet_stopChan])

@[simp] theorem quiet_channelDisableBound (c : Nat) (s : State) : quiet (channelDisableBound c s) = quiet s := by
  unfold channelDisableBound; split <;> simp

@[simp] theorem quiet_timerApplied (s t : State) (n : Nat) : quiet (timerApplied s t n) = quiet t := by
  unfold timerApplied
  dsimp only
  (repeat' split) <;> (try simp only [quiet_fireTimer, quiet_setTimer])

@[simp] theorem quiet_timerArm (s : State) (n : Nat) : quiet (timerArm s n) = quiet s := by
  rfl

@[simp] theorem quiet_reseq (s : State) (cid : Nat) : quiet (reseq s cid) = quiet s := by
  unfold reseq; (try dsimp only); (repeat' split) <;> (try simp) <;>
    (repeat' (first | rfl | (simp; done) | (refine (quiet_foldl _ (fun s a => ?_) _ _).trans ?_ <;> (try dsimp only)) | split | (refine quiet_ite _ _ _ _ ?_ ?_)))
    <;> (try simp)

@[simp] theorem quiet_rehomeFrom (s : State) (u : Nat) : quiet (rehomeFrom s u) = quiet s := by
  unfold rehomeFrom; split
  any_goals simp
  exact quiet_foldl _ (fun s a => quiet_reseq s a) _ _

@[simp] theorem quiet_unitOutCmd (s : State) (u : Nat) : quiet (unitOutCmd s u) = quiet s := by
  unfold unitOutCmd; dsimp only; (repeat' split) <;> simp [quiet_foldl, quiet_ite]

@[simp] theorem quiet_unitInCmd (s : State) (u : Nat) : quiet (unitInCmd s u) = quiet s := by
  unfold unitInCmd; (repeat' split) <;> simp [quiet_foldl]

@[simp] theorem quiet_unitsApplied (s t : State) : quiet (unitsApplied s t) = quiet t := by
  unfold unitsApplied
  dsimp only
  refine (quiet_foldl _ (fun s a => ?_) _ _).trans (quiet_mk ..)
  split <;> simp

@[simp] theorem quiet_fnApplied (t : State) (f : Nat) : quiet (fnApplied t f) = quiet t := by
  unfold fnApplied; dsimp only; (repeat' split) <;> simp [quiet_foldl]

@[simp] theorem quiet_committed (s : State) (g : Nat) : quiet (committed s g) = quiet s := by
  rfl

@[simp] theorem quiet_sendMctp (s : State) (eid tag : Nat) (body : Bytes) : quiet (sendMctp s eid tag body) = quiet s := by
  rfl

@[simp] theorem quiet_route (s : State) (m : AapMsg) (b : Bytes) : quiet (route s m b) = quiet s := by
  unfold route; (try dsimp only); (repeat' split) <;> (try simp) <;>
    (repeat' (first | rfl | (simp; done) | (refine (quiet_foldl _ (fun s a => ?_) _ _).trans ?_ <;> (try dsimp only)) | split | (refine quiet_ite _ _ _ _ ?_ ?_)))
    <;> (try simp)

@[simp] theorem quiet_answerAt (s : State) (m : AapMsg) (ver : Nat) (st : AapCode) (idx sub : Nat) (v : Bytes) :
    quiet (answerAt s m ver st idx sub v) = quiet s := by
  unfold answerAt; simp

@[simp] theorem quiet_answer (s : State) (m : AapMsg) (st : AapCode) (v : Bytes) : quiet (answer s m st v) = quiet s := by
  unfold answer; simp

@[simp] theorem quiet_countSigned (s : State) (bad : Option Nat) : quiet (countSigned s bad) = quiet s := by
  unfold countSigned; (try dsimp only); (repeat' split) <;> (try simp) <;>
    (repeat' (first | rfl | (simp; done) | (refine (quiet_foldl _ (fun s a => ?_) _ _).trans ?_ <;> (try dsimp only)) | split | (refine quiet_ite _ _ _ _ ?_ ?_)))
    <;> (try simp)

@[simp] theorem quiet_setResult (s : State) (n : Nat) : quiet (setResult s n) = quiet s := by
  rfl

@[simp] theorem quiet_commitToken (s : State) (m : AapMsg) : quiet (commitToken s m) = quiet s := by
  unfold commitToken; dsimp only; (repeat' split) <;> simp [quiet_foldl, quiet_ite]

@[simp] theorem quiet_lcWrite (s : State) (rec : Nat) (p : Bytes) (w : NvWhy) : quiet (lcWrite s rec p w) = quiet s := by
  unfold lcWrite
  dsimp only
  split <;> simp

@[simp] theorem quiet_lcMark (s : State) (p : LcPhase) : quiet (lcMark s p) = quiet s := by
  unfold lcMark; simp

@[simp] theorem quiet_commitRequest (s : State) (m : AapMsg) : quiet (commitRequest s m) = quiet s := by
  unfold commitRequest; dsimp only; (repeat' split) <;> simp [quiet_foldl, quiet_ite]

@[simp] theorem quiet_answerWaiting (s : State) (st : AapCode) : quiet (answerWaiting s st) = quiet s := by
  unfold answerWaiting; split <;> simp

@[simp] theorem quiet_destroyKeys (s : State) : quiet (destroyKeys s) = quiet s := by
  unfold destroyKeys; dsimp only
  refine (quiet_mk ..).trans ((quiet_mk ..).trans ((quiet_foldl _ (fun s f => quiet_modFn s f _) _ _).trans ?_))
  exact (quiet_foldl _ (fun s r => quiet_cutShort s r) _ _).trans (by simp)

@[simp] theorem quiet_lcDestroy (s : State) : quiet (lcDestroy s) = quiet s := by
  unfold lcDestroy; simp

@[simp] theorem quiet_lcStop (s : State) : quiet (lcStop s) = quiet s := by
  unfold lcStop; dsimp only; (repeat' split) <;> simp [quiet_foldl]

@[simp] theorem quiet_transitionWorkAbandon (s : State) : quiet (transitionWorkAbandon s) = quiet s := by
  unfold transitionWorkAbandon; (repeat' split) <;> simp [quiet_foldl]

@[simp] theorem quiet_lcAuthority (s : State) : quiet (lcAuthority s) = quiet s := by
  unfold lcAuthority; split <;> simp

@[simp] theorem quiet_lcDone (s : State) : quiet (lcDone s) = quiet s := by
  unfold lcDone; dsimp only; (repeat' split) <;> simp [quiet_foldl, quiet_ite]

/-- The wrapper out of its test modes, as a transition leaves it (R341). -/
def wrapperShut (s : State) : State := { s with tap := { s.tap with wrapper := false, wso := false } }

theorem quiet_wrapperShut {s t : State} (h : quiet s = quiet t) : quiet (wrapperShut s) = quiet (wrapperShut t) := by
  simp only [quiet, wrapperShut, Prod.mk.injEq] at h ⊢
  obtain ⟨h1, h2, h3, h4⟩ := h
  exact ⟨h1, h2, h3, by rw [h4]⟩

/-- A phase of a transition leaves the quiet part alone; but with the new state the wrapper's test modes end (R341). -/
theorem quiet_phaseDone (s : State) (p : LcPhase) (b : Bytes) :
    quiet (phaseDone s p b) = quiet s ∨ quiet (phaseDone s p b) = quiet (wrapperShut s) := by
  unfold phaseDone
  split
  · left; simp
  · left; simp
  · right; rw [quiet_lcMark]; rfl
  · left; simp
  · left; rfl

@[simp] theorem quiet_phaseFailed (s : State) (j : NvJob) : quiet (phaseFailed s j) = quiet s := by
  unfold phaseFailed; split <;> simp

@[simp] theorem quiet_nvWriteRetry (s : State) : quiet (nvWriteRetry s) = quiet s := by
  unfold nvWriteRetry; (repeat' split) <;> simp

@[simp] theorem quiet_lcResume (s : State) : quiet (lcResume s) = quiet s := by
  unfold lcResume; split <;> simp

@[simp] theorem quiet_lcDrainOver (s : State) : quiet (lcDrainOver s) = quiet s := by
  unfold lcDrainOver; split <;> simp

@[simp] theorem quiet_drawChallenge (s : State) (debug : Bool) : quiet (drawChallenge s debug).2 = quiet s := by
  unfold drawChallenge; (try dsimp only); (repeat' split) <;> (try simp) <;>
    (repeat' (first | rfl | (simp; done) | (refine (quiet_foldl _ (fun s a => ?_) _ _).trans ?_ <;> (try dsimp only)) | split | (refine quiet_ite _ _ _ _ ?_ ?_)))
    <;> (try simp)

@[simp] theorem quiet_commitNonce (s : State) (m : AapMsg) : quiet (commitNonce s m) = quiet s := by
  unfold commitNonce; dsimp only; (repeat' split) <;> simp [quiet_foldl, quiet_ite]

@[simp] theorem quiet_certLoaded (s : State) (r : Nat) (q : Req) : quiet (certLoaded s r q) = quiet s := by
  unfold certLoaded; dsimp only
  (repeat' split) <;> simp

@[simp] theorem quiet_certInstall (r : Nat) (s : State) : quiet (certInstall r s) = quiet s := by
  unfold certInstall
  split
  · rfl
  · split
    · rfl
    · split
      · split
        · simp
        · rw [quiet_pumpAll, quiet_thenLoaded _ _ _ (fun q => by simp)]; simp
      · split <;> simp

@[simp] theorem quiet_certEnded (s : State) (r : Nat) (ok : Bool) : quiet (certEnded s r ok) = quiet s := by
  unfold certEnded; (repeat' split) <;> simp

@[simp] theorem quiet_jubileePersist (s : State) : quiet (jubileePersist s) = quiet s := by
  unfold jubileePersist; split <;> simp

@[simp] theorem quiet_recordRead (s : State) (rec : Nat) : quiet (recordRead s rec) = quiet s := by
  unfold recordRead
  split
  · simp
  · simp
  · dsimp only; split <;> simp
  · simp
  · rfl

theorem quiet_jobOver (s : State) (j : NvJob) (ok : Bool) :
    quiet (jobOver s j ok) = quiet s ∨ quiet (jobOver s j ok) = quiet (wrapperShut s) := by
  unfold jobOver
  split
  case h_3 p _ =>
    split
    · exact quiet_phaseDone s p _
    · left; simp
  all_goals left; (repeat' split) <;> simp

theorem quiet_nvEnd (s : State) (w : Bytes) (e : Bool) :
    quiet (nvEnd s w e) = quiet s ∨ quiet (nvEnd s w e) = quiet (wrapperShut s) := by
  unfold nvEnd
  dsimp only
  split
  · left; rfl
  · split
    · left; (repeat' split) <;> simp
    · split
      · left; simp
      · next j ok _ =>
        simp only [quiet_bringWatch, quiet_nvBegin]
        rcases quiet_jobOver (nvAnswer s w e).1 j ok with h | h
        · left; rw [h]; simp
        · right; rw [h]; exact quiet_wrapperShut (quiet_nvAnswer s w e)

theorem quiet_nvCommandEnd (words : Bytes) (err : Bool) (s : State) :
    quiet (nvCommandEnd words err s) = quiet s ∨ quiet (nvCommandEnd words err s) = quiet (wrapperShut s) := quiet_nvEnd s words err

theorem quiet_nvTimeout (s : State) : quiet (nvTimeout s) = quiet s ∨ quiet (nvTimeout s) = quiet (wrapperShut s) :=
  quiet_nvEnd s [] true

@[simp] theorem quiet_actStart (s : State) (f : Nat) (k : ActKind) : quiet (actStart s f k) = quiet s := by
  unfold actStart; split <;> simp

@[simp] theorem quiet_signed (s : State) (b : Bytes) : quiet (signed s b).2 = quiet s := quiet_pkaRandom s 64

@[simp] theorem quiet_countChecked (s : State) (b : Bytes) (k : Nat) : quiet (countChecked s b k) = quiet s := by
  unfold countChecked; (try dsimp only); (repeat' split) <;> (try simp) <;>
    (repeat' (first | rfl | (simp; done) | (refine (quiet_foldl _ (fun s a => ?_) _ _).trans ?_ <;> (try dsimp only)) | split | (refine quiet_ite _ _ _ _ ?_ ?_)))
    <;> (try simp)

@[simp] theorem quiet_emit (s : State) (f : Nat) (out : Bytes) : quiet (emit s f out) = quiet s := by
  unfold emit; split <;> simp

@[simp] theorem quiet_actOpen (s : State) (f : Nat) : quiet (actOpen s f) = quiet s := by
  unfold actOpen; simp

@[simp] theorem quiet_actSave (s : State) (f : Nat) (b : Bytes) : quiet (actSave s f b) = quiet s := by
  unfold actSave; dsimp only; (repeat' split) <;> simp

@[simp] theorem quiet_actRestore (s : State) (f : Nat) (ses : Session) (b : Bytes) :
    quiet (actRestore s f ses b) = quiet s := by
  unfold actRestore; (try dsimp only); (repeat' split) <;> (try simp) <;>
    (repeat' (first | rfl | (simp; done) | (refine (quiet_foldl _ (fun s a => ?_) _ _).trans ?_ <;> (try dsimp only)) | split | (refine quiet_ite _ _ _ _ ?_ ?_)))
    <;> (try simp)

@[simp] theorem quiet_receiptOf (s : State) (f : Nat) (img : ImageRec) : quiet (receiptOf s f img).2 = quiet s := quiet_signed _ _

@[simp] theorem quiet_actRelease (s : State) (f : Nat) (b : Bytes) : quiet (actRelease s f b) = quiet s := by
  unfold actRelease; (try dsimp only); (repeat' split) <;> (try simp) <;>
    (repeat' (first | rfl | (simp; done) | (refine (quiet_foldl _ (fun s a => ?_) _ _).trans ?_ <;> (try dsimp only)) | split | (refine quiet_ite _ _ _ _ ?_ ?_)))
    <;> (try simp)

@[simp] theorem quiet_actReceipt (s : State) (f late : Nat) : quiet (actReceipt s f late) = quiet s := by
  unfold actReceipt; (try dsimp only); (repeat' split) <;> (try simp) <;>
    (repeat' (first | rfl | (simp; done) | (refine (quiet_foldl _ (fun s a => ?_) _ _).trans ?_ <;> (try dsimp only)) | split | (refine quiet_ite _ _ _ _ ?_ ?_)))
    <;> (try simp)

@[simp] theorem quiet_actCommit (s : State) (f : Nat) (ses : Session) (b : Bytes) :
    quiet (actCommit s f ses b) = quiet s := by
  unfold actCommit; dsimp only; (repeat' split) <;> simp [quiet_foldl, quiet_ite]

@[simp] theorem quiet_scrubSession (s : State) (f : Nat) : quiet (scrubSession s f) = quiet s := by
  rfl

@[simp] theorem quiet_queueAbandon (s : State) (f : Nat) : quiet (queueAbandon s f) = quiet s := by
  unfold queueAbandon; (try dsimp only); (repeat' split) <;> (try simp) <;>
    (repeat' (first | rfl | (simp; done) | (refine (quiet_foldl _ (fun s a => ?_) _ _).trans ?_ <;> (try dsimp only)) | split | (refine quiet_ite _ _ _ _ ?_ ?_)))
    <;> (try simp)

@[simp] theorem quiet_actAbandon (s : State) (f : Nat) : quiet (actAbandon s f) = quiet s := by
  unfold actAbandon; split <;> simp

@[simp] theorem quiet_actRenew (s : State) (f : Nat) : quiet (actRenew s f) = quiet s := by
  unfold actRenew; (try dsimp only); (repeat' split) <;> (try simp) <;>
    (repeat' (first | rfl | (simp; done) | (refine (quiet_foldl _ (fun s a => ?_) _ _).trans ?_ <;> (try dsimp only)) | split | (refine quiet_ite _ _ _ _ ?_ ?_)))
    <;> (try simp)

@[simp] theorem quiet_actRun (s : State) (f : Nat) (a : ActJob) : quiet (actRun s f a) = quiet s := by
  unfold actRun; (repeat' split) <;> simp

@[simp] theorem quiet_actDestroyed (s : State) (f : Nat) (a : ActJob) : quiet (actDestroyed s f a) = quiet s := by
  unfold actDestroyed; (repeat' split) <;> simp

@[simp] theorem quiet_actRestored (s : State) (f : Nat) (a : ActJob) : quiet (actRestored s f a) = quiet s := by
  unfold actRestored; (try dsimp only); (repeat' split) <;> (try simp) <;>
    (repeat' (first | rfl | (simp; done) | (refine (quiet_foldl _ (fun s a => ?_) _ _).trans ?_ <;> (try dsimp only)) | split | (refine quiet_ite _ _ _ _ ?_ ?_)))
    <;> (try simp)

@[simp] theorem quiet_actionCompletion (f : Nat) (s : State) : quiet (actionCompletion f s) = quiet s := by
  unfold actionCompletion; (repeat' split) <;> simp

@[simp] theorem quiet_migOpenTimeout (f : Nat) (s : State) : quiet (migOpenTimeout f s) = quiet s := by
  unfold migOpenTimeout; split <;> simp

@[simp] theorem quiet_needKat (s : State) (u : Nat) : quiet (needKat s u) = quiet s := by
  rfl

@[simp] theorem quiet_tripStops (s : State) (safe : Bool) : quiet (tripStops s safe) = quiet s := by
  unfold tripStops; (try dsimp only); (repeat' split) <;> (try simp) <;>
    (repeat' (first | rfl | (simp; done) | (refine (quiet_foldl _ (fun s a => ?_) _ _).trans ?_ <;> (try dsimp only)) | split | (refine quiet_ite _ _ _ _ ?_ ?_)))
    <;> (try simp)

@[simp] theorem quiet_tripErase (s : State) (c : AlarmClass) (safe : Bool) : quiet (tripErase s c safe) = quiet s := by
  unfold tripErase; (try dsimp only); (repeat' split) <;> (try simp) <;>
    (repeat' (first | rfl | (simp; done) | (refine (quiet_foldl _ (fun s a => ?_) _ _).trans ?_ <;> (try dsimp only)) | split | (refine quiet_ite _ _ _ _ ?_ ?_)))
    <;> (try simp)

@[simp] theorem quiet_tripped (s : State) (c : AlarmClass) (more : List Nat) : quiet (tripped s c more) = quiet s := by
  unfold tripped; (try dsimp only); (repeat' split) <;> (try simp) <;>
    (repeat' (first | rfl | (simp; done) | (refine (quiet_foldl _ (fun s a => ?_) _ _).trans ?_ <;> (try dsimp only)) | split | (refine quiet_ite _ _ _ _ ?_ ?_)))
    <;> (try simp)

@[simp] theorem quiet_alarmTrip (c : AlarmClass) (src : AlarmSource) (s : State) : quiet (alarmTrip c src s) = quiet s := by
  unfold alarmTrip; (repeat' split) <;> simp

@[simp] theorem quiet_alarmInactive (s : State) : quiet (alarmInactive s) = quiet s := by
  unfold alarmInactive; dsimp only; (repeat' split) <;> simp [quiet_foldl, quiet_ite]

@[simp] theorem quiet_alarmHoldEnd (s : State) : quiet (alarmHoldEnd s) = quiet s := by
  unfold alarmHoldEnd; split <;> simp

@[simp] theorem quiet_echoDiffers (s : State) (u : Nat) : quiet (echoDiffers s u) = quiet s := by
  unfold echoDiffers; (try dsimp only); (repeat' split) <;> (try simp) <;>
    (repeat' (first | rfl | (simp; done) | (refine (quiet_foldl _ (fun s a => ?_) _ _).trans ?_ <;> (try dsimp only)) | split | (refine quiet_ite _ _ _ _ ?_ ?_)))
    <;> (try simp)

@[simp] theorem quiet_failRuns (s : State) (src : Nat) (cs : List Nat) : quiet (failRuns s src cs) = quiet s := by
  unfold failRuns; (try dsimp only); (repeat' split) <;> (try simp) <;>
    (repeat' (first | rfl | (simp; done) | (refine (quiet_foldl _ (fun s a => ?_) _ _).trans ?_ <;> (try dsimp only)) | split | (refine quiet_ite _ _ _ _ ?_ ?_)))
    <;> (try simp)

@[simp] theorem quiet_touched (s : State) (u k : Nat) : quiet (touched s u k) = quiet s := by
  unfold touched; (try dsimp only); (repeat' split) <;> (try simp) <;>
    (repeat' (first | rfl | (simp; done) | (refine (quiet_foldl _ (fun s a => ?_) _ _).trans ?_ <;> (try dsimp only)) | split | (refine quiet_ite _ _ _ _ ?_ ?_)))
    <;> (try simp)

@[simp] theorem quiet_walkerTouched (s : State) : quiet (walkerTouched s) = quiet s := by
  unfold walkerTouched; (try dsimp only); (repeat' split) <;> (try simp) <;>
    (repeat' (first | rfl | (simp; done) | (refine (quiet_foldl _ (fun s a => ?_) _ _).trans ?_ <;> (try dsimp only)) | split | (refine quiet_ite _ _ _ _ ?_ ?_)))
    <;> (try simp)

@[simp] theorem quiet_watchTrips (s : State) (u : Nat) : quiet (watchTrips s u) = quiet s := by
  unfold watchTrips; (try dsimp only); (repeat' split) <;> (try simp) <;>
    (repeat' (first | rfl | (simp; done) | (refine (quiet_foldl _ (fun s a => ?_) _ _).trans ?_ <;> (try dsimp only)) | split | (refine quiet_ite _ _ _ _ ?_ ?_)))
    <;> (try simp)

@[simp] theorem quiet_unitCondition (s : State) (u src : Nat) : quiet (unitCondition s u src) = quiet s := by
  unfold unitCondition; (try dsimp only); (repeat' split) <;> (try simp) <;>
    (repeat' (first | rfl | (simp; done) | (refine (quiet_foldl _ (fun s a => ?_) _ _).trans ?_ <;> (try dsimp only)) | split | (refine quiet_ite _ _ _ _ ?_ ?_)))
    <;> (try simp)

@[simp] theorem quiet_faultSourceSet (src : BitVec 10) (s : State) : quiet (faultSourceSet src s) = quiet s := by
  unfold faultSourceSet; dsimp only; (repeat' split) <;> simp [quiet_foldl, quiet_ite]

@[simp] theorem quiet_fenceResolved (u : Nat) (s : State) : quiet (fenceResolved u s) = quiet s := by
  unfold fenceResolved; split <;> simp

@[simp] theorem quiet_vigilPeriod (u : Nat) (s : State) : quiet (vigilPeriod u s) = quiet s := by
  unfold vigilPeriod; split <;> simp

@[simp] theorem quiet_vigilCheck (u : Nat) (err : Bool) (s : State) : quiet (vigilCheck u err s) = quiet s := by
  unfold vigilCheck; (repeat' split) <;> simp

@[simp] theorem quiet_rejoin (s : State) (u : Nat) : quiet (rejoin s u) = quiet s := by
  rfl

@[simp] theorem quiet_afterRejoin (s : State) (u : Nat) : quiet (afterRejoin s u) = quiet s := by
  unfold afterRejoin; (try dsimp only); (repeat' split) <;> (try simp) <;>
    (repeat' (first | rfl | (simp; done) | (refine (quiet_foldl _ (fun s a => ?_) _ _).trans ?_ <;> (try dsimp only)) | split | (refine quiet_ite _ _ _ _ ?_ ?_)))
    <;> (try simp)

@[simp] theorem quiet_readmit (s : State) (u : Nat) : quiet (readmit s u) = quiet s := by
  unfold readmit; (repeat' split) <;> simp [quiet_foldl]

@[simp] theorem quiet_unitTested (s : State) (u : Nat) (pass : Bool) : quiet (unitTested s u pass) = quiet s := by
  unfold unitTested; dsimp only; (repeat' split) <;> simp [quiet_foldl, quiet_ite]

@[simp] theorem quiet_genTested (s : State) (g : Nat) (pass : Bool) : quiet (genTested s g pass) = quiet s := by
  unfold genTested; split <;> simp

@[simp] theorem quiet_selfTestEnd (t : TestTarget) (pass : Bool) (s : State) : quiet (selfTestEnd t pass s) = quiet s := by
  unfold selfTestEnd; (repeat' split) <;> simp

@[simp] theorem quiet_skewed (s : State) : quiet (skewed s) = quiet s := by
  rfl

@[simp] theorem quiet_stateSkew (t : SkewTarget) (s : State) : quiet (stateSkew t s) = quiet s := by
  unfold stateSkew; (repeat' split) <;> simp

@[simp] theorem quiet_lanternToggle (s : State) : quiet (lanternToggle s) = quiet s := by
  unfold lanternToggle; (try dsimp only); (repeat' split) <;> (try simp) <;>
    (repeat' (first | rfl | (simp; done) | (refine (quiet_foldl _ (fun s a => ?_) _ _).trans ?_ <;> (try dsimp only)) | split | (refine quiet_ite _ _ _ _ ?_ ?_)))
    <;> (try simp)

@[simp] theorem quiet_heldInputs (s : State) : quiet (heldInputs s) = quiet s := by
  unfold heldInputs; (try dsimp only); (repeat' split) <;> (try simp) <;>
    (repeat' (first | rfl | (simp; done) | (refine (quiet_foldl _ (fun s a => ?_) _ _).trans ?_ <;> (try dsimp only)) | split | (refine quiet_ite _ _ _ _ ?_ ?_)))
    <;> (try simp)

@[simp] theorem quiet_coreSupplyLost (s : State) : quiet (coreSupplyLost s) = quiet s := by
  unfold coreSupplyLost; split <;> simp

@[simp] theorem quiet_supplyCalibration (core aon : Nat) (s : State) : quiet (supplyCalibration core aon s) = quiet s := by
  unfold supplyCalibration; (repeat' split) <;> simp

@[simp] theorem quiet_openToken (s : State) (r t : Nat) (claim : Bool) (m : PeerMsg) :
    quiet (openToken s r t claim m) = quiet s := by
  unfold openToken; simp

@[simp] theorem quiet_closeToken (s : State) (k : Token) : quiet (closeToken s k) = quiet s := by
  unfold closeToken; simp

@[simp] theorem quiet_peerFail (s : State) (r : Nat) : quiet (peerFail s r) = quiet s := by
  unfold peerFail; simp

@[simp] theorem quiet_peerBreak (s : State) (t : Nat) : quiet (peerBreak s t) = quiet s := by
  unfold peerBreak
  exact quiet_failWith _ _ _ fun _ => by split <;> simp

@[simp] theorem quiet_claim (s : State) (r : Nat) (q : Req) : quiet (claim s r q) = quiet s := by
  unfold claim; split <;> simp

@[simp] theorem quiet_srcPeerOp (r : Nat) (s : State) : quiet (srcPeerOp r s) = quiet s := by
  unfold srcPeerOp; (repeat' split) <;> simp

@[simp] theorem quiet_offer (s : State) (r : Nat) (q : Req) : quiet (offer s r q) = quiet s := by
  unfold offer; split <;> simp

@[simp] theorem quiet_dstLoaded (s : State) (r : Nat) (q : Req) : quiet (dstLoaded s r q) = quiet s := by
  unfold dstLoaded
  refine quiet_symEnd _ _ _ _ fun s x => ?_
  dsimp only
  refine quiet_ite _ _ _ _ (quiet_failStep ..) (quiet_ite _ _ _ _ (quiet_failStep ..) ?_)
  simp

@[simp] theorem quiet_dstPeerOp (r : Nat) (s : State) : quiet (dstPeerOp r s) = quiet s := by
  unfold dstPeerOp; (repeat' split) <;> simp

@[simp] theorem quiet_capsMsg (h : PeerHdr) (s : State) : quiet (capsMsg h s) = quiet s := by
  unfold capsMsg; (repeat' split) <;> simp

@[simp] theorem quiet_dataMsg (h : PeerHdr) (b : Bytes) (s : State) : quiet (dataMsg h b s) = quiet s := by
  unfold dataMsg; dsimp only; (repeat' split) <;> simp [quiet_foldl, quiet_ite]

@[simp] theorem quiet_jobReceived (s : State) (r : Nat) (q : Req) : quiet (jobReceived s r q) = quiet s := by
  unfold jobReceived; (try dsimp only); (repeat' split) <;> (try simp) <;>
    (repeat' (first | rfl | (simp; done) | (refine (quiet_foldl _ (fun s a => ?_) _ _).trans ?_ <;> (try dsimp only)) | split | (refine quiet_ite _ _ _ _ ?_ ?_)))
    <;> (try simp)

@[simp] theorem quiet_jobEndMsg (h : PeerHdr) (s : State) : quiet (jobEndMsg h s) = quiet s := by
  unfold jobEndMsg; (repeat' split) <;> simp

@[simp] theorem quiet_undefinedPeerMsg (token : Nat) (s : State) : quiet (undefinedPeerMsg token s) = quiet s := by
  unfold undefinedPeerMsg; split <;> simp

@[simp] theorem quiet_peerTimeout (r : Nat) (s : State) : quiet (peerTimeout r s) = quiet s := by
  unfold peerTimeout; (repeat' split) <;> simp

@[simp] theorem quiet_sendWaiting (s : State) : quiet (sendWaiting s) = quiet s := by
  unfold sendWaiting; (try dsimp only); (repeat' split) <;> (try simp) <;>
    (repeat' (first | rfl | (simp; done) | (refine (quiet_foldl _ (fun s a => ?_) _ _).trans ?_ <;> (try dsimp only)) | split | (refine quiet_ite _ _ _ _ ?_ ?_)))
    <;> (try simp)

@[simp] theorem quiet_ambiguous (s : State) (r : Nat) (q : Req) : quiet (ambiguous s r q) = quiet s := by
  unfold ambiguous; split <;> simp

@[simp] theorem quiet_queryAnswered (s : State) (r : Nat) (q : Req) (result slot : Nat) :
    quiet (queryAnswered s r q result slot) = quiet s := by
  unfold queryAnswered; (repeat' split) <;> simp

@[simp] theorem quiet_lookupAnswer (qid : BitVec 6) (result : BitVec 2) (slot : BitVec 24) (s : State) :
    quiet (lookupAnswer qid result slot s) = quiet s := by
  unfold lookupAnswer; dsimp only; (repeat' split) <;> simp [quiet_foldl, quiet_ite]

@[simp] theorem quiet_lookupRetry (r : Nat) (s : State) : quiet (lookupRetry r s) = quiet s := by
  unfold lookupRetry; (repeat' split) <;> simp

@[simp] theorem quiet_lookupTimeout (r : Nat) (s : State) : quiet (lookupTimeout r s) = quiet s := by
  unfold lookupTimeout; dsimp only; (repeat' split) <;> simp

@[simp] theorem quiet_abortRun (s : State) (c : Nat) : quiet (abortRun s c) = quiet s := by
  unfold abortRun; (try dsimp only); (repeat' split) <;> (try simp) <;>
    (repeat' (first | rfl | (simp; done) | (refine (quiet_foldl _ (fun s a => ?_) _ _).trans ?_ <;> (try dsimp only)) | split | (refine quiet_ite _ _ _ _ ?_ ?_)))
    <;> (try simp)

@[simp] theorem quiet_abortOwner (s : State) (o : Own) : quiet (abortOwner s o) = quiet s := by
  unfold abortOwner; (repeat' split) <;> simp

@[simp] theorem quiet_abortReqs (s : State) (rs : List Nat) : quiet (abortReqs s rs) = quiet s := by
  unfold abortReqs; (repeat' split) <;> simp [quiet_foldl]

@[simp] theorem quiet_abortChains (s : State) (cs : List Nat) : quiet (abortChains s cs) = quiet s := by
  unfold abortChains; (repeat' split) <;> simp [quiet_foldl]

@[simp] theorem quiet_abortRuns (s : State) (p : Nat → Bool) : quiet (abortRuns s p) = quiet s := by
  unfold abortRuns; (try dsimp only); (repeat' split) <;> (try simp) <;>
    (repeat' (first | rfl | (simp; done) | (refine (quiet_foldl _ (fun s a => ?_) _ _).trans ?_ <;> (try dsimp only)) | split | (refine quiet_ite _ _ _ _ ?_ ?_)))
    <;> (try simp)

@[simp] theorem quiet_abortOn (s : State) (u : Nat) : quiet (abortOn s u) = quiet s := by
  unfold abortOn; (repeat' split) <;> simp [quiet_foldl]

@[simp] theorem quiet_unitDrainBound (u : Nat) (s : State) : quiet (unitDrainBound u s) = quiet s := by
  unfold unitDrainBound; split <;> simp

@[simp] theorem quiet_echoDrainBound (n : Nat) (s : State) : quiet (echoDrainBound n s) = quiet s := by
  unfold echoDrainBound; split <;> simp

@[simp] theorem quiet_drainBound (t : DrainTarget) (s : State) : quiet (drainBound t s) = quiet s := by
  unfold drainBound; split <;> simp

@[simp] theorem quiet_channelDoorbell (f : Nat) (off : BitVec 13) (v : U32) (s : State) :
    quiet (channelDoorbell f off v s) = quiet s := by
  unfold channelDoorbell; dsimp only; (repeat' split) <;> simp [quiet_foldl, quiet_ite]

@[simp] theorem quiet_stopWord (f : Nat) (off : BitVec 13) (v : U32) (s : State) :
    quiet (stopWord f off v s) = quiet s := by
  unfold stopWord; (repeat' split) <;> simp

@[simp] theorem quiet_channelRunStart (c : Nat) (s : State) : quiet (channelRunStart c s) = quiet s := by
  unfold channelRunStart; (try dsimp only); (repeat' split) <;> (try simp) <;>
    (repeat' (first | rfl | (simp; done) | (refine (quiet_foldl _ (fun s a => ?_) _ _).trans ?_ <;> (try dsimp only)) | split | (refine quiet_ite _ _ _ _ ?_ ?_)))
    <;> (try simp)

@[simp] theorem quiet_copyRun (c : Nat) (s : State) : quiet (copyRun c s) = quiet s := by
  unfold copyRun; (repeat' split) <;> simp

@[simp] theorem quiet_fillRun (c : Nat) (s : State) : quiet (fillRun c s) = quiet s := by
  unfold fillRun; (repeat' split) <;> simp

@[simp] theorem quiet_compareRun (c : Nat) (s : State) : quiet (compareRun c s) = quiet s := by
  unfold compareRun; (repeat' split) <;> simp

@[simp] theorem quiet_gatherRun (c : Nat) (s : State) : quiet (gatherRun c s) = quiet s := by
  unfold gatherRun; dsimp only; (repeat' split) <;> simp [quiet_foldl, quiet_ite]

@[simp] theorem quiet_scatterRun (c : Nat) (s : State) : quiet (scatterRun c s) = quiet s := by
  unfold scatterRun; dsimp only; (repeat' split) <;> simp [quiet_foldl, quiet_ite]

@[simp] theorem quiet_timerFiring (t : Nat) (s : State) : quiet (timerFiring t s) = quiet s := by
  unfold timerFiring; split <;> simp

@[simp] theorem quiet_readChallenge (s : State) (m : AapMsg) (e : Entry) : quiet (readChallenge s m e) = quiet s := by
  unfold readChallenge
  split
  · simp
  · split
    · simp
    · next t h => simp [quiet_drbgReady _ _ h]

@[simp] theorem quiet_readRandom (s : State) (m : AapMsg) (e : Entry) : quiet (readRandom s m e) = quiet s := by
  unfold readRandom
  dsimp only
  split
  · simp
  · split
    · simp
    · next t h => simp [quiet_drbgReady _ _ h]

@[simp] theorem quiet_readLong (s : State) (m : AapMsg) (e : Entry) : quiet (readLong s m e) = quiet s := by
  unfold readLong; dsimp only; (repeat' split) <;> simp [quiet_foldl, quiet_ite]

@[simp] theorem quiet_readInterval (s : State) (m : AapMsg) : quiet (readInterval s m) = quiet s := by
  unfold readInterval; simp

@[simp] theorem quiet_readEntry (s : State) (m : AapMsg) (e : Entry) : quiet (readEntry s m e) = quiet s := by
  unfold readEntry; (repeat' split) <;> simp

@[simp] theorem quiet_readPend (s : State) (m : AapMsg) (e : Entry) : quiet (readPend s m e) = quiet s := by
  unfold readPend; split <;> simp

@[simp] theorem quiet_answerNext (s : State) (m : AapMsg) : quiet (answerNext s m) = quiet s := by
  unfold answerNext; split <;> simp

@[simp] theorem quiet_stageWrite (s : State) (m : AapMsg) (e : Entry) (g : Nat) : quiet (stageWrite s m e g) = quiet s := by
  unfold stageWrite; simp

@[simp] theorem quiet_clearBits (s : State) (m : AapMsg) : quiet (clearBits s m) = quiet s := by
  unfold clearBits; (repeat' split) <;> simp

@[simp] theorem quiet_newIncarnation (s : State) : quiet (newIncarnation s) = quiet s := by
  unfold newIncarnation; dsimp only; (repeat' split) <;> simp [quiet_foldl, quiet_ite]

@[simp] theorem quiet_writeVaultClear (s : State) (m : AapMsg) : quiet (writeVaultClear s m) = quiet s := by
  unfold writeVaultClear; (repeat' split) <;> simp

@[simp] theorem quiet_writeRngReset (s : State) (m : AapMsg) : quiet (writeRngReset s m) = quiet s := by
  unfold writeRngReset; split <;> simp

@[simp] theorem quiet_writeTimerArm (s : State) (m : AapMsg) : quiet (writeTimerArm s m) = quiet s := by
  unfold writeTimerArm; dsimp only; (repeat' split) <;> simp [quiet_foldl, quiet_ite]

@[simp] theorem quiet_writeSafe (s : State) (m : AapMsg) : quiet (writeSafe s m) = quiet s := by
  unfold writeSafe; split <;> simp

@[simp] theorem quiet_writeAction (s : State) (m : AapMsg) : quiet (writeAction s m) = quiet s := by
  unfold writeAction; dsimp only; (repeat' split) <;> simp [quiet_foldl, quiet_ite]

@[simp] theorem quiet_writeCommand (s : State) (m : AapMsg) : quiet (writeCommand s m) = quiet s := by
  unfold writeCommand; (repeat' split) <;> simp

@[simp] theorem quiet_writeEntry (s : State) (m : AapMsg) (e : Entry) : quiet (writeEntry s m e) = quiet s := by
  unfold writeEntry; (repeat' split) <;> simp

@[simp] theorem quiet_rewriteBoot (s t : State) : quiet (rewriteBoot s t) = quiet t := by
  unfold rewriteBoot
  dsimp only
  (repeat' split) <;> simp

@[simp] theorem quiet_vaultApplied (s t : State) : quiet (vaultApplied s t) = quiet t := by
  unfold vaultApplied
  rw [quiet_rewriteBoot]
  split
  · rw [quiet_newIncarnation]
  · rfl

@[simp] theorem quiet_applied (s t : State) (g : Nat) : quiet (applied s t g) = quiet t := by
  unfold applied
  (repeat' split) <;> simp only [quiet_rewriteBoot, quiet_unitsApplied, quiet_vaultApplied, quiet_fnApplied, quiet_ringApplied,
    quiet_chanApplied, quiet_timerApplied]

@[simp] theorem quiet_commitGroup (s : State) (m : AapMsg) : quiet (commitGroup s m) = quiet s := by
  unfold commitGroup; dsimp only; (repeat' split) <;> simp [quiet_foldl, quiet_ite]

@[simp] theorem quiet_answerVersions (s : State) (m : AapMsg) : quiet (answerVersions s m) = quiet s := by
  unfold answerVersions; simp

@[simp] theorem quiet_perform (s : State) (m : AapMsg) : quiet (perform s m) = quiet s := by
  unfold perform; (repeat' split) <;> simp

@[simp] theorem quiet_serve (m : AapMsg) (s : State) : quiet (serve m s) = quiet s := by
  unfold serve; (repeat' split) <;> simp

@[simp] theorem quiet_serveIf (p : Bool) (m : AapMsg) (s : State) : quiet (serveIf p m s) = quiet s := by
  unfold serveIf; split <;> simp

@[simp] theorem quiet_pendingTimeout (g : Nat) (s : State) : quiet (pendingTimeout g s) = quiet s := by
  rfl

@[simp] theorem quiet_snapshotExpiry (p : Principal) (s : State) : quiet (snapshotExpiry p s) = quiet s := by
  rfl

@[simp] theorem quiet_mbReq (f : Nat) (word : U32) (request : Bytes) (s : State) :
    quiet (mbReq f word request s) = quiet s := by
  unfold mbReq; dsimp only; (repeat' split) <;> simp [quiet_foldl, quiet_ite]

@[simp] theorem quiet_badPacket (s : State) : quiet (badPacket s) = quiet s := by
  rfl

@[simp] theorem quiet_dropReasm (s : State) (eid tag : Nat) : quiet (dropReasm s eid tag) = quiet s := by
  rfl

@[simp] theorem quiet_answerFull (s : State) (eid tag : Nat) (m : AapMsg) : quiet (answerFull s eid tag m) = quiet s := by
  rfl

@[simp] theorem quiet_oobMessage (s : State) (eid tag : Nat) (body : Bytes) :
    quiet (oobMessage s eid tag body) = quiet s := by
  unfold oobMessage; (repeat' split) <;> simp

@[simp] theorem quiet_mctpPacket (p : Bytes) (s : State) : quiet (mctpPacket p s) = quiet s := by
  unfold mctpPacket; dsimp only; (repeat' split) <;> simp [quiet_foldl, quiet_ite]

@[simp] theorem quiet_ctrlAnswer (s : State) (m : CtrlMsg) (cmd cc : Nat) (data : Bytes) :
    quiet (ctrlAnswer s m cmd cc data) = quiet s := by
  rfl

theorem quiet_ctrlUp (s t : State) (h : quiet t = quiet s) : quiet (ctrlUp s t) = quiet s := by
  unfold ctrlUp
  split
  · exact h
  · rfl

@[simp] theorem quiet_setEndpointId (m : CtrlMsg) (s : State) : quiet (setEndpointId m s) = quiet s := by
  unfold setEndpointId; (try dsimp only); (repeat' split) <;> (try simp) <;>
    (repeat' (first | rfl | (simp; done) | (refine (quiet_foldl _ (fun s a => ?_) _ _).trans ?_ <;> (try dsimp only)) | split | (refine quiet_ite _ _ _ _ ?_ ?_)))
    <;> (try simp)

@[simp] theorem quiet_getEndpointId (m : CtrlMsg) (s : State) : quiet (getEndpointId m s) = quiet s := by
  unfold getEndpointId; (try dsimp only); (repeat' split) <;> (try simp) <;>
    (repeat' (first | rfl | (simp; done) | (refine (quiet_foldl _ (fun s a => ?_) _ _).trans ?_ <;> (try dsimp only)) | split | (refine quiet_ite _ _ _ _ ?_ ?_)))
    <;> (try simp)

@[simp] theorem quiet_getVersionSupport (m : CtrlMsg) (s : State) : quiet (getVersionSupport m s) = quiet s := by
  unfold getVersionSupport; (try dsimp only); (repeat' split) <;> (try simp) <;>
    (repeat' (first | rfl | (simp; done) | (refine (quiet_foldl _ (fun s a => ?_) _ _).trans ?_ <;> (try dsimp only)) | split | (refine quiet_ite _ _ _ _ ?_ ?_)))
    <;> (try simp)

@[simp] theorem quiet_getTypeSupport (m : CtrlMsg) (s : State) : quiet (getTypeSupport m s) = quiet s := by
  unfold getTypeSupport; (try dsimp only); (repeat' split) <;> (try simp) <;>
    (repeat' (first | rfl | (simp; done) | (refine (quiet_foldl _ (fun s a => ?_) _ _).trans ?_ <;> (try dsimp only)) | split | (refine quiet_ite _ _ _ _ ?_ ?_)))
    <;> (try simp)

@[simp] theorem quiet_getVendorSupport (m : CtrlMsg) (s : State) : quiet (getVendorSupport m s) = quiet s := by
  unfold getVendorSupport; (try dsimp only); (repeat' split) <;> (try simp) <;>
    (repeat' (first | rfl | (simp; done) | (refine (quiet_foldl _ (fun s a => ?_) _ _).trans ?_ <;> (try dsimp only)) | split | (refine quiet_ite _ _ _ _ ?_ ?_)))
    <;> (try simp)

@[simp] theorem quiet_unsupportedControl (m : CtrlMsg) (cmd : Nat) (s : State) :
    quiet (unsupportedControl m cmd s) = quiet s := by
  unfold unsupportedControl; (try dsimp only); (repeat' split) <;> (try simp) <;>
    (repeat' (first | rfl | (simp; done) | (refine (quiet_foldl _ (fun s a => ?_) _ _).trans ?_ <;> (try dsimp only)) | split | (refine quiet_ite _ _ _ _ ?_ ?_)))
    <;> (try simp)

/-! ### The collector, and what every command ends with -/

/-- As `quiet`, without the safe state. -/
def kept (s : State) : List Instr × Pins × Tap :=
  (s.pending, { s.pins with fatal := false, safeAck := false, lantern := false }, s.tap)

theorem kept_of_quiet {s t : State} (h : quiet t = quiet s) : kept t = kept s := by
  simp only [quiet, Prod.mk.injEq] at h
  simp [kept, h]

theorem safe_of_quiet {s t : State} (h : quiet t = quiet s) : t.safe = s.safe := by
  simp only [quiet, Prod.mk.injEq] at h
  exact h.2.1

theorem pending_of_kept {s t : State} (h : kept t = kept s) : t.pending = s.pending := by
  simp only [kept, Prod.mk.injEq] at h
  exact h.1

/-- Entry to the safe state. -/
theorem enterSafe_kept (s : State) : kept (enterSafe s) = kept s ∧ (enterSafe s).safe = true := by
  unfold enterSafe
  split
  · next h => exact ⟨rfl, h⟩
  · dsimp only
    have e : ∀ a b : State, quiet (raiseOwn (withdrawAll b)) = quiet b := fun _ b => by simp
    refine ⟨(kept_of_quiet (e s _)).trans ?_, (safe_of_quiet (e s _)).trans rfl⟩
    have e2 : ∀ d : State, kept (eraseKeys { d with
        safe := true, cnt := { d.cnt with pkaAband := d.cnt.pkaAband + BitVec.ofNat 32 (pkaRunning d) }
        reqs := [], chains := [], chainUse := [], echoUse := [], bursts := []
        vault := { d.vault with updates := [], fetches := [] }
        nv := { keepJub d.nv with jobs := d.nv.jobs.take 1 |>.filter NvJob.begun } }) = kept d := fun _ => rfl
    refine (e2 _).trans ((kept_of_quiet ((quiet_dropUpds ..).trans ((quiet_noteUnnamed ..).trans (quiet_disown _ fun _ => true)))).trans
      (kept_of_quiet ?_))
    rw [quiet_foldl _ (fun s c => quiet_modChan s c _), quiet_foldl _ (fun s n => quiet_modRing s n _)]
    exact quiet_mk s ..

theorem setSource_kept (l : List Nat) (s : State) (src : Nat) :
    kept (setSource l s src) = kept s ∧ (s.safe = true → (setSource l s src).safe = true) := by
  unfold setSource
  split
  · exact ⟨rfl, id⟩
  · dsimp only
    split
    · next h => exact ⟨rfl, fun _ => h⟩
    · next h =>
      have hs : s.safe ≠ true := h
      refine ⟨?_, fun h => absurd h hs⟩
      have ht : ∀ t : State, quiet t = quiet s → quiet (match sourceUnit src with | some u => failTest t u | none => t) = quiet s := by
        intro t ht; split <;> simp [ht]
      have hp : ∀ t : State, quiet t = quiet s → quiet (match probeFenced t src with
          | some u => fenceUnit { t with bring := { t.bring with probeFence := t.bring.probeFence.filter (· ≠ unitNo u) } } u
          | none => t) = quiet s := by
        intro t ht; split
        · rw [quiet_fenceUnit]; exact (quiet_mk t ..).trans ht
        · exact ht
      have h0 := hp _ (ht { s with sticky := s.sticky ||| BitVec.ofNat 768 (2 ^ src) } (quiet_mk s ..))
      have hn : ∀ (b : Bool) (t : State), quiet t = quiet s → quiet (if b = true then t else raiseOwn t) = quiet s := by
        intro b t ht; split <;> simp [ht]
      split
      · exact kept_of_quiet h0
      · exact kept_of_quiet (hn _ _ h0)
      · split
        · exact kept_of_quiet ((quiet_fenceUnit _ _).trans (hn _ _ h0))
        · exact kept_of_quiet (hn _ _ h0)
      · exact (enterSafe_kept _).1.trans (kept_of_quiet h0)

theorem setSources_kept (m l : List Nat) (s : State) :
    kept (l.foldl (setSource m) s) = kept s ∧ (s.safe = true → (l.foldl (setSource m) s).safe = true) := by
  induction l generalizing s with
  | nil => exact ⟨rfl, id⟩
  | cons x l ih =>
    have h := setSource_kept m s x
    have k := ih (setSource m s x)
    exact ⟨k.1.trans h.1, fun e => k.2 (h.2 e)⟩

theorem collectN_kept (n : Nat) (s : State) : kept (collectN n s) = kept s ∧ (s.safe = true → (collectN n s).safe = true) := by
  induction n generalizing s with
  | zero => exact ⟨rfl, id⟩
  | succ n ih =>
    simp only [collectN]
    split
    · exact ⟨rfl, id⟩
    · have h := setSources_kept s.raised (ordered s s.raised) { s with raised := [] }
      have k := ih ((ordered s s.raised).foldl (setSource s.raised) { s with raised := [] })
      exact ⟨k.1.trans h.1, fun e => k.2 (h.2 e)⟩

/-- Everything that the collector leaves alone; and it never ends the safe state. -/
theorem collect_kept (s : State) : kept (collect s) = kept s ∧ (s.safe = true → (collect s).safe = true) := collectN_kept 8 s

@[simp] theorem collect_pending (s : State) : (collect s).pending = s.pending := pending_of_kept (collect_kept s).1

@[simp] theorem settle_pending (s : State) : (settle s).pending = s.pending := by
  unfold settle
  split
  · rfl
  · dsimp only
    (repeat' split) <;> rfl

/-- With PO_RST_N high nothing that `settle` imposes ends the safe state. -/
theorem settle_safe (s : State) (h : s.pins.poRstLow = false) : (settle s).safe = s.safe := by
  unfold settle
  simp only [h, Bool.false_eq_true, ↓reduceIte]
  (repeat' split) <;> rfl

theorem warmReset_pending (s : State) : (warmReset s).pending = s.pending := by
  have e : ∀ a b : State, quiet a = quiet b → quiet (holdWarm a) = quiet (holdWarm b) := fun _ _ h => h
  unfold warmReset
  dsimp only
  generalize hx : ({ s with txns := s.txns.map fun t => match t.own with
    | .vupd | .vupdR _ => t
    | _ => { t with cut := true } } : State) = x
  have hp : x.pending = s.pending := by rw [← hx]
  rw [← hp]
  generalize hw : withdrawAll (disown (dropUpds (noteUnnamed x) fun u => !u.begun) fun o => match o with
    | .vupd | .vupdR _ => false
    | _ => true) = w
  have hq : quiet w = quiet x := by
    rw [← hw, quiet_withdrawAll, quiet_disown, quiet_dropUpds, quiet_noteUnnamed]
  have hc : (holdWarm (warmCore w)).pending = x.pending := show w.pending = x.pending from pending_of_kept (kept_of_quiet hq)
  rw [← hc]
  refine pending_of_kept (kept_of_quiet ?_)
  rw [quiet_alarmOver]
  apply e
  rw [quiet_rehomeIdle, quiet_foldl _ (fun s c => quiet_warmChan s c), quiet_foldl _ (fun s c => quiet_warmRing s c),
    quiet_foldl _ (fun s f => quiet_modFn s f _), quiet_foldl _ (fun s u => quiet_modUnit s u _)]
  all_goals rfl

end Sys2Proof.Machine
end

