-- ==== Sys2Proof/Laws/Settle.lean ====
section
/-!
SUPPORT. What every command ends with: the collector's reaction and the reset in force, and the states in which both do nothing.
-/
set_option Elab.async false

namespace Sys2Proof.Machine

open Sys2Proof Sys2Proof.Safety

/-- The collector has nothing to react to. -/
theorem collect_of_quiet (s : State) (h : s.raised = []) : collect s = s := by
  simp [collect, collectN, h]

theorem collectN_raised (n : Nat) (s : State) : (collectN n s).raised = [] := by
  induction n generalizing s with
  | zero => rfl
  | succ n ih =>
    simp only [collectN]
    split
    · next h => simpa using h
    · exact ih _

/-- The collector reacts to everything. -/
@[simp] theorem collect_raised (s : State) : (collect s).raised = [] := collectN_raised 8 s

theorem settle_poLow (s : State) (h : s.pins.poRstLow = true) : settle s = poImage s := by
  simp [settle, h]

/-- Everything that `settle` can do. -/
theorem settle_cases (s : State) :
    (s.pins.poRstLow = true ∧ settle s = poImage s) ∨
    (s.pins.poRstLow = false ∧ s.pins.blkRstLow = true ∧ s.safe = true ∧ settle s = holdSafe (holdWarm (drivePins s))) ∨
    (s.pins.poRstLow = false ∧ s.pins.blkRstLow = true ∧ s.safe = false ∧ settle s = holdWarm (drivePins s)) ∨
    (s.pins.poRstLow = false ∧ s.pins.blkRstLow = false ∧ s.safe = true ∧ settle s = holdSafe (drivePins s)) ∨
    (s.pins.poRstLow = false ∧ s.pins.blkRstLow = false ∧ s.safe = false ∧ settle s = drivePins s) := by
  cases h1 : s.pins.poRstLow <;> cases h2 : s.pins.blkRstLow <;> cases h3 : s.safe <;>
    simp [settle, h1, h2, h3, drivePins, holdWarm]

theorem awake_spec (s : State) :
    awake s = true ↔ s.pins.poRstLow = false ∧ s.pins.blkRstLow = false ∧ s.safe = false ∧ s.pins.fatal = false ∧
      s.pins.safeAck = false ∧ s.raised = [] := by
  simp [awake, and_assoc]

/-- The pins already show the safe state. -/
theorem drivePins_of_shown (s : State) (h1 : s.pins.fatal = s.safe) (h2 : s.pins.safeAck = s.safe) : drivePins s = s := by
  have h : ({ s.pins with fatal := s.safe, safeAck := s.safe } : Pins) = s.pins := by
    cases hp : s.pins
    simp_all
  show { s with pins := { s.pins with fatal := s.safe, safeAck := s.safe } } = s
  rw [h]

/-- An awake state ends a command as it is. -/
theorem settle_of_awake (s : State) (h : awake s = true) : settle s = s := by
  obtain ⟨h1, h2, h3, h4, h5, -⟩ := (awake_spec s).1 h
  have hd : drivePins s = s := drivePins_of_shown s (by rw [h4, h3]) (by rw [h5, h3])
  simp [settle, h1, hd, h2, h3]

theorem fin_of_awake (s : State) (h : awake s = true) : fin s = .next s := by
  obtain ⟨-, -, -, -, -, h6⟩ := (awake_spec s).1 h
  rw [fin, collect_of_quiet s h6, settle_of_awake s h]

/-- What a command that ends quietly answers. -/
theorem fin_of_quiet (s : State) (h : s.raised = []) : fin s = .next (settle s) := by
  rw [fin, collect_of_quiet s h]

end Sys2Proof.Machine
end

