-- ==== Sys2Proof/WellFormed.lean ====
section
/-!
DEFINITION. Well-formed commands: operands that the block's ports and tables can carry (R6, R13, R31, R200, R219, R371, R373,
R379, R388, R391, R395). An ill-formed command names nothing that exists; executing one still answers (its meaning is total).
-/
namespace Sys2Proof

/-- Numbers of functions, rings, channels, timers, groups, units, ports, sources, generators and key slots. -/
def okFn (f : Nat) : Bool := decide (f ≤ 1024)
def okRing (n : Nat) : Bool := decide (n < 4096)
def okChan (c : Nat) : Bool := decide (c < 256)
def okTimer (t : Nat) : Bool := decide (t < 16)
def okGroup (g : Nat) : Bool := decide (g < 8)
def okRegion (m : Nat) : Bool := decide (m < 4)
def okUnit (u : Nat) : Bool := decide (u < 0xBC)
def okPort (p : Nat) : Bool := decide (p < 16)
def okTag (t : Nat) : Bool := decide (t < 256)
def okSlot (i : Nat) : Bool := decide (0 < i ∧ i < 2 ^ 24)

/-- A principal that exists (R272). -/
def Principal.wf : Principal → Bool
  | .ve f => decide (1 ≤ f) && okFn f
  | _ => true

/-- A request message whose header fields fit their widths and whose value bytes are those received (R281). -/
def AapMsg.wf (m : AapMsg) : Bool :=
  m.prin.wf && decide (m.ver < 256 ∧ m.op < 256 ∧ m.flags < 256 ∧ m.status < 256 ∧ m.seq < 65536 ∧ m.index < 65536 ∧ m.sub < 256 ∧
    m.rsvd < 256 ∧ m.len < 65536 ∧ m.off < 2 ^ 32 ∧ m.rcvd = 16 + m.value.length)

/-- An MCTP control request from an endpoint (R288). -/
def CtrlMsg.wf (m : CtrlMsg) : Bool := decide (m.eid < 256 ∧ m.tag < 8)

def TestTarget.wf : TestTarget → Bool
  | .unit u => okUnit u
  | _ => true

def SkewTarget.wf : SkewTarget → Bool
  | .fn f => okFn f
  | .ring n => okRing n
  | .unit u => okUnit u

def Container.wf : Container → Bool
  | .cipher g | .hash g | .pka g => okGroup g
  | .portRead m | .portWrite m => okRegion m

def DrainTarget.wf : DrainTarget → Bool
  | .ringEcho n => okRing n
  | .unit u => okUnit u

/-- A register of an alarm lies in a lane or a key-cache bank (R108). -/
def AlarmSource.wf (c : AlarmClass) : AlarmSource → Bool
  | .sensor => decide (c ≠ .parity ∧ c ≠ .supply)
  | .supply _ mv => decide (c = .supply ∧ mv < 65536)
  | .input => decide (c ≠ .parity)
  | .register u => decide (c = .parity) && (decide (0x40 ≤ u ∧ u < 0x60) || decide (0x80 ≤ u ∧ u < 0x90))

/-- A peer header whose fields fit (R391). -/
def PeerHdr.wf (h : PeerHdr) : Bool :=
  decide (h.token < 2 ^ 64 ∧ h.len < 2 ^ 32 ∧ h.origLen < 2 ^ 32 ∧ h.alg < 256 ∧ h.status < 256)

/-- A request number that the block can have given. -/
def okReq (r : Nat) : Bool := decide (0 < r)

def Instr.wf : Instr → Bool
  | .alarmTrip c a => a.wf c
  | .fenceResolved u | .vigilPeriod u | .vigilCheck u _ | .clockGate u => okUnit u
  | .selfTestEnd t _ => t.wf
  | .stateSkew t => t.wf
  | .calendarGrant c => c.wf
  | .coalTime n | .descriptorFetch n | .ringDrainBound n => okRing n
  | .ringDoorbell f o _ | .channelDoorbell f o _ | .stop f o _ => okFn f && decide (o.toNat % 4 = 0)
  | .chainWaitEnd g | .echoStagingWaitEnd g => okGroup g
  | .cacheWayRelease b s => decide (b < 16 ∧ s < 256)
  | .readBeat p t _ _ d => okPort p && okTag t && decide (d.length = 128)
  | .writeResponse p t _ | .portTimeout p t | .vaultTimeout p t => okPort p && okTag t
  | .nop r | .nopSignal r | .encrypt r | .decrypt r | .aeadEncrypt r | .aeadDecrypt r | .gmacGenerate r | .gmacVerify r
  | .hash r | .macGenerate r | .macVerify r | .decryptVerify r | .reencryptVerify r | .digestVerify r | .srcPeer r | .dstPeer r
  | .contextInfo r | .contextClose r | .sign r | .verify r | .rsaEncrypt r | .rsaDecrypt r | .keyAgree r | .kemEncapsulate r
  | .kemDecapsulate r | .keyGenerate r | .rsaKeygenTimeout r | .publicKey r | .pkaOperationEnd r | .generateSym r | .derive r
  | .importWrapped r | .importKem r | .exportWrapped r | .exportKem r | .replace r | .keyCommit r | .cancel r | .erase r
  | .eraseUrgent r | .keyInfo r | .random r | .veAttest r | .certInstall r | .lookupRetry r | .lookupTimeout r
  | .peerTimeout r => okReq r
  | .eraseDrain i => okSlot i
  | .caps h | .jobEnd h => h.wf
  | .data h b => h.wf && decide (b.length = h.len)
  | .channelRunStart c | .copy c | .fill c | .compare c | .gather c | .scatter c | .channelDisableBound c => okChan c
  | .timerFiring t => okTimer t
  | .functionLevelReset f | .veResetAbandon f | .enableIndication f _ | .freezeBound f _ | .actionCompletion f
  | .migOpenTimeout f => okFn f
  | .mbReq f _ b => okFn f && decide (b.length ≤ 2048)
  | .setEndpointId m | .getEndpointId m | .getMctpVersionSupport m | .getMessageTypeSupport m
  | .getVendorDefinedMessageSupport m => m.wf
  | .unsupportedControlCommand m c => m.wf && decide (c < 256 ∧ ¬ (1 ≤ c ∧ c ≤ 6 ∧ c ≠ 3))
  | .versions m | .read m | .write m | .commit m | .discard m | .readPending m | .describe m | .next m | .fnIntervalReq m
  | .fnIntervalUnits m | .sticky m | .ringErrors m | .chanErrors m | .safeCommand m | .rngReset m | .vaultClear m
  | .timerArm m | .lcChallenge m | .debugChallenge m | .randomEntryRead m | .ringEnable m | .ringDisable m | .chanEnable m
  | .chanDisable m | .timerCommit m | .vaultCommit m | .unitOutOfService m | .unitInService m | .veCreate m | .veDestroy m
  | .veFreeze m | .veThaw m | .veResetAction m | .openAction m | .save m | .restore m | .release m | .migrationCommit m
  | .abandon m | .receipt m | .renewContextKey m | .lifecycleTransition m | .debugToken m | .attestNonce m => m.wf
  | .snapshotExpiry p => p.wf
  | .drainBound t => t.wf
  | .healthTestFailure n _ | .startUpTest n _ => decide (n < 8)
  | .reseedDue g | .reseedGrace g => decide (g < 34)
  | .nvCommandEnd w _ => decide (w.length ≤ 256)
  | .undefinedPeerMessage t => decide (t < 2 ^ 64)
  | .poRstNAssert | .poRstNRelease _ | .blkRstNAssert | .blkRstNRelease | .quiescence | .clockSurvey _ _ _
  | .handshakeTimeout _ | .vaultBringup | .identityKeysDerived | .safeReq _ | .coreSupplyLost | .alarmHoldEnd
  | .faultSourceSet _ | .lanternToggle | .jubileePersist | .powerEstimate | .calendarEpoch | .interruptStall
  | .lookupAnswer _ _ _ | .mctpPacket _ | .pendingTimeout _ | .transitionWorkAbandon | .nvWriteRetry | .nvTimeout
  | .oscillatorSettle _ | .adventComplete | .conditionerBlockRelease | .privateWireDelivery | .drbgReseed | .tapReset
  | .extest | .samplePreload | .idcode | .clamp | .highz | .almanac _ | .debugRead _ | .wrapper _ | .bypass _
  | .alarmInactive | .supplyCalibration _ _ | .fuseRead _ _ => true

end Sys2Proof
end

