-- ==== Sys2Proof/Tests/Slice0.lean ====
section
/-!
SUPPORT. The model's own tests: the checks of WellFormed, single commands on small states, and states that meet the hypotheses of the
statements together.
-/
set_option Elab.async false

namespace Sys2Proof.Tests

open Sys2Proof Sys2Proof.Machine Sys2Proof.Safety

/-! ### WellFormed -/

def someMsg : AapMsg :=
  { prin := .mgr, ver := 2, op := 1, flags := 0, status := 0, seq := 7, index := 0x1000, sub := 1, rsvd := 0, len := 4, off := 0
    value := [], rcvd := 16 }
def someHdr : PeerHdr := { token := 5, len := 2, origLen := 0, raw := false, alg := 0, status := 0, stray := false }

theorem test_wf_accepts :
    [.alarmTrip .light .sensor, .alarmTrip .parity (.register 0x8F), .fenceResolved 0xBB, .selfTestEnd (.unit 0) true, .stateSkew (.fn 1024),
      .calendarGrant (.portRead 3), .coalTime 4095, .ringDoorbell 1 8 1, .chainWaitEnd 7, .cacheWayRelease 15 255,
      .readBeat 15 255 0 true (zeros 128), .writeResponse 0 0 0, .nop 1, .eraseDrain 1, .caps someHdr, .data someHdr [1, 2],
      .copy 255, .timerFiring 15, .freezeBound 1024 true, .mbReq 1 0 [], .getEndpointId { eid := 8, tag := 7, data := [] },
      .unsupportedControlCommand { eid := 8, tag := 0, data := [] } 3, .read someMsg, .snapshotExpiry (.ve 1), .drainBound (.unit 3),
      .startUpTest 7 true, .reseedDue 33, .nvCommandEnd [] false, .undefinedPeerMessage 0, (Instr.idcode)].all Instr.wf = true := by
  decide +kernel

theorem test_wf_refuses_numbers :
    [.alarmTrip .parity .sensor, .alarmTrip .parity .input, .alarmTrip .light (.register 0x80), .alarmTrip .parity (.register 0x60),
      .fenceResolved 0xBC, .selfTestEnd (.unit 0xBC) true, .stateSkew (.fn 1025), .stateSkew (.ring 4096), .stateSkew (.unit 0xBC),
      .calendarGrant (.cipher 8), .calendarGrant (.portWrite 4), .coalTime 4096, .ringDoorbell 1025 8 1, .ringDoorbell 1 2 1,
      .chainWaitEnd 8, .cacheWayRelease 16 0, .cacheWayRelease 0 256, .nop 0, .eraseDrain 0, .eraseDrain (2 ^ 24), .copy 256, .timerFiring 16,
      .freezeBound 1025 true, .drainBound (.ringEcho 4096), .drainBound (.unit 0xBC), .startUpTest 8 true,
      (Instr.reseedDue 34)].any Instr.wf = false := by
  decide +kernel

theorem test_wf_refuses_data :
    [.readBeat 16 0 0 true (zeros 128), .readBeat 0 256 0 true (zeros 128), .readBeat 0 0 0 true [], .writeResponse 16 0 0,
      .writeResponse 0 256 0, .caps { someHdr with alg := 256 }, .caps { someHdr with token := 2 ^ 64 }, .jobEnd { someHdr with status := 256 },
      .data someHdr [1], .mbReq 1025 0 [], .mbReq 0 0 (zeros 2049), .getEndpointId { eid := 256, tag := 0, data := [] },
      .getEndpointId { eid := 0, tag := 8, data := [] }, .unsupportedControlCommand { eid := 8, tag := 0, data := [] } 5,
      .unsupportedControlCommand { eid := 8, tag := 0, data := [] } 256, .nvCommandEnd (zeros 257) false,
      (Instr.undefinedPeerMessage (2 ^ 64))].any Instr.wf = false := by
  decide +kernel

theorem test_wf_refuses_messages :
    [.read { someMsg with prin := .ve 0 }, .read { someMsg with prin := .ve 1025 }, .read { someMsg with ver := 256 },
      .read { someMsg with op := 256 }, .read { someMsg with flags := 256 }, .read { someMsg with status := 256 },
      .read { someMsg with seq := 65536 }, .read { someMsg with index := 65536 }, .read { someMsg with sub := 256 },
      .read { someMsg with rsvd := 256 }, .read { someMsg with len := 65536 }, .read { someMsg with off := 2 ^ 32 },
      .read { someMsg with rcvd := 17 }, .snapshotExpiry (.ve 0), (Instr.snapshotExpiry (.ve 1025))].any Instr.wf = false := by
  decide +kernel

/-! ### Single commands -/

/-- What a command leaves, where it answers a next state. -/
def after (c : Instr) (s : State) : State := match exec c s with | .next t => t | _ => s

/-- The block at work: both resets released, bring-up past step 4. -/
def work : State :=
  { State.reset with pins := { poRstLow := false }, bring := { begun := true, almanacUp := true, fixed := false } }

/-- A function 1 in service, with ring 16, channel 3 and timer 2. -/
def served1 : State :=
  { setFn work 1 { state := .running, hostEnable := true, before := .running } with
    rings := [(16, { owner := some 1, local_ := 2, region := 1, home := some 2, state := .running, version := 3 })]
    chans := [(3, { owner := some 1, local_ := 4, state := .idle })]
    cfg := [(256 * 0x4001 + 1, 1), (256 * 0x5010 + 4, 5), (256 * 0x5010 + 9, 1), (256 * 0xA003 + 5, 1), (256 * 0xA102 + 1, 2), (256 * 0xA102 + 2, 1000)]
    timers := [(2, { armed := true, next := 1000 })] }

/-- R36: a doorbell makes descriptors eligible. -/
theorem test_doorbell : (getRing (after (.ringDoorbell 1 16 9) served1) 16).eligible = 9 := by decide +kernel
/-- R36: more than the ring's 32 is an overrun. -/
theorem test_doorbell_overrun : (getRing (after (.ringDoorbell 1 16 33) served1) 16).errors = 1 := by decide +kernel
/-- R36, R379: the doorbell reads back its previous value, and the reserved word beside it zero. -/
theorem test_window_words : let s := after (.ringDoorbell 1 16 9) served1
    (windowWord s 1 16, windowWord s 1 20, windowWord s 1 0x1004, windowWord s 2 16) = (9, 0, 0, 0) := by decide +kernel
/-- R398: IDCODE reads 21600C5Bh. -/
theorem test_idcode : (after .idcode work).tap.dr = 0x21600C5B := by decide +kernel
/-- R334: LANTERN toggles. -/
theorem test_lantern : (after .lanternToggle work).pins.lantern = true := by decide +kernel
/-- R328, R329: SAFE_REQ. -/
theorem test_safe_req : let t := after (.safeReq true) served1
    (t.safe, t.pins.fatal, t.sticky.getLsbD 514) = (true, true, true) := by decide +kernel
/-- R300: a block reset ends the safe state. -/
theorem test_safe_ends : (after .blkRstNAssert (after (.safeReq true) served1)).safe = false := by decide +kernel
/-- R282: READ of AL 1000.01 answers four bytes. -/
theorem test_read : ((after (.read someMsg) work).mgmt.last.map fun r => (r.status, r.value.length)) = some (.ok, 4) := by decide +kernel
/-- R283: no such entry. -/
theorem test_read_no_entry : ((after (.read { someMsg with index := 0x0FFF }) work).mgmt.last.map Resp.status) = some .noEntry := by
  decide +kernel
/-- R282: VERSIONS answers 3, whatever the header holds. -/
theorem test_versions : ((after (.versions { someMsg with op := 0, ver := 9 }) work).mgmt.last.map Resp.value) = some [3] := by decide +kernel
/-- R219: a periodic timer fires and is set again. -/
theorem test_timer : (getTimer (after (.timerFiring 2) served1) 2).next = 2000 := by decide +kernel
/-- R107: a masked input trips nothing. -/
theorem test_masked : (after (.alarmTrip .light .input) { work with cfg := [(256 * 0x6010 + 7, 0)] }).alarms.eraseCount = 0 := by decide +kernel
/-- R109: a sensor erases and blocks. -/
theorem test_trip : let t := after (.alarmTrip .light .sensor) work
    (t.alarms.eraseCount, t.alarms.blocked, t.sticky.getLsbD 490) = (1, true, true) := by decide +kernel
/-- R185, R186: the oldest held block enters the reserve, which keeps 2,048 bytes. -/
theorem test_reserve : (after .conditionerBlockRelease
    { work with rng := { state := .running, feeding := 1, reserve := zeros 2040, held := [List.replicate 32 7, zeros 32] } }).rng.reserve =
      zeros 2040 ++ List.replicate 8 7 := by decide +kernel
/-- R288: the endpoint takes the address that it is given. -/
theorem test_set_eid : (after (.setEndpointId { eid := 9, tag := 1, data := [0x81, 0, 0x22] }) work).mgmt.eid = 0x22 := by decide +kernel
/-- No row of the table gives bits. -/
theorem test_decode_none : decodeTableWord 16 0 = none := by decide

/-! ### States that meet the hypotheses of the statements

What only the opaque values of Config decide (whether a signature, a wrapped key or a public input is good) has no witness by evaluation:
each such test is true or false, and the statement's clause for that value applies. -/

/-- A state that answers: any command that keeps no reset in force. -/
theorem answers (c : Instr) (s : State) (f : State → State) (h : exec c s = fin (f s)) : ∃ t, exec c s = .next t := ⟨_, h⟩

def queued : State := { work with pending := [.idcode] }

theorem witness_StepTakesTheFrontCommand : queued.pending = .idcode :: [] := rfl

/-- The block at work, ready in full: a unit of each kind that READY asks for, with its tests over. -/
def allReady (s : State) : State :=
  { s with
    units := [unitAt .seq 0, unitAt .lane 0, unitAt .hash 0, unitAt .pka 0, unitAt .port 0].map fun u => (u, { tested := true })
    gens := [(0, { seeded := true }), (32, { seeded := true })], rng := { s.rng with state := .running }
    vault := { s.vault with ready := true, fresh := false }, peer := { present := true, caps := 1 }, lookup := { present := true }
    cfg := [(256 * 0x7000 + 1, 4096)], bring := { s.bring with bootRead := true, lcRead := true, nvDone := true } }

/-- The clauses of the idle step: no unit drains, and then each thing that may come due; a drain that ends; a transition. -/
theorem witness_IdleStepLetsACyclePass :
    (State.reset.pending = [] ∧ State.reset.pins.poRstLow = true ∧ State.reset = poImage State.reset) ∧
    (work.pending = [] ∧ atWork work = true ∧ canon work = true ∧ (∀ u, (getUnit work u).draining = true → unitQuiet work u = false) ∧
      work.life.draining = false ∧ work.life.busy = false ∧ work.bring.vaultDone = false ∧ readyMask work none ≠ 255 ∧ work.bring.fixed = false) ∧
    (let s : State := { work with bring := { work.bring with vaultDone := true }, vault := { fresh := false } }
     atWork s = true ∧ s.bring.vaultDone = true ∧ s.vault.ready = false ∧ s.vault.fresh = false ∧ s.vault.updates = [] ∧ s.fns = [] ∧
       s.rng.wires = []) ∧
    (let s := allReady work
     atWork s = true ∧ canon s = true ∧ s.bring.bringupNs = 0 ∧ readyMask s none = 255 ∧ s.vault.ready = true ∧ s.bring.fixed = false) ∧
    (let s : State := { work with bring := { work.bring with bootRead := true, lcRead := true, nvDone := true, fixed := true }
                                  units := (List.range unitCount).map fun u => (u, { tested := true }) }
     atWork s = true ∧ canon s = true ∧ s.bring.fixed = true ∧ (readyWord s).testBit 8 = true ∧ (readyWord s).testBit 9 = true ∧
       (∀ u ∈ allUnits, testsOver s u = true) ∧ readyMask s none ≠ 255) ∧
    (let s : State := { work with units := [(0xBB, { draining := true })] }
     canon s = true ∧ (getUnit s 0xBB).draining = true ∧ unitQuiet s 0xBB = true ∧
       ∀ v, v ≠ 0xBB → (getUnit s v).draining = true → unitQuiet s v = false) ∧
    (let s : State := { work with life := { draining := true, phase := .verified } }
     atWork s = true ∧ canon s = true ∧ lcDrained s = true ∧ lcQuiet s = true) ∧
    (let s : State := { work with life := { busy := true, phase := .done } }
     atWork s = true ∧ canon s = true ∧ s.life.draining = false ∧ s.life.busy = true ∧ s.life.phase = .done ∧ s.mgmt.waiting = none ∧
       s.mgmt.mo.tail = [] ∧ s.vault.updates = []) := by
  refine ⟨by decide +kernel, ⟨rfl, by decide, by decide +kernel, ?_, rfl, rfl, rfl, by decide +kernel, rfl⟩, by decide +kernel,
    by decide +kernel, by decide +kernel, ⟨by decide +kernel, by decide +kernel, by decide +kernel, ?_⟩, by decide +kernel, by decide +kernel⟩
  · intro u h; cases h
  · intro v hv h
    simp [getUnit, tget, hv.symm] at h
theorem witness_EveryStepKeepsTheInvariant : Inv queued ∧ ∃ t, step queued = .next t :=
  ⟨⟨fun h => absurd h (by decide), ⟨rfl, rfl⟩, fun _ h => absurd h (by decide), fun h => absurd h (by decide), rfl⟩, _, rfl⟩
theorem witness_EveryCommandAnswers : work.pins.poRstLow = false ∧ State.reset.pins.poRstLow = true := by decide
theorem witness_PowerOnResetTakesHold : State.reset.raised = [] := rfl

/-- Held in power-on reset, with BLK_RST_N and SAFE_REQ low or high. -/
def inReset (blk req : Bool) : State := { State.reset with pins := { State.reset.pins with blkRstLow := blk, safeReq := req } }
/-- Held in a warm reset, quiescent or not, and released while not quiescent. -/
def inWarm (low quiet : Bool) : State := { State.reset with pins := { poRstLow := false, blkRstLow := low, quiescent := quiet } }

theorem witness_ReleasesBeginBringup :
    (∀ b r, (inReset b r).pins.poRstLow = true ∧ inReset b r = poImage (inReset b r) ∧ (inReset b r).alarms.asserted = []) ∧
    (∀ b q, (inWarm b q).pins.poRstLow = false ∧ (inWarm b q).safe = false ∧ (inWarm b q).pins.fatal = false ∧
      (inWarm b q).pins.safeAck = false ∧ (inWarm b q).raised = [] ∧ (inWarm b q).bring.begun = false ∧ (inWarm b q).pins.safeReq = false ∧
      (inWarm b q).pins.blkRstLow = b ∧ (inWarm b q).pins.quiescent = q ∧ (inWarm b q).vault.updates = []) := by decide +kernel
theorem witness_WarmResetTakesHold : canon served1 = true ∧ served1.pins.poRstLow = false ∧ served1.pins.blkRstLow = false := by decide +kernel

def surveyed (k w : Nat) : State :=
  { work with bring := { work.bring with lcRead := true, bootRead := true, unitIdDone := true, fuseCount := w, fixed := false }
              units := if k = 1 then [(unitAt .pka 0, { tested := true })] else [] }

def unnamed : State := { surveyed 1 14 with bring := { (surveyed 1 14).bring with unitIdDone := false } }

/-- Steps 2 and 3 are over, and a sequencer has passed its test. -/
def fourth : State :=
  { work with bring := { begun := true, fuseCount := 16, clockDone := true }, units := [(unitAt .seq 0, { tested := true })] }

theorem witness_BringupStepsRecordWhatTheyMeasure :
    atWork (surveyed 1 14) = true ∧ (surveyed 1 14).bring.clockDone = false ∧ (surveyed 1 14).bring.fuseCount = (14 : BitVec 4).toNat ∧
    (surveyed 1 14).pins.refSel ≠ 3 ∧ (surveyed 1 14).bring.supplyDone = false ∧ (surveyed 1 14).bring.lcRead = true ∧
    (surveyed 1 14).bring.bootRead = true ∧ (surveyed 1 14).bring.unitIdDone = true ∧ readyBit (surveyed 1 14) none 3 = true ∧
    (surveyed 1 14).bring.almanacUp = true ∧ atWork unnamed = true ∧ unnamed.bring.almanacUp = true ∧ unnamed.bring.unitIdDone = false ∧
    (surveyed 1 16).bring.fuseCount = 16 ∧ clocksOk (surveyed 1 16) 1600000 250000 400000 = true ∧ (surveyed 1 15).bring.fuseCount = 15 ∧
    fourDue (surveyed 1 16) = false ∧ atWork fourth = true ∧ fourDue fourth = true ∧ fourth.nv.jobs = [] := by
  decide +kernel

def vaultAt (base held : Nat) (fresh : Bool) : State :=
  { work with bring := { work.bring with bootRead := true, lcRead := true }
              rng := { state := .running, reserve := zeros held, wires := [.drbg] }
              cfg := if base = 0 then [] else [(256 * 0x7000 + 1, base)], vault := { fresh := fresh } }
/-- Function 0 has its context key, and function 1 is absent. -/
def tidy : State := { work with fns := [(0, { state := .running, ctxKey := zeros 32 }), (1, {})] }

theorem witness_VaultBringupDrawsAnIncarnation :
    ([(4096, 8, true), (4096, 7, true), (4096, 0, false), (0, 0, true)].all fun e =>
      let x := vaultAt e.1 e.2.1 e.2.2
      atWork x && vaultDue x && decide (vaultBase x = e.1 ∧ x.vault.fresh = e.2.2 ∧ x.rng.state = .running ∧ x.rng.reserve.length = e.2.1)) = true ∧
    (∀ w ∈ (vaultAt 4096 8 true).rng.wires, 3 < wireClass w) ∧ vaultDue work = false ∧
    tidy.vault.slots = [] ∧ tidy.vault.writeBack = [] ∧
    (∀ e ∈ tidy.fns, e.2.state = .running ∨ e.2.state = .quiesced ∨ (e.2.state = .absent ∧ fnCfg tidy e.1 1 ≠ 1)) ∧
    (∀ f ∈ presentFns tidy, (getFn tidy f).ctxKey ≠ []) := by decide +kernel

theorem witness_EntriesToTheSafeState :
    atWork work = true ∧ severity work 514 = 3 ∧ severity work 513 = 3 ∧ severity work 512 = 3 ∧ severity work 508 = 3 ∧
    work.bring.fuseCount ≠ 16 ∧ work.bring.clockDone = false ∧ work.bring.fuseCount = (0 : BitVec 4).toNat ∧
    (surveyed 1 16).bring.clockDone = false ∧ clocksOk (surveyed 1 16) 1600001 250000 400000 = false ∧
    (let y : State := { work with raised := [490] }
     y.pins.poRstLow = false ∧ (490 : Nat) < 521 ∧ 490 ∈ y.raised ∧ reactionOf y 490 = .safe) := by decide +kernel
theorem witness_SafeStateEndsOnlyByABlockReset :
    ({ work with safe := true } : State).safe = true ∧ work.pins.poRstLow = false ∧
    ∃ t, exec .idcode { work with safe := true } = .next t := ⟨rfl, rfl, _, rfl⟩
theorem witness_QueueAndTestPort : (∃ t, exec .lanternToggle work = .next t) ∧ work.pins.poRstLow = false := ⟨⟨_, rfl⟩, rfl⟩

def sevs (l : List (Nat × Nat)) : State := { work with cfg := l }

theorem witness_CollectorReactsBySeverity :
    (∀ n : Fin 3, atWork (sevs [(256 * 0x3101 + (494 - 256), n.val)]) = true) ∧
    reactionOf (sevs [(256 * 0x3101 + (500 - 256), 0)]) 500 = .log ∧ reactionOf (sevs [(256 * 0x3101 + (500 - 256), 1)]) 500 = .notify ∧
    reactionOf work 520 = .safe ∧ reactionOf work 494 ≠ .fence ∧ (521 : Nat) ≤ (1023 : BitVec 10).toNat := by decide +kernel

/-- One unit of each kind, and the sources of the test at their default, LOG, NOTIFY, FENCE and SAFE severities. -/
def oneOfEach : List Nat := [0x3F, 0x5F, 0x6F, 0x7F, 0x8F, 0x9F, 0xA7, 0xAF, 0xB7, 0xBB]
def sevAt (src v : Nat) : State := sevs [(256 * (0x3100 + src / 256) + src % 256, v)]

theorem witness_UnitSourcesReactBySeverity :
    (∀ u ∈ oneOfEach, ∀ k ∈ [0, 1], sourceUnit (unitSource u k) = some u ∧ u < unitCount ∧ canon work = true ∧ active work u = true ∧
      (getUnit work u).state ≠ .selfTest ∧ probeFenced work (unitSource u k) = none) ∧
    (∀ u ∈ oneOfEach, reactionOf work (mainSource u) = .fence ∧ leadsSafe work (mainSource u) = false) ∧
    (∀ v : Fin 3, reactionOf (sevAt (unitSource 0x8F 1) v.val) (unitSource 0x8F 1) = [React.log, .notify, .fence][v.val]) ∧
    canon (sevAt 351 3) = true ∧ reactionOf (sevAt 351 3) 351 = .safe ∧ touched (sevAt 351 3) 0x8F 1 = sevAt 351 3 ∧
    active { work with units := [(0x8F, { state := .retired })] } 0x8F = false ∧
    ({ work with rng := { state := .running } } : State).rng.state = .running := by decide +kernel

/-- A request of function 1 on ring 16. -/
def reqOf (opcode : Nat) (ph : Phase) : Req := { ring := 16, fn := 1, ver := 3, d := { opcode := opcode }, phase := ph }
def withReq (q : Req) : State := setReq served1 1 (some q)

/-- Request 1 holds lane 0 of group 2, beside the other lanes of its group. -/
def onLane8 : Req := { reqOf 0x101 .running with unit := some (unitAt .lane 8), group := 2 }

theorem witness_FencesIsolateTheirUnits :
    (∀ u ∈ oneOfEach, canon work = true ∧ u < unitCount ∧ active work u = true) ∧ work.reqs = [] ∧ work.txns = [] ∧ work.bursts = [] ∧
    canon (withReq onLane8) = true ∧ onLane8.phase ≠ .ended ∧ onLane8.wrote = false ∧ holdsPka onLane8 = false ∧ onLane8.op.isSym = true ∧
    1 ≤ ((activeCells (withReq onLane8) .lane 2).filter (· ≠ unitAt .lane 8)).length ∧
    (∀ b : Fin 16, active work (unitAt .kc b.val) = true ∧ reactionOf work (321 + 2 * b.val) = .fence) ∧
    (let s : State := { work with txns := [{ port := 15, tag := 0, wr := false, addr := 0, len := 128, fn := 1, pasid := 0, own := .req 1 0 0 }] }
     regionUp s 3 = true ∧ (activePorts s 3).isEmpty = false) ∧
    (getRing served1 16).home = some 2 ∧ active served1 (unitAt .grp 3) = true ∧ (getUnit served1 (unitAt .grp 3)).draining = false ∧
    (getRing served1 16).region = 1 ∧ leastBy (ringsInRegion served1) (undrained served1 .reg ((upRegions served1).filter (· ≠ 1))) = some 0 ∧
    chanMover work 255 = 7 ∧ movOpen work 6 = true := by decide +kernel

def unitIn (u : Nat) (r : UnitRec) : State := { work with units := [(u, r)] }

theorem witness_VigilRunsItsCourse :
    ([UnitState.fenced, .vigil].all fun st => atWork (unitIn 0xBB { state := st }) && canon (unitIn 0xBB { state := st }) &&
      decide (leaderOf (unitIn 0xBB { state := st }) 0xBB = 0xBB ∧ followers (unitIn 0xBB { state := st }) 0xBB = [] ∧ kindOf 0xBB ≠ .port ∧
        (getUnit (unitIn 0xBB { state := st }) 0xBB).state = st)) = true := by decide +kernel
theorem witness_SelfTestReadmitsAUnit :
    kindOf 0xBB ≠ .lane ∧ kindOf 0xBB ≠ .pka ∧ (getUnit work 0xBB).state = .active ∧ (getUnit work 0xBB).tested = false ∧
    mayEndTests work 0x40 = false ∧ mayEndTests { work with gens := [(0, { seeded := true })] } 0x40 = true ∧
    mayEndTests { work with bring := { work.bring with fixed := true } } 0x70 = false ∧ mayEndTests work 0x70 = true ∧
    followers (unitIn 0x40 { state := .selfTest }) 0x40 = [] ∧ leaderOf (unitIn 0x40 { state := .selfTest }) 0x40 = 0x40 ∧
    leaderOf (unitIn 0x40 { state := .selfTest, byCont := some 0xB0 }) 0x40 = 0xB0 ∧
    canon (unitIn 0xBB { state := .selfTest }) = true ∧ (getUnit (unitIn 0xBB { state := .selfTest }) 0xBB).state = .selfTest ∧
    leaderOf (unitIn 0xBB { state := .selfTest }) 0xBB = 0xBB ∧ (getUnit (unitIn 0xBB { state := .selfTest }) 0xBB).noJub = false := by
  decide +kernel

/-- A ring in error, a function that its host has disabled, and a retired unit; source 498 at its default or at LOG. -/
def skewed3 (k low : Bool) : State :=
  { setFn served1 1 { state := .quiesced, before := .running, skew := k } with
    rings := [(16, { owner := some 1, local_ := 2, region := 1, home := some 2, state := .error, version := 3, skew := k })]
    units := [(0x40, { state := .retired, skew := k })]
    cfg := (if low then [(256 * 0x3101 + (498 - 256), 0)] else []) ++ served1.cfg }
def skewRing (k low : Bool) : State := setFn (skewed3 k low) 1 { state := .running, hostEnable := true, before := .running }

theorem witness_DivergenceIsSetOnce :
    (∀ k low, atWork (skewed3 k low) = true ∧ fnDiverges (skewed3 k low) 1 = true ∧ (getFn (skewed3 k low) 1).skew = k ∧
      unitDiverges (skewed3 k low) 0x40 = true ∧ (getUnit (skewed3 k low) 0x40).skew = k ∧ atWork (skewRing k low) = true ∧
      ringDiverges (skewRing k low) 16 = true ∧ (getRing (skewRing k low) 16).skew = k) ∧
    reactionOf (skewed3 false true) 498 = .log ∧ reactionOf (skewed3 false false) 498 = .notify ∧
    fnDiverges work 1 = false ∧ ringDiverges work 16 = false ∧ unitDiverges work 0x40 = false ∧
    ({ work with safe := true } : State).safe = true := by decide +kernel

theorem witness_PeriodicWorkOfTheBlock :
    cellBusy work 0 = false ∧ 58000000 < powerUw { work with cal := { usBytes := 10 ^ 9, usReqs := 10 ^ 6 } } ∧ powerUw work ≤ 58000000 ∧
    work.nv.jobs = [] ∧ overBudget work 4 = false ∧
    (∃ j ∈ ({ work with nv := { jobs := [{ recId := 4, write := none, why := .jubilee, step := .program 0 }] } } : State).nv.jobs, j.why = .jubilee) ∧
    work.irq = [] ∧ ({ work with irq := [{ fn := 1, vec := 0 }] } : State).irq ≠ [] ∧ work.nv.jubDirty = false ∧
    (let s : State := { work with
       pins := { poRstLow := false, cycles := 360000000000 }, bring := { work.bring with nvDone := true }, nv := { jubDirty := true } }
     atWork s = true ∧ 14400000000000 ≤ (s.pins.cycles - s.nv.jubAt) * refPeriod s) ∧
    (work.pins.cycles - work.nv.jubAt) * refPeriod work < 14400000000000 := by decide +kernel

theorem stands (q : Req) : Stands (withReq q) 1 q q.op q.phase := ⟨getReq_setReq .., rfl, rfl⟩

/-- A state in which a lane, a hash lane or a PKA unit of group 2 may be granted to request 1. -/
def granting (opcode cont : Nat) : State :=
  { withReq { reqOf opcode .waitGrant with grants := 1, group := 2 } with
    units := [(unitAt .lane 8, { tested := true }), (unitAt .hash 4, { tested := true }), (unitAt .pka 4, { tested := true })]
    gens := [(8, { seeded := true })], cal := { started := true, cap := [(cont, 1000)] } }

def waiters (s : State) (k : Kind) (g : Nat) : List Nat :=
  ((reqsWith s (grantable s k g)).map fun x => ((getReq s x).map Req.fn).getD 0).eraseDups

/-- A read of function 1, or a probe of port 4, waits for bandwidth of region 1. -/
def sending (own : Own) (cap : Nat) : State :=
  { served1 with
    bursts := [{ region := 1, wr := false, addr := 0, len := 128, fn := 1, pasid := 0, own := own }]
    cal := { started := true, cap := [(25, cap)] } }

theorem witness_CalendarGrantsWaitingRequests :
    (∀ e ∈ [(0x101, Kind.lane, 2), (0x311, .hash, 10), (0x502, .pka, 18)], let s := granting e.1 e.2.2
      atWork s = true ∧ pickFn s e.2.2 (waiters s e.2.1 2) = some 1 ∧
      (reqsWith s (grantable s e.2.1 2)).find? (fun x => decide (((getReq s x).map Req.fn).getD 0 = 1)) = some 1 ∧
      (getReq s 1).map Req.unit = some none ∧ pickFn work e.2.2 (waiters work e.2.1 2) = none ∧ 2 ∉ s.cal.withheld) ∧
    2 ∈ ({ work with cal := { withheld := [2] } } : State).cal.withheld ∧
    (∀ own ∈ [Own.desc 16 0 1, .probe 4 true], let s := sending own 1000
      atWork s = true ∧ (s.bursts[0]?.map fun b => ((burstPort { s with bursts := s.bursts.eraseIdx 0 } b).isSome,
        bandwidth { s with bursts := s.bursts.eraseIdx 0 } b)) = some (true, true) ∧ freeTag { s with bursts := s.bursts.eraseIdx 0 } 4 = some 0) ∧
    (sending (.probe 4 true) 0).bursts.findIdx? (fun x => issuable (sending (.probe 4 true) 0) 25 x && x.isProbe) = some 0 ∧
    (let s := sending (.desc 16 0 1) 1000
     s.bursts.findIdx? (fun x => issuable s 25 x && x.isProbe) = none ∧
     pickFn s 25 ((s.bursts.filter (issuable s 25)).map Burst.acct).eraseDups = some 1 ∧
     s.bursts.findIdx? (fun x => issuable s 25 x && decide (x.acct = 1)) = some 0) ∧
    (let s := sending (.desc 16 0 1) 0
     pickFn s 25 ((s.bursts.filter (issuable s 25)).map Burst.acct).eraseDups = none) := by
  decide +kernel

def waiting : State :=
  { withReq { reqOf 0x101 .waitEcho with echo := true, chain := 7, d := { opcode := 0x101, srcLen := 32, dstCap := 32 } } with
    chains := [(7, some { ring := 16, group := 2, steps := [1], waitBuf := true })] }
/-- Request 1 waits for a way of the bank of its slot. -/
def wayless : State :=
  { withReq { reqOf 0x101 .resolve with chain := 7, d := { opcode := 0x101, key := 3 } } with
    units := [(unitAt .kc 4, { tested := true }), (unitAt .kc 5, { tested := true })]
    chains := [(7, some { ring := 16, group := 2, steps := [1] })] }

theorem witness_WaitsEndAsTheirRulesSay :
    atWork waiting = true ∧ bufWaiters waiting 2 = [7] ∧
    (∀ c, getChain waiting 7 = some c → chainPages waiting c true ≤ 256 - tget 0 waiting.chainUse 2) ∧
    waitersIn waiting 2 .waitEcho = [1] ∧
    ((getReq waiting 1).map fun q => decide (tget 0 waiting.echoUse 2 + stagingNeed q ≤ 262144)) = some true ∧
    (getRing served1 16).coal = 0 ∧ 0 < (getRing { served1 with rings := [(16, { coal := 3 })] } 16).coal ∧
    (reqsWith wayless fun p => match waitedSlot wayless p with
      | some i => decide (bankOf wayless i = some ((bankOf wayless 3).getD 0) ∧ setOf i = setOf 3) && hasWay wayless ((bankOf wayless 3).getD 0) i
      | none => false).find? (fun x => !(wayless.vault.fetches.any fun f => decide (f.req = x))) = some 1 := by
  refine ⟨by decide +kernel, by decide +kernel, ?_, ?_⟩
  · intro c h
    cases h
    decide +kernel
  · decide +kernel

theorem witness_RingDoorbellCountsDescriptors :
    targetOpen served1 1 = true ∧ (16 : BitVec 13).toNat < 0x800 ∧ (16 : BitVec 13).toNat % 8 = 0 ∧
    ringAt served1 1 ((16 : BitVec 13).toNat / 8) = some 16 ∧ (getRing served1 16).state ≠ .disabled ∧
    ((32 : U32) - (getRing served1 16).prev).toNat ≤ ringSize served1 16 ∧ ringSize served1 16 < ((33 : U32) - (getRing served1 16).prev).toNat ∧
    ringAt { served1 with rings := [(16, { owner := some 1, local_ := 2 })] } 1 2 = some 16 := by decide +kernel

def fetchable : State :=
  { served1 with
    rings := [(16, { owner := some 1, local_ := 2, region := 1, home := some 2, state := .running, version := 3, eligible := 20, fetchCnt := 31 })]
    units := [(unitAt .seq 16, { tested := true })] }

/-- The ring, of one state, enabled or not, has failed to write an entry or not. -/
def ringIs (st : RingState) (dead : Bool) : State :=
  { served1 with
    rings := [(16, { owner := some 1, local_ := 2, region := 1, home := some 2, state := st, version := 3, dead := dead })]
    cfg := [(256 * 0x5010 + 4, 5), (256 * 0x5010 + 9, 1), (256 * 0x4001 + 1, 1)] }

theorem witness_FetchesFlagsAndDeadRings :
    atWork fetchable = true ∧ mayFetch fetchable 16 = true ∧ 0 < descSize (getRing fetchable 16).version ∧
    getReq (withReq (reqOf 0x101 .running)) 1 = some (reqOf 0x101 .running) ∧ (getRing (ringIs .running true) 16).dead = true ∧
    (∀ st ∈ [RingState.running, .draining], canon (ringIs st false) = true ∧ ringCfg (ringIs st false) 16 9 ≠ 0 ∧
      (getRing (ringIs st false) 16).state = st) := by decide +kernel
theorem witness_CompletionEntryHasItsLayout :
    (65535 : Nat) < 2 ^ 16 ∧ (255 : Nat) < 256 ∧ (2 ^ 32 - 1 : Nat) < 2 ^ 32 ∧ (2 ^ 64 - 1 : Nat) < 2 ^ 64 ∧ (3 : Nat) ≠ 1 ∧
    ∃ q, getReq (withReq q) 1 = some q := ⟨by decide, by decide, by decide, by decide, by decide, reqOf 0x101 .running, getReq_setReq ..⟩
theorem witness_CompletionEntriesAreWrittenInTurn :
    (getRing served1 16).dead = false ∧ (getRing { served1 with rings := [(16, { dead := true })] } 16).dead = true ∧
    ringCfg served1 16 5 % 16 = 0 := by decide +kernel

def onPort (wr quar vault : Bool) : State :=
  { work with txns := [{ port := 15, tag := 255, wr := wr, addr := 0, len := 256, fn := 1, pasid := 0, quar := quar, vault := vault }] }
def lastBeat : State :=
  { work with txns := [{ port := 15, tag := 255, wr := false, addr := 0, len := 128, fn := 1, pasid := 0 }] }

/-- A read of two lines, or of one, that a beat has brought an error. -/
def erred (last : Bool) : State :=
  { work with txns := [{ port := 15, tag := 255, wr := false, addr := 0, len := if last then 128 else 256, fn := 1, pasid := 0, err := some .memDecode }] }

theorem witness_DataPortAnswersReachTheirTransaction :
    (∀ wr, atWork (onPort wr false false) = true ∧ (findTxn (onPort wr false false) 15 255).map Txn.quar = some false ∧
      (findTxn (onPort wr false false) 15 255).map Txn.wr = some wr) ∧
    ((findTxn (onPort false false false) 15 255).map fun x => decide (x.beats + 1 ≠ linesOf x.addr x.len)) = some true ∧
    ((findTxn lastBeat 15 255).map fun x => decide (x.beats + 1 = linesOf x.addr x.len ∧ x.err = none)) = some true ∧
    (∀ last, atWork (erred last) = true ∧ ((findTxn (erred last) 15 255).map fun x =>
      decide (x.quar = false ∧ x.wr = false ∧ x.err = some .memDecode ∧ (x.beats + 1 = linesOf x.addr x.len ↔ last = true))) = some true) := by
  decide +kernel
theorem witness_TimeoutsStrayAndLateAnswers :
    (∀ v, (findTxn (onPort true false v) 15 255).map Txn.vault = some v) ∧ findTxn work 15 255 = none ∧
    ((findTxn (onPort true true false) 15 255).map fun x => x.quar && x.wr) = some true := by decide +kernel

/-- A hash context with an empty record: what CONTEXT_INFO and CONTEXT_CLOSE read. -/
def hashCtx (q : Req) : Bytes := ctxHead served1 q 0 0x11 ++ zeros 240
def ctxReq : Req := { reqOf 0x801 .ready with ctxIn := hashCtx (reqOf 0x801 .ready), d := { opcode := 0x801, dstCap := 32 } }

theorem witness_NopsAndContextRows :
    (Stands (withReq (reqOf 0 .ready)) 1 (reqOf 0 .ready) .nop .ready) ∧ (Stands (withReq (reqOf 1 .ready)) 1 (reqOf 1 .ready) .nopSignal .ready) ∧
    (∃ q, Stands (withReq q) 1 q .ctxInfo .ready ∧ (∃ st, readCtx (withReq q) q = .ok st) ∧ 32 ≤ q.d.dstCap) ∧
    (∃ q, Stands (withReq q) 1 q .ctxInfo .ready ∧ q.d.dstCap < 32) ∧
    ∃ q, Stands (withReq q) 1 q .ctxClose .ready ∧ q.slot = none := by
  refine ⟨stands _, stands _, ?_, ⟨reqOf 0x801 .ready, stands _, by decide⟩, ⟨reqOf 0x802 .ready, stands _, rfl⟩⟩
  have h : (readCtx (withReq ctxReq) ctxReq).toOption.isSome = true := by decide +kernel
  refine ⟨ctxReq, ⟨getReq_setReq .., by decide, rfl⟩, ?_, by decide⟩
  cases e : readCtx (withReq ctxReq) ctxReq with
  | ok st => exact ⟨st, rfl⟩
  | error x => rw [e] at h; cases h

def symReq (opcode : Nat) : Req := reqOf opcode .loaded

theorem one_segment (opcode : Nat) (o : Op) (h : opOf 1 opcode = some o) : segment (withReq (symReq opcode)) 1 (symReq opcode) o :=
  ⟨⟨getReq_setReq .., by simp [symReq, reqOf, Req.op, h], rfl⟩, by simp [symReq, reqOf, Desc.flag],
    by simp [symReq, reqOf, Desc.flag], by simp [symReq, reqOf]⟩

/-- A segment that saves its context, wrapped or not, of a request with a context to write. -/
def saving (opcode flags : Nat) : Req :=
  { symReq opcode with d := { opcode := opcode, flags := flags, dstCap := 64 }, status := .ok, ctxOut := [1] }
/-- An echoed request on two lanes of group 2, whose source for a disagreement is set SAFE or not. -/
def echoed (opcode : Nat) : Req := { symReq opcode with echo := true, unit := some (unitAt .lane 8), unit2 := some (unitAt .lane 9), group := 2 }
def echoSafe : State := { withReq (echoed 0x101) with cfg := [(256 * (0x3100 + unitSource (unitAt .lane 8) 2 / 256) + unitSource (unitAt .lane 8) 2 % 256, 3)] }

theorem one_echoed (opcode : Nat) (o : Op) (h : opOf 1 opcode = some o) :
    Stands (withReq (echoed opcode)) 1 (echoed opcode) o .loaded ∧ (echoed opcode).echo = true ∧ (echoed opcode).d.flag fSrcPeer = false ∧
      (echoed opcode).d.flag fDstPeer = false := by
  refine ⟨⟨getReq_setReq .., by simp [echoed, symReq, reqOf, Req.op, h], rfl⟩, rfl, ?_, ?_⟩ <;> simp [echoed, symReq, reqOf, Desc.flag]

theorem witness_CipherRequestsWriteTheirOutput :
    ([(0x101, Op.encrypt), (0x181, .decrypt), (0x205, .aeadEnc), (0x285, .aeadDec), (0x206, .gmacGen), (0x286, .gmacVer), (0x311, .hash),
      (0x308, .macGen), (0x388, .macVer), (0x401, .decVer), (0x485, .reencVer), (0x411, .digVer)].all fun e =>
      decide (opOf 1 e.1 = some e.2)) = true ∧
    (∀ e ∈ [(2 ^ fCtxOut, false), (2 ^ fCtxOut + 2 ^ fWrap, true)], let q := saving 0x311 e.1
      Stands (withReq q) 1 q .hash .loaded ∧ q.d.flag fSrcPeer = false ∧ q.d.flag fDstPeer = false ∧ q.d.flag fCtxOut = true ∧ q.echo = false ∧
      savesWrapped (withReq q) q q.opened = e.2 ∧ getReq (withReq q) 1 = some q ∧ q.status.ran = true ∧ q.ctxOut ≠ []) ∧
    safeComes (withReq (echoed 0x101)) = false ∧ feeds (withReq (echoed 0x101)) 1 = false ∧
    (∀ u ∈ (echoed 0x101).unit.toList ++ (echoed 0x101).unit2.toList, leadsSafe (withReq (echoed 0x101)) (unitSource u 2) = false) ∧
    (∃ u ∈ (echoed 0x101).unit.toList ++ (echoed 0x101).unit2.toList, leadsSafe echoSafe (unitSource u 2) = true) ∧
    safeComes echoSafe = false := by
  refine ⟨by decide, ?_, by decide +kernel⟩
  intro e h
  simp only [List.mem_cons, List.not_mem_nil, or_false] at h
  rcases h with rfl | rfl <;>
    exact ⟨⟨getReq_setReq .., by decide, rfl⟩, by decide, by decide, by decide, rfl, by decide +kernel, getReq_setReq .., by decide, by decide⟩

/-- A chain of two decryptions, whose first step feeds the second, and spills or not. -/
def feeding (spilled : Bool) : State :=
  let s := withReq { reqOf 0x285 .loaded with chain := 7, spilled := spilled }
  setReq { s with chains := [(7, some { ring := 16, group := 2, steps := [1, 2] })] } 2
    (some { reqOf 0x101 .checked with chain := 7, idx := 1, d := { opcode := 0x101, srcLen := 16 } })

/-- A mode without a tag length has an empty tag, which agrees; one of 16 bytes does not agree with an empty parameter block. -/
theorem witness_TagChecksPassOrFail :
    (∀ e ∈ [(0x285, Op.aeadDec), (0x286, .gmacVer), (0x388, .macVer)], opOf 1 e.1 = some e.2 ∧
      (runSeg (segOf (withReq (symReq e.1)) (symReq e.1))).tag =
        (prmTag (symReq e.1).prm).take (runSeg (segOf (withReq (symReq e.1)) (symReq e.1))).tag.length) ∧
    (∀ e ∈ [0x285, 0x286, 0x388], let q := { symReq e with d := { opcode := e, mode := 16 } }
      ¬ (runSeg (segOf (withReq q) q)).tag = (prmTag q.prm).take (runSeg (segOf (withReq q) q)).tag.length) := by
  constructor
  · simp only [List.mem_cons, List.not_mem_nil, or_false]
    rintro e (rfl | rfl | rfl) <;> exact ⟨rfl, rfl⟩
  · simp only [List.mem_cons, List.not_mem_nil, or_false]
    rintro e (rfl | rfl | rfl) h <;> exact absurd (congrArg List.length h) (by decide +kernel)
theorem witness_FeedingDecryption :
    (saving 0x285 (2 ^ fCtxOut)).d.flag fCtxOut = true ∧ (∀ b, feeds (feeding b) 1 = true ∧ (getReq (feeding b) 1).map Req.spilled = some b) ∧
    feeds (withReq (symReq 0x285)) 1 = false := by decide +kernel

/-- Data of one block and a reference that is shorter, or as long as what has none. -/
def verifying (opcode mode : Nat) (ref : Bytes) : Req := { symReq opcode with d := { opcode := opcode, mode := mode }, refB := ref }

/-- A comparison of two empty streams agrees; one of a stream with a reference of another length does not. An AEAD decryption with no tag to
check is good, and one with 16 bytes of a tag and no parameter block is not. -/
theorem witness_VerifyingRequestsCompareWithTheReference :
    ([(0x405, Op.decVer), (0x401, .decVer), (0x485, .reencVer), (0x411, .digVer)].all fun e => decide (opOf 1 e.1 = some e.2)) = true ∧
    isAead (modeOf 0x401) = false ∧ isAead (modeOf 0x405) = true ∧
    (∀ op ∈ [0x401, 0x405], let q := verifying op 0 []
      firstDiff 0 (runSeg (segOf (withReq q) q)).out q.refB = none ∧
      (runSeg (segOf (withReq q) q)).tag = (prmTag q.prm).take (runSeg (segOf (withReq q) q)).tag.length) ∧
    (∀ op ∈ [0x401, 0x405, 0x485], let q := verifying op 0 [0]
      firstDiff 0 ((runSeg (segOf (withReq q) q)).out) q.refB = some 0) ∧
    (let q := verifying 0x485 0 []
     firstDiff 0 ((runSeg (segOf (withReq q) q)).out ++ (if isAead (modeOf q.d.opcode) then (runSeg (segOf (withReq q) q)).tag else [])) q.refB = none) ∧
    (let q := verifying 0x411 0 []
     firstDiff 0 (runSeg (segOf (withReq q) q)).tag q.refB = some 0) ∧
    (let q := verifying 0x405 16 []
     ¬ (runSeg (segOf (withReq q) q)).tag = (prmTag q.prm).take (runSeg (segOf (withReq q) q)).tag.length) ∧
    (∀ op ∈ [0x405, 0x485, 0x411], let q := saving op (2 ^ fCtxOut)
      (q.op = .decVer ∨ q.op = .reencVer ∨ q.op = .digVer) ∧ q.d.flag fCtxOut = true) := by
  refine ⟨by decide, by decide, by decide, ?_, by decide +kernel, by decide +kernel, by decide +kernel, ?_, by decide +kernel⟩
  · intro op h
    simp only [List.mem_cons, List.not_mem_nil, or_false] at h
    rcases h with rfl | rfl <;> exact ⟨by decide +kernel, rfl⟩
  · exact fun h => absurd (congrArg List.length h) (by decide +kernel)

def keyed (inv res : Nat) : State :=
  { served1 with
    units := [(unitAt .kc 4, { tested := true }), (unitAt .kc 5, { tested := true })]
    vault := { slots := [(3, { state := .active, owner := 1, invRes := res })] }
    cache := [{ slot := 3, bank := (bankOf { served1 with units := [(unitAt .kc 4, { tested := true }), (unitAt .kc 5, { tested := true })] } 3).getD 0
                gen := 0, inv := inv, blk := 0, mark := none, mat := [] }] }
def keyedReq : Req := { reqOf 0x205 .ready with slot := some 3, d := { opcode := 0x205, flags := 2 ^ 3 } }

theorem witness_AcceptanceTakesTheNextInvocation :
    keyedReq.d.flag fDeviceIv = true ∧ keyedReq.d.flag fCtxOut = false ∧ blocksCounted keyedReq none = 0 ∧
    ([(0, 4096), (4096, 4096), (2 ^ 64, 4096)].all fun e => (keyEnt (keyed e.1 e.2) keyedReq).map CacheEnt.inv == some e.1) = true ∧
    (getSlot (keyed 0 4096) 3).invRes = 4096 ∧ (getSlot (keyed 0 4096) 3).state = .active ∧
    (∀ e ∈ [(0x101, Op.encrypt), (0x181, .decrypt), (0x205, .aeadEnc), (0x285, .aeadDec), (0x206, .gmacGen), (0x286, .gmacVer), (0x311, .hash),
      (0x308, .macGen), (0x388, .macVer), (0x405, .decVer), (0x485, .reencVer), (0x411, .digVer)],
      let q : Req := { reqOf e.1 .ready with d := { opcode := e.1, srcLen := 16, dstCap := 64 } }
      q.op = e.2 ∧ q.d.flag fSrcPeer = false ∧ q.d.flag fDstPeer = false ∧ q.d.flag fCtxIn = false ∧ q.taken = false ∧
      (e.2 ≠ .gmacGen → e.2 ≠ .gmacVer → symLimits q none = none) ∧ exhausted (withReq q) q none = none) ∧
    symLimits { reqOf 0x101 .ready with d := { opcode := 0x101, srcLen := 15, dstCap := 64 } } none = some (.lenAlign, 0) ∧
    rngStop (keyed 0 4096) = some .rngAdvent ∧
    (let q : Req := { keyedReq with d := { opcode := 0x205, flags := 2 ^ 3, dstCap := 64 } }
     symLimits q none = none ∧ exhausted (keyed (2 ^ 64) 0) q none = some true ∧ q.slot = some 3 ∧ q.d.flag fCtxOut = false) ∧
    (let s : State := setFn served1 1 { state := .running, ctxCtr := 2 ^ 64 }
     let q : Req := { reqOf 0x101 .ready with d := { opcode := 0x101, flags := 2 ^ fCtxOut, srcLen := 16, dstCap := 64 } }
     exhausted s q none = some false) := by decide +kernel

def srcReq (ph : Phase) : Req := { reqOf 0x205 ph with d := { opcode := 0x205, flags := 2 ^ 7, src := 5, srcLen := 18 } }
def dstReq (mode : Nat) : Req :=
  { reqOf 0x285 .loaded with
    d := { opcode := 0x285, flags := 2 ^ 8, dst := 6, srcLen := 18, mode := mode }
    srcB := le 2 1 ++ zeros 6 ++ le 4 2 ++ zeros 4 ++ [1, 2] }

/-- Slot 3 with a block-usage count: a limit of 10 blocks, and a reservation. -/
def counting (res : Nat) : State :=
  let s := keyed 0 4096
  { s with vault := { slots := [(3, { state := .active, owner := 1, invRes := 4096, blkLim := 10, blkRes := res })] } }
def countedReq (n : Nat) : Req := { reqOf 0x101 .ready with slot := some 3, gen := 0, d := { opcode := 0x101, srcLen := n, dstCap := 256 } }
/-- A digest that continues a context, good or not. -/
def goingOn (good : Bool) : Req :=
  let q : Req := { reqOf 0x311 .ready with d := { opcode := 0x311, flags := 2 ^ fCtxIn, dstCap := 64 } }
  { q with ctxIn := if good then ctxHead served1 q 0 0x11 ++ zeros 240 else [] }

/-- The clauses of the same statement on block counts, marks, wrapped contexts without a key, peers and continued contexts. -/
theorem witness_AcceptanceInItsOtherForms :
    (∀ e ∈ [(17 * 16, 16, true), (160, 16, false), (160, 8, false)], let q := countedReq e.1
      let s := counting e.2.1
      q.slot = some 3 ∧ (keyEnt s q).map CacheEnt.blk = some 0 ∧ q.d.flag fDeviceIv = false ∧ q.d.flag fCtxOut = false ∧ countsBlocks s q = true ∧
      0 < blocksCounted q none ∧ (getSlot s 3).blkRes = e.2.1 ∧ decide ((getSlot s 3).blkLim < 0 + blocksCounted q none) = e.2.2 ∧
      blocksCounted q none = (if e.2.2 then 17 else 10)) ∧
    (let q : Req := { keyedReq with d := { opcode := 0x205, flags := 2 ^ fDeviceIv + 2 ^ fCtxOut } }
     q.d.flag fDeviceIv = true ∧ q.d.flag fCtxOut = true ∧ hasMark (modeOf q.d.opcode) = true ∧ q.op = .aeadEnc) ∧
    (let q := saving 0x311 (2 ^ fCtxOut + 2 ^ fWrap)
     q.slot = none ∧ savesWrapped served1 q none = true ∧ (getFn served1 1).ctxRes ≤ (getFn served1 1).ctxCtr ∧
     (let s := setFn served1 1 { getFn served1 1 with ctxRes := 1 }; (getFn s 1).ctxCtr < (getFn s 1).ctxRes)) ∧
    (let q := srcReq .ready
     q.op = .aeadEnc ∧ q.d.flag fSrcPeer = true ∧ q.d.flag fDstPeer = false ∧ q.taken = false ∧ q.d.flag fCtxIn = false) ∧
    (let q := { dstReq 0 with phase := .ready }
     q.op = .aeadDec ∧ q.d.flag fSrcPeer = false ∧ q.d.flag fDstPeer = true ∧ q.taken = false) ∧
    (∀ b, (goingOn b).op = .hash ∧ (goingOn b).taken = false ∧ (goingOn b).d.flag fCtxIn = true ∧
      (ctxTest (withReq (goingOn b)) (goingOn b)).toOption.isSome = b) ∧
    (∀ q, { goingOn true with taken := true } = q → q.taken = true) := by
  refine ⟨by decide +kernel, by decide +kernel, by decide +kernel, by decide +kernel, by decide +kernel, by decide +kernel, ?_⟩
  rintro q rfl
  rfl

theorem witness_PkaOperationsRunOnValidInputs :
    ([(0x501, Op.sign), (0x502, .verify), (0x503, .rsaEnc), (0x504, .rsaDec), (0x505, .keyAgree), (0x506, .kemEnc), (0x507, .kemDec),
      (0x508, .keyGen), (0x509, .pubKey)].all fun e => decide (opOf 1 e.1 = some e.2)) = true ∧
    (∀ e ∈ [(0x502, 0x38, 1312), (0x505, 0x22, 32), (0x506, 0x30, 800)],
      pkaInputBad work { reqOf e.1 .loaded with d := { opcode := e.1, mode := e.2.1 }, opnd := zeros e.2.2 } = none ∧
      (pkaInputBad work { reqOf e.1 .loaded with d := { opcode := e.1, mode := e.2.1 }, opnd := zeros (e.2.2 - 1) }).isSome = true) ∧
    (∀ op ∈ [0x501, 0x507, 0x508, 0x509], pkaInputBad work (reqOf op .loaded) = none) ∧
    (pkaInputBad work { reqOf 0x503 .loaded with d := { opcode := 0x503, mode := 1 } }).isSome = true := by decide +kernel
theorem witness_PkaOperationEnd :
    ([(0x501, Op.sign), (0x502, .verify), (0x507, .kemDec), (0x508, .keyGen)].all fun e => decide (opOf 1 e.1 = some e.2)) = true ∧
    ([(0x503, Op.rsaEnc), (0x504, .rsaDec), (0x505, .keyAgree), (0x506, .kemEnc), (0x509, .pubKey)].all fun e => decide (opOf 1 e.1 = some e.2)) = true ∧
    resultChecked .sign 0x38 = false ∧ resultChecked .verify 0x38 = false ∧ resultChecked .kemDec 0x32 = false ∧
    pkAlg 1 = 1 ∧ pkAlg 0x38 ≠ 1 ∧ pairStands (genPolicy 0x38) [] = true ∧ pairStands (genPolicy 0x22) [] = true ∧ zeroSecret 0x38 [] = false ∧
    zeroSecret 0x22 (zeros 32) = true ∧ resultChecked .sign 1 = true ∧ resultChecked .keyAgree 0x10 = true ∧
    (let q : Req := { reqOf 0x501 .running with unit := some (unitAt .pka 4) }
     pkaOf q = some (unitAt .pka 4) ∧ safeComes (withReq q) = false ∧ leadsSafe (withReq q) (unitSource (unitAt .pka 4) 1) = false ∧
     leadsSafe { withReq q with cfg := [(256 * (0x3100 + unitSource (unitAt .pka 4) 1 / 256) + unitSource (unitAt .pka 4) 1 % 256, 3)] }
       (unitSource (unitAt .pka 4) 1) = true) := by decide +kernel

/-- The policy of an AES-GCM key for device IVs or caller IVs, and that of a pair that signs. -/
def polGcm (iv : Nat) : Nat := 32 * 2 ^ 24 + 2 ^ iv + 2 ^ 36
def polSign (alg : Nat) : Nat := alg * 2 ^ 16 + 2 ^ 2

theorem witness_KeyMaterial :
    ([(0x601, Op.genSym), (0x602, .derive), (0x605, .expWrap), (0x606, .expKem)].all fun e => decide (opOf 1 e.1 = some e.2)) = true ∧
    kmBits work (reqOf 0x602 .loaded) = 0 ∧ ({ reqOf 0x601 .loaded with drawn := [0] } : Req).drawn ≠ [] ∧
    publicOk 0x30 0 (zeros 800) = true ∧ publicOk 0x30 0 [] = false ∧ publicOk 0x22 0 (zeros 32) = true ∧ publicOk 0x22 0 [] = false ∧
    zeroSecret 0x38 [] = false ∧ zeroSecret 0x22 (zeros 32) = true ∧ curveChecked 0x38 = false ∧ curveChecked 0x10 = true ∧
    polHas 0 pDeviceIv = false ∧ polHas (polGcm pDeviceIv) pDeviceIv = true ∧ (pickSlot work).isSome = true ∧
    (pickSlot { work with vault := { high := 2 ^ 24 } }).isNone = true ∧ drbgStop work = some .rngAdvent ∧
    (let s : State := { work with rng := { state := .running } }
     drbgStop s = none ∧ (drbgReady s).isSome = true ∧ (pickSlot s).isSome = true) ∧
    (let s : State := { work with rng := { state := .running, calls := 65536 } }
     drbgStop s = none ∧ (drbgReady s).isNone = true) := by decide +kernel
theorem witness_ImportsUnwrapOrFail :
    ([(0x603, Op.impWrap), (0x604, .impKem)].all fun e => decide (opOf 1 e.1 = some e.2)) = true ∧ kmBits work (reqOf 0x603 .loaded) = 0 ∧
    kmSub 0 = 0 ∧ kmSub 1 ≠ 0 ∧ publicOk 1 0 [] = false ∧ publicOk 0x22 0 (zeros 32) = true ∧ zeroSecret 0x38 [] = false ∧ curveChecked 0x10 = true ∧
    -- packages of symmetric keys and of pairs, small and large
    (∀ e ∈ [(polGcm pDeviceIv, 32, 0), (polGcm pCallerIv, 32, 0), (polSign 0x38, 32, 0x38), (polSign 0x44, 128, 0x44)],
      let b := packageOf { policy := e.1 } (zeros e.2.1)
      packageOk b = true ∧ fld b 4 8 = e.1 ∧ polKind e.1 = e.2.2 ∧ b.drop 32 = zeros e.2.1 ∧ needsLarge e.2.1 = decide (e.2.1 = 128) ∧
      polHas e.1 pDeviceIv = decide (e.1 = polGcm pDeviceIv) ∧ pairStands e.1 [] = true ∧ packageOk (b.drop 1) = false) ∧
    impliedLen (polGcm pCallerIv) = 32 ∧ kcvFits (polSign 0x38) (zeros 16) [] = true ∧ kcvFits (polSign 0x38) [1] [] = false ∧
    rngStop work = some .rngAdvent ∧ rngStop { work with rng := { state := .running } } = none ∧
    (∀ n : Fin 2, let q : Req := { reqOf 0x603 .loaded with quotas := (1, n.val, 0) }
      quotaOk (withReq q) q false true false = decide (n.val = 1) ∧ pkaOf q = none ∧
      pkaOf { q with unit2 := some (unitAt .pka 4) } = some (unitAt .pka 4)) ∧
    groupOfReq work (reqOf 0x603 .loaded) = 0 ∧ readyBit work (some 0) 3 = false ∧ readyBit (surveyed 1 14) (some 0) 3 = true := by
  decide +kernel
theorem witness_Replacements :
    ([(0x607, Op.replace), (0x608, .commit), (0x609, .cancel)].all fun e => decide (opOf 1 e.1 = some e.2)) = true ∧
    kmSub 1 ≠ 0 ∧ kmSub 0 = 0 ∧ kmBits work (reqOf 0x607 .loaded) = 0 ∧ polKind (getSlot work 3).policy = 0 ∧ replacing work 3 = false ∧
    slotCode work 3 ≠ 3 ∧ kcvFits 0 (zeros 16) [] = true ∧ kmBits work { reqOf 0x607 .loaded with d := { opcode := 0x607, mode := 1 } } = 0 ∧
    (let x : State := { work with vault := { slots := [(3, { state := .active, policy := genPolicy 0x38 })] } }
     let q : Req := { reqOf 0x607 .loaded with slot := some 3, d := { opcode := 0x607, mode := 1 }, drawn := zeros 512 }
     polKind (getSlot x 3).policy = 0x38 ∧ q.drawn ≠ [] ∧ pairStands (getSlot x 3).policy [] = true ∧ curveChecked 0x38 = false ∧
     replacing x 3 = false ∧ slotCode x 3 ≠ 3 ∧ (getSlot x 3).state ≠ .retired ∧ changing x 3 = false) ∧ ({ reqOf 0x607 .loaded with slot := some 3 } : Req).slot = some 3 ∧
    (let x : State := { work with vault := { slots := [(3, { state := .replacing, shadow := some { idx := 0, mat := [] } })] } }
     replacing x 3 = true ∧ slotCode x 3 ≠ 3 ∧ polKind (getSlot x 3).policy = 0 ∧ (getSlot x 3).shadow = some { idx := 0, mat := [] }) ∧
    slotCode { work with vault := { slots := [(3, { state := .erasing })] } } 3 = 3 ∧ changing work 3 = false ∧
    changing { work with vault := { updates := [{ ops := [.cancel 3] }] } } 3 = true ∧
    (getSlot { work with vault := { slots := [(3, { state := .retired })] } } 3).state = .retired := by decide +kernel
theorem witness_Erasures :
    opOf 1 0x60A = some .erase ∧ opOf 1 0x60B = some .eraseUrg ∧ ({ work with vault := { erasing := [3] } } : State).vault.erasing.contains 3 = true ∧
    work.vault.erasing.contains 3 = false ∧ canon work = true ∧
    (let x : State := { work with vault := { erasing := [3] }, cache := [{ slot := 3, bank := 0, gen := 0, inv := 0, blk := 0, mark := none, mat := [] }] }
     freeing x 3 = false ∧ refsOf x 3 = 0 ∧ refsOf { x with cache := x.cache.map fun e => { e with refs := 1 } } 3 ≠ 0) ∧
    (getSlot (keyed 0 0) 3).state ≠ .free := by decide +kernel
theorem witness_KeyInfoRandom :
    opOf 1 0x60C = some .keyInfo ∧ handleOf work 3 < 2 ^ 32 ∧ (getSlot work 3).owner < 2 ^ 16 ∧ (getSlot work 3).policy < 2 ^ 64 ∧
    ([(0x701, Op.random), (0x901, .veAttest)].all fun e => decide (opOf 1 e.1 = some e.2)) = true ∧ opOf 0 0x902 = some .certInstall ∧
    drbgStop { work with rng := { state := .running } } = none ∧ drbgStop work = some .rngAdvent ∧ work.life.state ≤ 1 ∧
    drbgStop { work with rng := { state := .running }, gens := [(33, { seeded := true, watch := true })] } = some .rngHalted ∧
    overBudget work 3 = false ∧ overBudget { work with nv := { recs := [(3, { seq := recBudget 3, valid := true })] } } 3 = true ∧
    (drbgNext work []).isSome = true ∧ (drbgNext { work with rng := { calls := 65536 } } []).isNone = true ∧ work.rng.calls < 65536 ∧
    (let s : State := { work with rng := { state := .running, reserve := zeros 48 } }
     48 ≤ s.rng.reserve.length ∧ ∀ w ∈ s.rng.wires, 4 < wireClass w) ∧
    1 < ({ work with life := { state := 2 } } : State).life.state := by decide +kernel

def peering (claim : Bool) (got : Bytes) : State :=
  { withReq { reqOf 0x205 .peer with d := { opcode := 0x205, flags := 2 ^ 7, srcLen := 18 }, token := some 5 } with
    peer := { tokens := [{ token := 5, req := 1, claim := claim, got := got }] } }

theorem witness_PeerMessages :
    atWork (peering true []) = true ∧ findToken (peering true []) 5 = some { token := 5, req := 1, claim := true } ∧
    ((getReq (peering true []) 1).map jobLen) = some 2 ∧ (getReq (peering true []) 1).map Req.token = some (some 5) ∧ someHdr.stray = false ∧ 0 < someHdr.len ∧ someHdr.len ≤ 65536 ∧
    findToken work 5 = none ∧ ({ work with bring := { work.bring with peerWait := true } } : State).bring.peerWait = true ∧
    jobEndStray { token := 5, req := 1, claim := true } someHdr = false ∧ jobEndStray { token := 5, req := 1, claim := false }
      { someHdr with len := 0 } = false ∧ ([1, 2] : Bytes).length = someHdr.len ∧ work.bring.peerWait = false := by decide +kernel

theorem witness_PeerSteps :
    (srcReq .waitPeer).op = .aeadEnc ∧ (srcReq .waitPeer).d.flag fSrcPeer = true ∧ mayOpen (withReq (srcReq .waitPeer)) 5 = true ∧
    mayOpen (peering true []) 5 = false ∧ (dstReq 0).op = .aeadDec ∧ (dstReq 0).d.flag fDstPeer = true ∧ headerOk (dstReq 0) = true ∧
    (runSeg (segOf (withReq (dstReq 0)) (dstReq 0))).tag = (prmTag (dstReq 0).prm).take (runSeg (segOf (withReq (dstReq 0)) (dstReq 0))).tag.length ∧
    ¬ (runSeg (segOf (withReq (dstReq 16)) (dstReq 16))).tag =
      (prmTag (dstReq 16).prm).take (runSeg (segOf (withReq (dstReq 16)) (dstReq 16))).tag.length ∧
    (srcReq .waitPeer).token = none := by
  refine ⟨by decide, by decide, by decide +kernel, by decide +kernel, by decide, by decide, by decide +kernel, rfl, ?_, rfl⟩
  intro h
  exact absurd (congrArg List.length h) (by decide +kernel)

def looking (tries : Nat) : State :=
  { withReq { reqOf 0x205 .lookup with tries := tries } with lookup := { queries := [{ qid := 63, req := 1 }] } }

theorem witness_LookupAnswers :
    ({ work with bring := { work.bring with lookupWait := true } } : State).bring.lookupWait = true ∧
    (looking 1).lookup.queries.find? (fun x => decide (x.qid = (63 : BitVec 6).toNat)) = some { qid := 63, req := 1 } ∧
    (looking 1).bring.lookupWait = false ∧ (getReq (looking 1) 1).map Req.phase = some .lookup ∧ (1 : BitVec 24) ≠ 0 ∧
    (getReq (looking 4) 1).map Req.tries = some 4 ∧ (getReq (looking 3) 1).map (fun q => q.tries % 2) = some 1 ∧ freeQid (looking 1) 1 = some 16 ∧
    (getReq (looking 1) 1).map (reqRegion (looking 1)) = some 0 ∧ freeQid (looking 1) 0 = some 0 ∧
    freeQid { work with lookup := { quar := (List.range 16).map (16 + ·) } } 1 = none := by decide +kernel

def startable : State :=
  { served1 with
    chans := [(3, { owner := some 1, local_ := 4, state := .idle, pending := 1 })]
    units := [(unitAt .mov 0, { tested := true }), (unitAt .port 0, { tested := true })] }

/-- A channel of function 0 whose HEAD lies in the vault's region. -/
def inVault : State :=
  { startable with
    fns := [(0, { state := .running, before := .running })]
    chans := [(3, { owner := some 0, local_ := 4, state := .idle, pending := 1 })]
    cfg := [(256 * 0x7000 + 1, 4096), (256 * 0xA003 + 3, 8192)] }
def running (x : Run) : State := { served1 with chans := [(3, { owner := some 1, local_ := 4, state := .running, run := some x })] }

theorem witness_ChannelsAndTimers :
    chanWord served1 1 (0x820 : BitVec 13).toNat false = some 3 ∧ chanWord served1 1 (0x824 : BitVec 13).toNat true = some 3 ∧
    (getChan served1 3).pending + ((255 : U32) - (getChan served1 3).prev).toNat ≤ 255 ∧
    255 < (getChan served1 3).pending + ((256 : U32) - (getChan served1 3).prev).toNat ∧ (1 : U32).getLsbD 0 = true ∧ (2 : U32).getLsbD 0 = false ∧
    mayStart startable 3 = true ∧ mayStart served1 3 = false ∧ hitsVault startable 3 0 8 = false ∧ mayStart inVault 3 = true ∧
    hitsVault inVault 3 (chanCfg inVault 3 3) 8 = true ∧ (getChan (running { stage := .ccb }) 3).state ≠ .frozen ∧ canon (running { stage := .ccb }) = true ∧ (getTimer served1 2).armed = true ∧ (getTimer work 2).armed = false ∧
    (∀ c : Fin 256, chanCfg { work with timers := [(2, { armed := true })] } c.val 8 = 2 → (getChan work c.val).owner = none) := by decide +kernel

theorem witness_ProcessionOperations :
    (∀ op ∈ [1, 2, 3, 4, 5], ctlOp op = op) ∧
    (let x : Run := { ctl := 3, stage := .data, chunks := [(1, 0, [1, 2]), (2, 0, [1, 3])] }
     (running x).safe = false ∧ (getChan (running x) 3).run = some x ∧ x.outst = 0 ∧ x.stop = false ∧
     firstDiff 0 (runStream x 1) (runStream x 2) = some 1 ∧ firstDiff 0 (runStream x 1) (runStream x 1) = none) ∧
    badElem (running { ctl := 4, stage := .index }) 3 { ctl := 4, stage := .index } [] = none ∧
    (let x : Run := { ctl := 1, stage := .data }
     (getChan (running x) 3).run = some x ∧ ctlOp x.ctl = 1 ∧ x.err = none ∧ x.stop = false) := by
  refine ⟨by decide, ?_, by decide +kernel, by decide +kernel⟩
  exact ⟨rfl, by decide +kernel, rfl, rfl, by decide +kernel, by decide +kernel⟩

def advent (st : AdventStep) (passed rerun : List Nat) : State :=
  { work with
    rng := { step := st, passed := passed, rerun := rerun, feeding := 1, reserve := zeros 2048 }, units := [(unitAt .ns 7, {})], bring := { work.bring with unitIdDone := true } }
def rngIn (st : RngState) (feeding : BitVec 8) : State :=
  { work with rng := { state := st, step := .over, feeding := feeding, held := [zeros 32] } }

theorem witness_AdventRunsItsSteps :
    atWork (advent .settle [] []) = true ∧ (advent .settle [] []).rng.state = .advent ∧ active (advent .settle [] []) (unitAt .ns 7) = true ∧
    (advent .settle [] []).rng.skipped = [] ∧ 7 ∈ advSources (advent .startUp [] []) ∧
    (∃ k ∈ advSources (advent .startUp [] []), k ≠ 7 ∧ k ∉ (advent .startUp [] []).rng.passed) ∧
    (∀ k ∈ advSources (advent .startUp [0, 1, 2, 3, 4, 5, 6] []), k = 7 ∨ k ∈ (advent .startUp [0, 1, 2, 3, 4, 5, 6] []).rng.passed) ∧
    7 ∉ (advent .startUp [] []).rng.rerun ∧ 7 ∈ (advent .startUp [] [7]).rng.rerun ∧ (advent .fill [] []).bring.unitIdDone = true ∧
    (advent .fill [] []).rng.feeding ≠ 0 ∧ (advent .fill [] []).rng.reserve.length = 2048 ∧ work.rng.reserve.length < 2048 ∧ (rngIn .running 0).rng.feeding.getLsbD 7 = false ∧ (rngIn .halted 0).rng.state = .halted := by
  decide +kernel
theorem witness_ReserveServesThePrivateWires :
    (rngIn .running 1).rng.feeding ≠ 0 ∧ (rngIn .running 0).rng.feeding = 0 ∧
    wireHead { work with rng := { state := .running, wires := [.drbg, .pka 0, .gen 33] } } = some (.gen 33) ∧ (rngIn .running 1).rng.held = zeros 32 :: [] ∧
    wireBits work (.gen 33) = 256 ∧ (255 : Nat) < 256 ∧
    (getGen { work with gens := [(33, { seeded := true, grace := true })] } 33).seeded = true ∧
    (getGen { work with gens := [(33, { seeded := true, watch := true })] } 33).watch = true ∧
    (getGen { work with gens := [(32, { seeded := true, grace := true })] } 32).grace = true ∧
    reactionOf work (unitSource (unitAt .lane 31) 3) ≠ .safe ∧
    reactionOf { work with cfg := [(256 * (0x3100 + unitSource (unitAt .lane 31) 3 / 256) + unitSource (unitAt .lane 31) 3 % 256, 3)] }
      (unitSource (unitAt .lane 31) 3) = .safe ∧
    (getGen { work with gens := [(31, { seeded := true, grace := true })] } 31).grace = true ∧ (getGen work 33).seeded = false ∧
    (getGen work 33).grace = false := by decide +kernel
theorem witness_AlarmsEraseAndBlock :
    awake work = true ∧ inputOn work .light = true ∧ inputOn { work with cfg := [(256 * 0x6010 + 7, 11)] } .light = false ∧
    kindOf 0x40 = .lane ∧ kindOf 0x8F = .kc ∧ ({ work with alarms := { blocked := true, holding := true } } : State).alarms.asserted = [] ∧
    work.alarms.blocked = false ∧ supplyOut work false 901 = true ∧ supplyOut work true 800 = false ∧
    (classSource .supply :: []).any (leadsSafe work) = false ∧ (classSource .light :: []).any (leadsSafe work) = true ∧
    ({ work with alarms := { blocked := true, asserted := [.light] } } : State).alarms.asserted ≠ [] ∧
    reactionOf work (classSource .supply) ≠ .safe ∧ reactionOf work (classSource .light) = .safe := by decide +kernel

def fnIn (st : VeState) : State := setFn work 1024 { state := st, before := st }

/-- Function 1 FREEZING, with rings that are disabled and that run, and channels that are disabled and idle. -/
def freezingRings : State :=
  { setFn served1 1 { state := .freezing, before := .running } with
    rings := [(16, { owner := some 1, local_ := 2, state := .running, version := 3 }), (17, { owner := some 1, local_ := 3 })]
    chans := [(3, { owner := some 1, local_ := 4, state := .idle }), (4, { owner := some 1, local_ := 5 })] }

theorem witness_FunctionsAndDrains :
    ([VeState.running, .quiesced, .freezing, .restored, .frozen, .resetting, .destroying].all fun st =>
      atWork (fnIn st) && canon (fnIn st) && decide ((getFn (fnIn st) 1024).state = st)) = true ∧
    (∀ st ∈ [VeState.running, .quiesced, .frozen], ringsOf (fnIn st) 1024 = [] ∧ chansOf (fnIn st) 1024 = [] ∧ (getFn (fnIn st) 1024).act = none) ∧
    (let s := freezingRings
     canon s = true ∧ (getFn s 1).resetHeld = false ∧ replacingSlots s 1 = [] ∧ fnBusy s 1 = false ∧ freezeUpds s 1 = false ∧
     erasingOf s 1 = false ∧ ringsOf s 1 = [16, 17] ∧ chansOf s 1 = [3, 4] ∧ (getRing s 17).state = .disabled ∧ (getRing s 16).state ≠ .disabled) ∧
    (let s : State := { work with rings := [(4095, { state := .error })] }
     (getRing s 4095).state = .error ∧ ringCfg s 4095 9 = 0) ∧
    work.life.draining = false ∧ ({ work with life := { draining := true } } : State).life.draining = true ∧
    (getRing { work with rings := [(4095, { state := .draining, echoWait := true })] } 4095).state = .draining ∧
    (getRing work 4095).echoWait = false ∧ (getChan { work with chans := [(255, { state := .stopping })] } 255).state = .stopping ∧
    (getUnit (unitIn 0xBB { draining := true }) 0xBB).draining = true ∧ (getUnit work 0xBB).draining = false ∧
    (let s : State := { work with chans := [(255, { state := .frozen, run := some { stage := .ccb, stop := true } })] }
     (getChan s 255).state = .frozen ∧ (getChan s 255).run = some { stage := .ccb, stop := true }) := by decide +kernel

/-! The Almanac. Requests of the manager's mailbox, served directly. -/

def ask (op index sub : Nat) (value : Bytes) : AapMsg :=
  { someMsg with op := op, index := index, sub := sub, len := value.length, value := value, rcvd := 16 + value.length }
def readOf (index sub len : Nat) : AapMsg := { ask 1 index sub [] with len := len }

/-- The request is served, and is of the row's kind. -/
def Passes (s : State) (m : AapMsg) (c : Instr) : Prop := Served s m ∧ (c, true) ∈ aapRows s m

/-- `Passes` as a test that the kernel runs. -/
def passB (s : State) (m : AapMsg) (c : Instr) : Bool :=
  atWork s && (aapRows s m).contains (c, true) && servable s m && (refused s m).isNone

theorem passB_iff (s : State) (m : AapMsg) (c : Instr) : passB s m c = true ↔ Passes s m c := by
  simp [passB, Passes, Served]; tauto

theorem witness_AlmanacAnswersTheFirstRefusal :
    atWork work = true ∧ (Instr.read someMsg, true) ∈ aapRows work someMsg ∧ (Instr.write someMsg, false) ∈ aapRows work someMsg ∧
    servable work someMsg = true ∧ servable { work with mgmt := { mail := [(0, { busy := true, req := some (readOf 0x2000 1 4) })] } } someMsg = false ∧
    headBad { someMsg with ver := 3 } = true ∧ noEntry work (readOf 0x0FFF 1 4) = true ∧ noAccess work (ask 2 0x1000 1 (zeros 4)) = true ∧
    noEntry work (ask 2 0x1000 1 (zeros 4)) = false ∧ lcRefused { work with life := { state := 4 } } (readOf 0x2000 1 4) = true ∧
    lengthBad (readOf 0x1000 1 5) = some .type ∧ refusedEarly work (readOf 0x1000 1 5) = some .type ∧
    rangeBad (ask 2 0x6010 7 (le 4 16)) = true ∧ refusedEarly work someMsg = none ∧
    classBusy { work with bring := { work.bring with resume := true } } (readOf 0x8000 1 4) = true := by decide +kernel

theorem witness_AlmanacReads :
    Passes work someMsg (.read someMsg) ∧ Passes work (readOf 0x9000 3 32) (.lcChallenge (readOf 0x9000 3 32)) ∧
    Passes work (readOf 0x8000 0x0D 34) (.randomEntryRead (readOf 0x8000 0x0D 34)) ∧
    Passes work (readOf 0xC100 6 8) (.fnIntervalReq (readOf 0xC100 6 8)) ∧ Passes work (ask 6 0x1000 1 []) (.describe (ask 6 0x1000 1 [])) ∧
    Passes work (ask 7 0x1000 1 []) (.next (ask 7 0x1000 1 [])) ∧ (nextEntry work .mgr 0x1000 1).isSome = true ∧
    Passes work (ask 5 0x3100 0 [] |> fun m => { m with len := 1 }) (.readPending (ask 5 0x3100 0 [] |> fun m => { m with len := 1 })) ∧
    rngStop (rngIn .running 0) = none ∧ rngStop work = some .rngAdvent ∧ (drbgReady (rngIn .running 0)).isSome = true ∧
    drbgUp (rngIn .running 0) = true ∧ drbgUp { work with gens := [(33, { watch := true })] } = false ∧ servable work { someMsg with op := 0 } = true ∧
    (∀ off ∈ [0, 1024], Passes work { readOf 0x9002 2 1024 with off := off } (.read { readOf 0x9002 2 1024 with off := off })) ∧
    1024 < 16384 ∧ (({ work with mgmt := { snaps := [{ prin := .mgr, key := 256 * 0x9002 + 2, val := [] }] } } : State).mgmt.snaps.find? fun x =>
      decide (x.prin = .mgr ∧ x.key = 256 * 0x9002 + 2)).isSome = true := by
  simp only [← passB_iff]
  decide +kernel

def clearOf (i sub n : Nat) : AapMsg := ask 2 i sub (le n 1)

theorem witness_AlmanacWrites :
    Passes work (clearOf 0x3000 1 4) (.sticky (clearOf 0x3000 1 4)) ∧ Passes work (clearOf 0x3000 0x1C 1) (.safeCommand (clearOf 0x3000 0x1C 1)) ∧
    Passes work (clearOf 0x8000 2 1) (.rngReset (clearOf 0x8000 2 1)) ∧ Passes work (clearOf 0x7000 0x10 1) (.vaultClear (clearOf 0x7000 0x10 1)) ∧
    Passes work (clearOf 0xA100 3 1) (.timerArm (clearOf 0xA100 3 1)) ∧ Passes work (clearOf 0x5FFF 0x0E 4) (.ringErrors (clearOf 0x5FFF 0x0E 4)) ∧
    Passes work (clearOf 0xA0FF 0x0D 4) (.chanErrors (clearOf 0xA0FF 0x0D 4)) ∧
    Passes work (clearOf 0x5FFF 9 1) (.write (clearOf 0x5FFF 9 1)) ∧ (groupOfEntry 0x5FFF 9).isSome = true ∧ migrating work = false ∧
    Passes work (ask 4 0x5010 0 []) (.discard (ask 4 0x5010 0 [])) := by
  simp only [← passB_iff]
  decide +kernel

/-- A pending value, and the request that commits its group. -/
def staged (g sub n v : Nat) : State := stage served1 .mgr g g sub (le n v)
def commitOf (g : Nat) : AapMsg := ask 3 g 0 []

theorem witness_CommitsApplyTheirGroup :
    (∀ e ∈ [(0x5010, 9, 0), (0xA003, 5, 0), (0x4001, 1, 0), (0x4001, 1, 2), (0x3302, 1, 1), (0xA102, 1, 1), (0x7000, 2, 0)],
      Passes (staged e.1 e.2.1 1 e.2.2) (commitOf e.1) (.commit (commitOf e.1)) ∧
      groupRefusal (staged e.1 e.2.1 1 e.2.2) (candidate (staged e.1 e.2.1 1 e.2.2) e.1) e.1 = none) ∧
    groupRefusal (staged 0x5010 7 1 77) (candidate (staged 0x5010 7 1 77) 0x5010) 0x5010 = some .range ∧
    groupRefusal (staged 0x4002 1 1 1) (candidate (staged 0x4002 1 1 1) 0x4002) 0x4002 = some .busy ∧
    Passes (staged 0x5010 9 1 0) (commitOf 0x5010) (.ringDisable (commitOf 0x5010)) ∧
    Passes (staged 0x5011 9 1 1) (commitOf 0x5011) (.ringEnable (commitOf 0x5011)) ∧
    Passes (staged 0xA003 5 1 0) (commitOf 0xA003) (.chanDisable (commitOf 0xA003)) ∧
    Passes (staged 0xA004 5 1 1) (commitOf 0xA004) (.chanEnable (commitOf 0xA004)) ∧
    Passes (staged 0xA102 1 1 1) (commitOf 0xA102) (.timerCommit (commitOf 0xA102)) ∧
    Passes (staged 0x7000 2 1 0) (commitOf 0x7000) (.vaultCommit (commitOf 0x7000)) ∧
    Passes (staged 0x3302 1 1 1) (commitOf 0x3302) (.unitOutOfService (commitOf 0x3302)) ∧
    Passes (staged 0x4002 1 1 1) (commitOf 0x4002) (.veCreate (commitOf 0x4002)) ∧
    Passes (staged 0x4001 1 1 0) (commitOf 0x4001) (.veDestroy (commitOf 0x4001)) ∧
    Passes (staged 0x4001 1 1 2) (commitOf 0x4001) (.veFreeze (commitOf 0x4001)) ∧
    (∀ v ∈ [0, 2], let t := candidate (staged 0x4001 1 1 v) 0x4001
      cfgGet t 0x4001 1 = v ∧ canon (staged 0x4001 1 1 v) = true ∧ (getFn (staged 0x4001 1 1 v) 1).state = .running ∧
      ringsOf t 1 = [16] ∧ chansOf t 1 = [3] ∧ (getRing t 16).waiting = [] ∧ (getRing t 16).state = .running ∧ (getChan t 3).state = .idle ∧
      (getChan t 3).run = none ∧ chanEnabled (getChan t 3) = true) ∧
    (getChan (running { stage := .ccb }) 3).run = some { stage := .ccb } ∧ chanEnabled (getChan (running { stage := .ccb }) 3) = true ∧
    Passes (stage { work with cfg := [(256 * 0x3302 + 1, 1)] } .mgr 0x3302 0x3302 1 [0]) (commitOf 0x3302) (.unitInService (commitOf 0x3302)) ∧
    Passes (stage { fnIn .frozen with cfg := [(256 * 0x4400 + 1, 2)] } .mgr 0x4400 0x4400 1 [1]) (commitOf 0x4400) (.veThaw (commitOf 0x4400)) := by
  simp only [← passB_iff]
  decide +kernel
theorem witness_CommitsMoveTheirParts :
    canon served1 = true ∧ (getRing served1 16).owner = some 1 ∧ (getFn served1 1).state ≠ .frozen ∧ (getFn (fnIn .frozen) 1024).state = .frozen ∧
    (getChan served1 4).state = .disabled ∧ (getChan served1 4).owner = none ∧ (getChan served1 3).run = none ∧
    (getUnit (unitIn 0xBB { state := .fenced }) 0xBB).state = .fenced ∧ (getUnit (unitIn 0xBB { draining := true }) 0xBB).draining = true := by
  decide +kernel

/-- Function 1 with a migration state, and the write of VE_ACTION. -/
def migState (st : VeState) (mig : MigState) : State := setFn served1 1 { state := st, before := .running, mig := mig }
def acting (k : Nat) : AapMsg := ask 2 0x4001 0x0D (le 1 k)

theorem witness_ActionsBeginAndComplete :
    (∀ e ∈ [(1, VeState.running, MigState.none), (2, .frozen, .none), (3, .restored, .opened), (4, .frozen, .saved), (5, .restored, .restored),
        (6, .restored, .opened), (7, .absent, .none), (8, .absent, .released), (9, .running, .none)],
      (∀ r ∈ (aapRows (migState e.2.1 e.2.2) (acting e.1)).filter (fun x => x.2), r = (.write (acting e.1), true) ∨ isAction (acting e.1) e.1 = true) ∧
      Passes (migState e.2.1 e.2.2) (acting e.1) (.write (acting e.1)) ∧ isAction (acting e.1) e.1 = true ∧
      (codeAct e.1).all (fun k => decide (actRefusal (migState e.2.1 e.2.2) ((acting e.1).index - 0x4000) k = none)) = true) ∧
    actRefusal served1 1 .save = some .inconsistent ∧ (getFn work 1024).act = none ∧ (getFn (migState .absent .opened) 1).mig = .opened := by
  simp only [← passB_iff]
  decide +kernel
theorem witness_ActionCompletion :
    (let s : State := setFn served1 1 { state := .frozen, before := .running, act := some { kind := .open } }
     atWork s = true ∧ (getFn s 1).act = some { kind := .open } ∧ signReady s = false) ∧
    (let s : State := { surveyed 1 14 with rng := { state := .running }, bring := { (surveyed 1 14).bring with identity := true } }
     signReady s = true ∧ actWaits s .open = true ∧ actWaits { s with rng := { s.rng with pkaBuf := [(0, zeros 208)] } } .open = false ∧
     actWaits s .renew = false) ∧
    (∀ k ∈ [ActKind.save, .release, .abandon, .renew],
      let s : State := setFn served1 1 { state := .frozen, before := .running, mig := .opened, act := some { kind := k } }
      (getFn s 1).act = some { kind := k } ∧ (getFn s 1).image = none ∧ (getFn s 1).mig = .opened ∧ s.rng.state ≠ .running) ∧
    saveBad served1 1 (actInput { kind := .save }) = some 0x14 ∧
    restoreBad served1 1 { challenge := [], ekPriv := [], ecPriv := [] } (actInput { kind := .restore }) = some 0x14 ∧
    commitBad served1 1 { challenge := [], ekPriv := [], ecPriv := [] } (actInput { kind := .commit }) = some 0x14 ∧
    releaseBad served1 1 { destUnit := [], challenge := [], digest := [] } (actInput { kind := .release }) = some 0x14 ∧
    (∀ k ∈ [ActKind.restore, .commit, .release],
      let s : State := setFn served1 1 { state := .restored, session := some { challenge := [], ekPriv := [], ecPriv := [] }
                                         image := some { destUnit := [], challenge := [], digest := [] }, act := some { kind := k } }
      (getFn s 1).session = some { challenge := [], ekPriv := [], ecPriv := [] } ∧
      (getFn s 1).image = some { destUnit := [], challenge := [], digest := [] } ∧ (getFn s 1).act = some { kind := k } ∧ actWaits s k = false) ∧
    (∀ st ∈ [VeState.running, .frozen], let s : State := setFn served1 1 { state := st, act := some { kind := .renew } }
      (getFn s 1).act = some { kind := .renew } ∧ actWaits s .renew = false ∧ (s.rng.state ≠ .running ∨ vaultReady s = false)) ∧
    (let s := migState .restored .opened
     (getFn s 1).mig = .opened ∧ restoring s 1 = false ∧ restoring { s with vault := { updates := [{ ops := [.unrestore 1 (
       { key := [], res := 0, held := 0, ses := { challenge := [], ekPriv := [], ecPriv := [] }
         was := { challenge := [], ekPriv := [], ecPriv := [] }, cfg := [], slots := [] })] }] } } 1 = true) ∧
    (let a : ActJob := { kind := .save, err := some .memError }
     a.reading = false ∧ a.outst = 0 ∧ a.code = none ∧ a.err = some .memError) := by decide +kernel

theorem witness_MailboxesAndPackets :
    atWork served1 = true ∧ served1.bring.almanacUp = true ∧ (getFn served1 1).state ≠ .absent ∧ (getFn served1 0).state ≠ .absent ∧
    (0x80000410 : U32).getLsbD 31 = true ∧ (0x80000410 : U32).toNat % 2048 = 1040 ∧ (0x80000010 : U32).toNat % 2048 = 16 ∧
    (0x8000000F : U32).toNat % 2048 = 15 ∧ (0x10 : U32).getLsbD 31 = false ∧ (getMail served1 1).busy = false ∧
    (getMail { served1 with mgmt := { mail := [(1, { busy := true })] } } 1).busy = true ∧
    (∀ p ∈ [[1, 0, 8, 0x88, 1], [1, 0, 8, 0xC8, 0x7F, 0, 0, 0xDF, 0x82], ([1, 0, 8, 0x48, 1] : Bytes)],
      5 ≤ p.length ∧ p.length ≤ 68 ∧ fld p 0 1 = 1) ∧
    (fld [1, 0, 8, 0x88, 1] 3 1).testBit 7 = true ∧ (fld [1, 0, 8, 0x88, 1] 3 1).testBit 6 = false ∧
    (fld [1, 0, 8, 0xC8] 3 1).testBit 6 = true ∧ (fld [1, 0, 8, 0xC8] 3 1).testBit 3 = true ∧
    (List.drop 4 [1, 0, 8, 0xC8, 0x7F, 0, 0, 0xDF, 0x82] : Bytes).take 5 = vendorHead ∧ (fld [1, 0, 8, 0x48] 3 1).testBit 7 = false ∧
    findReasm served1 8 8 = none ∧ fld ([0x80, 1, 254] : Bytes) 1 1 % 4 ≤ 1 ∧ fld ([0x80, 0, 8] : Bytes) 2 1 = 8 ∧
    fld ([0x80, 255] : Bytes) 1 1 = 255 ∧ fld ([0x80, 0] : Bytes) 1 1 = 0 := by decide +kernel

/-- A processor of public keys ready. -/
def ready3 (l : Life) : State := { surveyed 1 14 with life := l }

theorem witness_LifeCycleFollowsItsRequests :
    (∀ g ∈ [0x9000, 0x9001, 0x9002], Passes (surveyed 1 14) (commitOf g) (.commit (commitOf g))) ∧
    Passes (surveyed 1 14) (commitOf 0x9000) (.lifecycleTransition (commitOf 0x9000)) ∧
    Passes (surveyed 1 14) (commitOf 0x9001) (.debugToken (commitOf 0x9001)) ∧
    Passes (surveyed 1 14) (commitOf 0x9002) (.attestNonce (commitOf 0x9002)) ∧
    readyBit work none 3 = false ∧ readyBit (surveyed 1 14) none 3 = true ∧ lcIdle (surveyed 1 14) = true ∧
    budgetOk (surveyed 1 14) 1 = true ∧ requestBad (surveyed 1 14) false none (submitted (surveyed 1 14) 0x9000 5) = some 0x10 ∧
    requestBad (surveyed 1 14) true none (submitted (surveyed 1 14) 0x9001 1) = some 0x10 ∧
    lcDrained work = false ∧ lcDrained (ready3 { draining := true, phase := .verified }) = true ∧ (surveyed 1 14).rings = [] ∧
    pkaSupply (surveyed 1 14) 64 = none ∧ pkaSupply { surveyed 1 14 with rng := { pkaBuf := [(0, zeros 64)] } } 64 = some 0 ∧
    work.nv.retry = none ∧ allZero (submitted (surveyed 1 14) 0x9002 1) = true ∧
    allZero (submitted (stage (surveyed 1 14) .mgr 0x9002 0x9002 1 [1]) 0x9002 1) = false := by
  simp only [← passB_iff]
  decide +kernel

def writing (rec : Nat) (n : Nat) (st : NvStep) : NvJob := { recId := rec, write := some (zeros n), why := .bootcfg, step := st }

theorem le_length (n v : Nat) : (le n v).length = n := by
  induction n generalizing v <;> simp_all [le]

theorem frame_length (s : State) (rec seq : Nat) (p : Bytes) : (copyFrame s rec seq p).length = 52 + p.length := by
  simp [copyFrame, copyMac, primBytes, le_length, zeros]
  omega

theorem frame_pages (s : State) (rec n : Nat) (st : NvStep) : framePages s (writing rec n st) = ceilDiv (52 + n) 256 := by
  unfold framePages jobFrame
  rw [frame_length]
  exact congrArg (fun k => ceilDiv (52 + k) 256) List.length_replicate

theorem ofLe_le (n v : Nat) : ofLe (le n v) = v % 256 ^ n := by
  induction n generalizing v with
  | zero => simp [le, ofLe, Nat.mod_one]
  | succ n ih =>
    simp only [le, ofLe, ih, BitVec.toNat_ofNat]
    have h := Nat.mod_mul (x := v) (a := 256) (b := 256 ^ n)
    rw [← Nat.pow_succ'] at h
    exact h.symm

/-- A number written little-endian in a string reads back. -/
theorem fld_le (a c : Bytes) (k n v : Nat) (hk : a.length = k) (hv : v < 256 ^ n) : fld (a ++ (le n v ++ c)) k n = v := by
  subst hk
  have h : (le n v ++ c).take n = le n v := by simp [le_length]
  rw [fld, slice, List.drop_left, h, ofLe_le, Nat.mod_eq_of_lt hv]

theorem crcBit_lt (c : Nat) (h : c < 2 ^ 32) : crcBit c < 2 ^ 32 := by
  unfold crcBit
  split
  · exact Nat.xor_lt_two_pow (by omega) (by decide)
  · omega

theorem crc32c_lt (b : Bytes) : crc32c b < 2 ^ 32 := by
  have h : ∀ c < 2 ^ 32, b.foldl crcByte c < 2 ^ 32 := by
    induction b with
    | nil => exact fun _ h => h
    | cons x t ih =>
      refine fun c hc => ih _ ?_
      unfold crcByte
      iterate 8 refine crcBit_lt _ ?_
      exact Nat.xor_lt_two_pow hc (Nat.lt_of_lt_of_le x.isLt (by decide))
  exact Nat.xor_lt_two_pow (h _ (by decide)) (by decide)

/-- R350: a copy that is read back as it was written is valid, whatever stands behind it, and shows its sequence number. -/
theorem copyFrame_ok (s : State) (rec seq : Nat) (p pad : Bytes) (hr : rec < 2 ^ 16) (hs : seq < 2 ^ 32) (hp : p.length < 2 ^ 32)
    (hl : payloadLenOk rec p.length = true) :
    copyOk s rec (copyFrame s rec seq p ++ pad) = true ∧ copySeq (copyFrame s rec seq p ++ pad) = seq := by
  have hc := crc32c_lt
  have hm : ∀ b, (copyMac s b).length = 32 := by simp [copyMac, primBytes]
  simp only [copyFrame]
  generalize hb : le 2 rec ++ le 2 1 ++ le 4 seq ++ le 4 p.length ++ zeros 4 ++ p = b
  have hbl : b.length = 16 + p.length := by rw [← hb]; simp only [List.length_append, le_length, zeros, List.length_replicate]
  have f0 : ∀ t, fld (b ++ t) 0 2 = rec := by
    intro t; rw [← hb]; simpa only [List.append_assoc, List.nil_append] using fld_le [] _ 0 2 rec rfl (by simpa using hr)
  have f4 : ∀ t, fld (b ++ t) 4 4 = seq := by
    intro t; rw [← hb]
    simpa only [List.append_assoc] using fld_le (le 2 rec ++ le 2 1) (le 4 p.length ++ (zeros 4 ++ (p ++ t))) 4 4 seq rfl (by simpa using hs)
  have f8 : ∀ t, fld (b ++ t) 8 4 = p.length := by
    intro t; rw [← hb]
    simpa only [List.append_assoc] using
      fld_le (le 2 rec ++ (le 2 1 ++ le 4 seq)) (zeros 4 ++ (p ++ t)) 8 4 p.length rfl (by simpa using hp)
  generalize hmb : copyMac s b = mb
  have hml : mb.length = 32 := by rw [← hmb]; exact hm b
  have hcr := hc (b ++ mb)
  refine ⟨?_, by simpa [copySeq, List.append_assoc] using f4 _⟩
  have t16 : ∀ t, (b ++ t).take (16 + p.length) = b := by intro t; rw [← hbl]; simp
  have d16 : slice (b ++ (mb ++ (le 4 (crc32c (b ++ mb)) ++ pad))) (16 + p.length) 32 = mb := by
    rw [← hbl, ← hml]; simp [slice]
  have hbm : (b ++ mb).length = 48 + p.length := by rw [List.length_append, hbl, hml]; omega
  have t48 : (b ++ (mb ++ (le 4 (crc32c (b ++ mb)) ++ pad))).take (48 + p.length) = b ++ mb := by
    rw [← List.append_assoc, ← hbm, List.take_left]
  have f48 : fld (b ++ (mb ++ (le 4 (crc32c (b ++ mb)) ++ pad))) (48 + p.length) 4 = crc32c (b ++ mb) := by
    rw [← List.append_assoc]; exact fld_le _ _ _ _ _ hbm (by simpa using hcr)
  simp only [copyOk, List.append_assoc]
  rw [f0, f8, t16, d16, t48, f48, hmb]
  simp [hl, le_length, hml, hbl]; omega

/-- The copy that a job for LIFECYCLE writes, as its last page reads back. -/
def lifeJob (t : Nat) : NvJob := { writing 1 112 (.verify 0) with tryNo := t }
def lifeCopy : Bytes := jobFrame work (lifeJob 0) ++ List.replicate 92 0xFF

theorem lifeCopy_good : let b := fit 256 lifeCopy
    copyOk work 1 b = true ∧ copySeq b = jobSeq work (lifeJob 0) ∧ b.take (jobFrame work (lifeJob 0)).length = jobFrame work (lifeJob 0) ∧
    (b.drop (jobFrame work (lifeJob 0)).length).all (fun x => decide (x = 0xFF)) = true := by
  have hl : (jobFrame work (lifeJob 0)).length = 164 := by unfold jobFrame; rw [frame_length]; rfl
  have hf : fit 256 lifeCopy = jobFrame work (lifeJob 0) ++ List.replicate 92 0xFF := by
    simp [fit, lifeCopy, hl, zeros, List.take_append]
  rw [hf]
  have ok := copyFrame_ok work 1 (jobSeq work (lifeJob 0)) (zeros 112) (List.replicate 92 0xFF) (by decide) (by decide +kernel) (by decide) (by decide)
  exact ⟨ok.1, ok.2, by simp, by simp⟩

/-- The reads of LIFECYCLE and the erase of its bank, at their first and last steps; a copy's pages; one that reads back good or not, and a
command that fails, at the first and the second try. -/
theorem witness_NvCommandsFollowTheirProcedure :
    (writing 4 752 (.program 0)).recId ≠ surveyRec ∧ framePages work (writing 4 752 (.program 0)) = 4 ∧
    framePages work (writing 1 112 (.verify 0)) = 1 ∧ (writing 4 752 (.program 0)).tryNo = 0 ∧ work.nv.jobs = [] ∧ (lifeJob 1).tryNo ≠ 0 ∧
    (1 : Nat) ≠ surveyRec ∧ 0 + 1 < bankPages 1 ∧ bankPages 1 ≤ (bankPages 1 - 1) + 1 ∧ 0 + 1 < bankSectors 3 ∧
    bankSectors 3 ≤ (bankSectors 3 - 1) + 1 ∧ twf ({} : NvRec) work.nv.recs = true ∧ copyOk work 1 ((lifeJob 0).got ++ fit 256 []) = false ∧
    copyOk work 1 ((lifeJob 0).got ++ fit 256 lifeCopy) = true :=
  ⟨(by decide : 4 ≠ surveyRec), frame_pages .., frame_pages .., rfl, rfl, by decide, by decide, by decide, by decide, by decide, by decide,
    by decide, by decide +kernel, lifeCopy_good.1⟩

theorem witness_TapInstructionsAndScans :
    awake work = true ∧ (0xFF : BitVec 8).toNat ∉ [0x00, 0x01, 0x02, 0x03, 0x04, 0x10, 0x11, 0x12] ∧ debugEnabled work = 0 ∧
    debugEnabled { work with bring := { work.bring with lcRead := true } } = 3 ∧ work.tap.factory = false ∧
    ({ work with tap := { factory := true } } : State).tap.factory = true ∧ work.mgmt.dbgIn.length < 16 ∧
    (seqWord { withReq { reqOf 0x101 .ready with chain := 7 } with
      chains := [(7, some { ring := 16, group := 0, seq := 1, steps := [1] })] } ((2 ^ 56 + 2 ^ 32 : Nat) : BitVec 64)).isSome = true ∧
    (0x100000000 : BitVec 33).getLsbD 32 = true ∧ (0xFFFFFFFF : BitVec 33).getLsbD 32 = false ∧
    (zeros 12 ++ le 4 ((0x100000000 : BitVec 33).toNat % 2 ^ 32)).length = 16 ∧ fld (zeros 16) 1 1 ≠ 2 ∧ work.mgmt.dbg = none := by
  decide +kernel

theorem witness_TablesStayCanonical : canon queued = true ∧ ∃ t, step queued = .next t := ⟨by decide +kernel, _, rfl⟩
theorem witness_LockedSeveritiesStaySafe :
    let s : State := { staged 0x3100 5 1 2 with pending := [.idcode] }
    Locked s ∧ s.mgmt.pend ≠ [] ∧ ∃ t, step s = .next t := by
  refine ⟨⟨fun x h => ?_, by decide +kernel⟩, by decide, _, rfl⟩
  have hx : x < 521 := by simp [sevLocked] at h; omega
  exact (by decide +kernel : ∀ x < 521, sevLocked x = true → severity { staged 0x3100 5 1 2 with pending := [.idcode] } x = 3) x hx h

end Sys2Proof.Tests
end

