-- ==== Sys2Proof/Proofs/RequestRings.lean ====
section
/-!
SUPPORT. The completion entries of the request rings: their bytes (R50, R51, R53), the entry of a request that ends, and the place that an
entry takes in its ring (R39).
-/
namespace Sys2Proof.RequestRings

open Sys2Proof Sys2Proof.Machine Sys2Proof.Safety

/-! ### Fields of a string that is put together of little-endian numbers -/

@[simp] theorem length_le (n v : Nat) : (le n v).length = n := by
  induction n generalizing v with
  | zero => rfl
  | succ n ih => simp [le, ih]

theorem ofLe_le (n v : Nat) : ofLe (le n v) = v % 256 ^ n := by
  induction n generalizing v with
  | zero => simp [le, ofLe, Nat.mod_one]
  | succ n ih =>
    calc ofLe (le (n + 1) v) = v % 256 + 256 * (v / 256 % 256 ^ n) := by simp [le, ofLe, ih]
      _ = v % 256 ^ (n + 1) := by rw [Nat.pow_succ', Nat.mod_mul]

theorem zeros_eq_le (n : Nat) : zeros n = le n 0 := by
  induction n with
  | zero => rfl
  | succ n ih => simpa [zeros, le, List.replicate_succ] using ih

/-- The number that stands first is the field at offset 0. -/
theorem fld_le_append_zero (n v : Nat) (c : Bytes) : fld (le n v ++ c) 0 n = v % 256 ^ n := by
  simp [fld, slice, ofLe_le]

theorem fld_le_zero (n v : Nat) : fld (le n v) 0 n = v % 256 ^ n := by
  simpa using fld_le_append_zero n v []

/-- A field behind the first number is a field of the rest. -/
theorem fld_le_append (m v : Nat) (c : Bytes) (k n : Nat) (h : m ≤ k) : fld (le m v ++ c) k n = fld c (k - m) n := by
  simp [fld, slice, List.drop_append, List.drop_of_length_le, h]

/-! ### The bytes of a completion entry -/

theorem length_cqEntry (ver tag st flags idx res : Nat) : (cqEntry ver tag st flags idx res).length = 16 := by
  unfold cqEntry
  split <;> simp [zeros]

theorem cqEntry_rp1 (tag st flags idx res : Nat) :
    cqEntry 1 tag st flags idx res = le 4 tag ++ (le 2 st ++ (le 1 flags ++ (le 1 0 ++ (le 4 res ++ le 4 0)))) := by
  simp [cqEntry, zeros_eq_le]

theorem cqEntry_of_ne_rp1 {ver : Nat} (h : ver ≠ 1) (tag st flags idx res : Nat) :
    cqEntry ver tag st flags idx res =
      le 8 tag ++ (le 2 st ++ (le 1 flags ++ (le 1 (if ver = 2 then 0 else min idx 255) ++ le 4 res))) := by
  simp [cqEntry, h]

/-- R53. -/
theorem cqEntry_rp1_fields {tag st flags res : Nat} (idx : Nat) (ht : tag < 2 ^ 32) (hs : st < 2 ^ 16) (hf : flags < 256) (hr : res < 2 ^ 32) :
    let e := cqEntry 1 tag st flags idx res
    fld e 0 4 = tag ∧ fld e 4 2 = st ∧ fld e 6 1 = flags ∧ fld e 7 1 = 0 ∧ fld e 8 4 = res ∧ fld e 12 4 = 0 := by
  simp only [cqEntry_rp1]
  refine ⟨?_, ?_, ?_, ?_, ?_, ?_⟩ <;> simp [fld_le_append, fld_le_append_zero, fld_le_zero] <;> omega

/-- R50: the index is held at 255, and zero under RP2. -/
theorem cqEntry_fields {ver tag st flags res : Nat} (idx : Nat) (hv : ver ≠ 1) (ht : tag < 2 ^ 64) (hs : st < 2 ^ 16) (hf : flags < 256)
    (hr : res < 2 ^ 32) :
    let e := cqEntry ver tag st flags idx res
    fld e 0 8 = tag ∧ fld e 8 2 = st ∧ fld e 10 1 = flags ∧ fld e 11 1 = (if ver = 2 then 0 else min idx 255) ∧ fld e 12 4 = res := by
  have hi : (if ver = 2 then 0 else min idx 255) < 256 := by split <;> omega
  simp only [cqEntry_of_ne_rp1 hv]
  generalize (if ver = 2 then 0 else min idx 255) = i at hi ⊢
  refine ⟨?_, ?_, ?_, ?_, ?_⟩ <;> simp [fld_le_append, fld_le_append_zero, fld_le_zero] <;> omega

/-! ### The flags byte -/

theorem ofBool_le_one (b : Bool) : ofBool b ≤ 1 := by cases b <;> decide

/-- R51: bit 6 is the highest that is ever set, so that the flags fit one byte. -/
theorem phaseFlags_lt (ver : Nat) (ph notRun discard spilled flip fail : Bool) : phaseFlags ver ph notRun discard spilled flip fail < 256 := by
  have h := ofBool_le_one
  have := h ph; have := h notRun; have := h discard; have := h spilled; have := h flip; have := h fail
  unfold phaseFlags
  split <;> omega

/-- R53: SPILLED and KEY_GEN_FLIP are zero under RP1. -/
theorem phaseFlags_rp1 (ph notRun discard spilled flip fail : Bool) :
    (phaseFlags 1 ph notRun discard spilled flip fail).testBit 4 = false ∧
    (phaseFlags 1 ph notRun discard spilled flip fail).testBit 5 = false := by
  revert ph notRun discard spilled flip fail
  decide

/-! ### The entry of a request that ends -/

/-- A request that ends gives back what it holds, and one entry with its tag, status, position and RESULT is placed (R50 to R53). -/
theorem endReq_putEntry {s : State} {r : Nat} {q : Req} (h : getReq s r = some q) (st : Status) (res : Nat) (notRun : Bool) :
    ∃ (discard counted atOnce : Bool) (vec : Nat), endReq s r st res notRun =
      putEntry (retireReq s r q) q.ring q.chain st false counted atOnce vec q.wrote fun ver ph =>
        cqEntry ver q.d.tag st.code (phaseFlags ver ph notRun discard (q.spilled && st.ran) (q.flip && !notRun) false) q.idx
          (if notRun then 0 else res) := by
  simp only [endReq, h]
  exact ⟨_, _, _, _, rfl⟩

/-- Settles O25: the fields of the entry one by one, and the entry that `endReq` places. -/
theorem completionEntryHasItsLayout : Obligations.CompletionEntryHasItsLayout := by
  unfold Obligations.CompletionEntryHasItsLayout
  refine ⟨fun ver tag st flags idx res hs hf hr => ⟨length_cqEntry .., fun hv ht => cqEntry_fields idx hv ht hs hf hr, ?_⟩, ?_⟩
  · rintro rfl ht
    exact cqEntry_rp1_fields idx ht hs hf hr
  · intro r q st res notRun s h
    obtain ⟨discard, counted, atOnce, vec, he⟩ := endReq_putEntry h st res notRun
    refine ⟨fun ver ph => phaseFlags ver ph notRun discard (q.spilled && st.ran) (q.flip && !notRun) false,
      counted, atOnce, vec, he, fun ver ph => ⟨phaseFlags_lt .., ?_⟩⟩
    rintro rfl
    exact phaseFlags_rp1 ..

/-! ### The place of an entry in its ring -/

theorem rings_twf_of_canon {s : State} (h : canon s = true) : twf ({} : RingRec) s.rings = true := by
  simp only [canon, Bool.and_eq_true] at h
  tauto

/-- R19, R39: where the tables are canonical, entry number c goes to position c mod 2^k with the phase bit of its lap, as 16 bytes, over a
port of the region that ran the chain: the ring's record is read back as it was written. -/
theorem putEntry_of_alive {s : State} {n : Nat} (hc : canon s = true) (hd : (getRing s n).dead = false) (chain vec : Nat) (st : Status)
    (ff counted atOnce wrote : Bool) (entry : Nat → Bool → Bytes) :
    putEntry s n chain st ff counted atOnce vec wrote entry =
      submit (setRing s n { getRing s n with nextEnt := (getRing s n).nextEnt + 1 })
        { region := ((getChain s chain).map fun c => groupRegion s c.group).getD (getRing s n).region, wr := true
          addr := ringCfg s n 5 + 16 * ((getRing s n).nextEnt.toNat % ringSize s n), len := 16
          fn := (getRing s n).owner.getD 0, pasid := ringCfg s n 6
          data := entry (getRing s n).version (phaseBit (getRing s n).nextEnt (ringCfg s n 4))
          own := .cq n st counted atOnce chain ff vec wrote } := by
  have hr := fun r => getRing_setRing s n r (rings_twf_of_canon hc)
  have hg : ∀ r, getChain (setRing s n r) chain = getChain s chain := fun _ => rfl
  have hd' : ¬ (getRing s n).dead = true := by simp [hd]
  simp only [putEntry, if_neg hd', ringWho, hr, hg]
  cases getChain s chain <;> rfl

/-- R39: in a completion ring that is aligned to 16 bytes every entry is one beat. -/
theorem linesOf_entry {base : Nat} (h : base % 16 = 0) (i : Nat) : linesOf (base + 16 * i) 16 = 1 := by
  rw [linesOf, if_neg (by decide)]
  omega

/-- A state whose table of rings lists ring 16 twice, which `canon` rules out. The step from entry number FFFFFFFFh to number 0 leaves the
first record at its default, `tput` takes it out, and the second record, of region 1, shows behind it. -/
def ringListedTwice : State := { rings := [(16, { nextEnt := 0xFFFFFFFF }), (16, { region := 1 })] }

/-- Refutes O26, which is stated of every state: in `ringListedTwice` the ring's record lies in region 0, and `putEntry`, which reads the
region after it has counted the entry, sends it over region 1. In canonical states the statement holds (`putEntry_of_alive`,
`linesOf_entry`). -/
theorem not_completionEntriesAreWrittenInTurn : ¬ Obligations.CompletionEntriesAreWrittenInTurn := by
  unfold Obligations.CompletionEntriesAreWrittenInTurn
  intro h
  have hput := (h 16 0 0 .ok false false false false (fun _ _ => []) ringListedTwice).1 rfl
  have hregion := congrArg (fun t => t.bursts.map Burst.region) hput
  have actual : (putEntry ringListedTwice 16 0 .ok false false false 0 false fun _ _ => []).bursts.map Burst.region = [1] := by
    decide +kernel
  rw [actual] at hregion
  revert hregion
  decide +kernel

end Sys2Proof.RequestRings
end

section
/-!
SUPPORT. What every command ends with, and what holds of all commands: the invariant of the resets and the safe state, the queue, and the
test access port.
-/

namespace Sys2Proof.Steps

open Sys2Proof Sys2Proof.Machine Sys2Proof.Safety

/-- The commands that act on the resets, on the pins that the commander holds, or on the test access port; and the ends of NV commands, which
may close the test modes. -/
def touchesPort : Instr → Bool
  | .poRstNAssert | .poRstNRelease _ | .blkRstNAssert | .blkRstNRelease | .quiescence | .safeReq _
  | .tapReset | .extest | .samplePreload | .idcode | .clamp | .highz | .almanac _ | .debugRead _ | .wrapper _ | .bypass _
  | .nvCommandEnd _ _ | .nvTimeout => true
  | _ => false

/-- The host's answers on a data port. -/
def isAnswer : Instr → Bool
  | .readBeat _ _ _ _ _ | .writeResponse _ _ _ => true
  | _ => false

/-- Every command but an answer in reset ends as all do. -/
theorem exec_eq_fin (c : Instr) (s : State) (ha : isAnswer c = true → s.pins.poRstLow = false) : ∃ x, exec c s = fin x := by
  cases c
  case readBeat | writeResponse => exact ⟨_, if_neg (by simp [ha rfl])⟩
  all_goals exact ⟨_, rfl⟩

theorem exec_answer_in_reset (c : Instr) (s : State) (ha : isAnswer c = true) (h : s.pins.poRstLow = true) :
    exec c s = .fault .answerInReset := by
  cases c
  case readBeat | writeResponse => exact if_pos h
  all_goals exact Bool.noConfusion ha

/-- A command that answers a next state has ended as all do. -/
theorem fin_of_exec_next {c : Instr} {s t : State} (h : exec c s = .next t) : ∃ x, exec c s = fin x := by
  refine exec_eq_fin c s fun ha => ?_
  cases hp : s.pins.poRstLow
  · rfl
  · rw [exec_answer_in_reset c s ha hp] at h
    cases h

/-- Every other command ends as all do, from a state with the same queue, safe state, pins and test access port. -/
theorem exec_quiet (c : Instr) (s : State) (hp : touchesPort c = false) (ha : isAnswer c = true → s.pins.poRstLow = false) :
    ∃ x, exec c s = fin x ∧ quiet x = quiet s := by
  cases c
  case readBeat | writeResponse => exact ⟨_, if_neg (by simp [ha rfl]), by simp⟩
  case poRstNAssert | poRstNRelease | blkRstNAssert | blkRstNRelease | quiescence | safeReq | tapReset | extest | samplePreload | idcode
      | clamp | highz | almanac | debugRead | wrapper | bypass | nvCommandEnd | nvTimeout => exact Bool.noConfusion hp
  all_goals
    refine ⟨_, rfl, ?_⟩
    simp

/-- Settles O1. -/
theorem stepTakesTheFrontCommand : Obligations.StepTakesTheFrontCommand := by
  unfold Obligations.StepTakesTheFrontCommand
  intro c rest s h
  simp only [step, h]

/-- Settles O5: a command that is no answer ends as all do, and an answer does while PO_RST_N is high. -/
theorem everyCommandAnswersButAnswersInReset : Obligations.EveryCommandAnswersButAnswersInReset := by
  unfold Obligations.EveryCommandAnswersButAnswersInReset
  have next : ∀ (c : Instr) (s : State), (isAnswer c = true → s.pins.poRstLow = false) → ∃ t, exec c s = .next t := by
    intro c s ha
    obtain ⟨x, hx⟩ := exec_eq_fin c s ha
    exact ⟨_, hx⟩
  intro c s
  refine ⟨fun h => next c s fun _ => h, fun h => ?_⟩
  cases c
  case readBeat | writeResponse => exact exec_answer_in_reset _ s rfl h
  all_goals exact next _ s fun ha => Bool.noConfusion ha

/-! ### The invariant of every step -/

theorem poImage_idem (s : State) : poImage (poImage s) = poImage s := rfl

/-- Whatever a command has done, what it ends with imposes the invariant. -/
theorem inv_settle_collect (x : State) : Inv (settle (collect x)) := by
  have hr : (collect x).raised = [] := collect_raised x
  generalize collect x = y at hr ⊢
  obtain ⟨hp, e⟩ | ⟨hp, hb, hs, e⟩ | ⟨hp, hb, hs, e⟩ | ⟨hp, hb, hs, e⟩ | ⟨hp, hb, hs, e⟩ := settle_cases y <;> rw [e]
  · refine ⟨fun _ => rfl, ⟨rfl, rfl⟩, fun h => ?_, fun h => Bool.noConfusion h, rfl⟩
    exact Bool.noConfusion (hp.symm.trans h)
  all_goals
    refine ⟨fun h => Bool.noConfusion (hp.symm.trans h), ⟨rfl, rfl⟩, fun _ h => ?_, fun h => ?_, hr⟩
  · exact ⟨rfl, rfl, rfl, fun b h => absurd h List.not_mem_nil, rfl, rfl⟩
  · exact ⟨rfl, rfl, rfl, rfl, rfl⟩
  · exact ⟨rfl, rfl, rfl, fun b hb => (List.mem_filter.1 hb).2, rfl, rfl⟩
  · exact Bool.noConfusion (hs.symm.trans h)
  · exact Bool.noConfusion (hb.symm.trans h)
  · exact ⟨rfl, rfl, rfl, rfl, rfl⟩
  · exact Bool.noConfusion (hb.symm.trans h)
  · exact Bool.noConfusion (hs.symm.trans h)

/-- Settles O3. -/
theorem resetStateMeetsTheInvariant : Obligations.ResetStateMeetsTheInvariant := by
  unfold Obligations.ResetStateMeetsTheInvariant
  exact ⟨fun _ => rfl, ⟨rfl, rfl⟩, fun h => Bool.noConfusion h, fun h => Bool.noConfusion h, rfl⟩

/-- Settles O4: every command and the idle step end with `settle`, which imposes the invariant on any state. -/
theorem everyStepKeepsTheInvariant : Obligations.EveryStepKeepsTheInvariant := by
  unfold Obligations.EveryStepKeepsTheInvariant
  intro s t _ h
  cases hs : s.pending with
  | nil =>
    simp only [step, hs, Host.Outcome.next.injEq] at h
    exact h ▸ inv_settle_collect _
  | cons c rest =>
    rw [stepTakesTheFrontCommand c rest s hs] at h
    obtain ⟨x, hx⟩ := fin_of_exec_next h
    rw [hx, fin, Host.Outcome.next.injEq] at h
    exact h ▸ inv_settle_collect x

/-! ### The safe state, the queue and the test access port -/

theorem poRstLow_of_quiet {s t : State} (h : quiet t = quiet s) : t.pins.poRstLow = s.pins.poRstLow := by
  simp only [quiet, Prod.mk.injEq, Pins.mk.injEq] at h
  exact h.2.2.1.1

theorem tap_of_quiet {s t : State} (h : quiet t = quiet s) : t.tap = s.tap := by
  simp only [quiet, Prod.mk.injEq] at h
  exact h.2.2.2

theorem pending_of_quiet {s t : State} (h : quiet t = quiet s) : t.pending = s.pending := pending_of_kept (kept_of_quiet h)

/-- What the frame statements say of the state that a command ends from: the queue is as it was, the safe state is not left, and no
power-on reset begins. -/
def Framed (s x : State) : Prop :=
  x.pending = s.pending ∧ (s.pins.poRstLow = false → x.pins.poRstLow = false ∧ x.safe = s.safe)

theorem framed_of_quiet {s x y : State} (h : quiet x = quiet y) (f : Framed s y) : Framed s x :=
  ⟨(pending_of_quiet h).trans f.1, fun hp => ⟨(poRstLow_of_quiet h).trans (f.2 hp).1, (safe_of_quiet h).trans (f.2 hp).2⟩⟩

theorem framed_self (s : State) : Framed s s := ⟨rfl, fun h => ⟨h, rfl⟩⟩

theorem framed_of_fields {s x : State} (h1 : x.pending = s.pending) (h2 : x.pins = s.pins) (h3 : x.safe = s.safe) : Framed s x :=
  ⟨h1, fun hp => ⟨h2 ▸ hp, h3⟩⟩

theorem framed_trans {s x y : State} (f : Framed s x) (g : Framed x y) : Framed s y :=
  ⟨g.1.trans f.1, fun hp => ⟨(g.2 (f.2 hp).1).1, (g.2 (f.2 hp).1).2.trans (f.2 hp).2⟩⟩

theorem framed_ite {s a b : State} {c : Prop} [Decidable c] (ha : Framed s a) (hb : Framed s b) : Framed s (if c then a else b) := by
  split <;> assumption

theorem framed_wrapperShut (s : State) : Framed s (wrapperShut s) := framed_self s

theorem framed_poRelease (sel : BitVec 2) (s : State) : Framed s (poRelease sel s) := by
  unfold poRelease
  split
  · exact framed_self s
  · next h =>
    refine framed_of_quiet ((quiet_tryBegin _).trans (quiet_heldInputs _)) ⟨rfl, fun hp => ?_⟩
    simp [hp] at h

theorem framed_blkRelease (s : State) : Framed s (blkRelease s) := by
  unfold blkRelease
  refine framed_ite (framed_self s) (framed_ite (framed_self s) (framed_of_quiet (quiet_tryBegin _) ?_))
  exact framed_ite (framed_self s) (framed_self s)

theorem framed_quiescence (s : State) : Framed s (quiescence s) :=
  framed_ite (framed_self s) (framed_of_quiet (quiet_tryBegin _) (framed_self s))

theorem framed_safeReqPin (held : Bool) (s : State) : Framed s (safeReqPin held s) :=
  framed_ite (framed_self s) (framed_self s)

theorem framed_tapDrive (i : TapInstr) (s : State) : Framed s (tapDrive i s) := framed_ite (framed_self s) (framed_self s)

theorem framed_bypass (code : BitVec 8) (s : State) : Framed s (bypass code s) := framed_ite (framed_self s) (framed_self s)

theorem framed_dbgComplete (s : State) : Framed s (dbgComplete s) := framed_ite (framed_self s) (framed_self s)

theorem framed_dbgWord (s : State) (w : Nat) : Framed s (dbgWord s w) := framed_of_fields rfl rfl rfl

theorem framed_dbgCapture (s : State) : Framed s (dbgCapture s) := framed_of_fields rfl rfl rfl

theorem framed_almanacScan (word : BitVec 33) (s : State) : Framed s (almanacScan word s) := by
  have hsel : Framed s (tapSelect s .almanac) := framed_of_fields rfl rfl rfl
  have hcap := framed_trans hsel (framed_dbgCapture _)
  unfold almanacScan
  refine framed_ite (framed_of_fields rfl rfl rfl) (framed_trans (framed_ite ?_ hcap) (framed_dbgComplete _))
  exact framed_trans hcap (framed_dbgWord ..)

theorem framed_factoryTest (s : State) : Framed s (factoryTest s) := by
  unfold factoryTest
  refine framed_of_quiet (((quiet_bringWatch _).trans (quiet_pumpAll _)).trans (quiet_foldl _ (fun s r => quiet_killStep s r _) _ _)) ?_
  exact framed_self s

theorem framed_wrapperSelect (b : Bool) (s : State) : Framed s (wrapperSelect b s) :=
  framed_ite (framed_trans (framed_self s) (framed_factoryTest _)) (framed_self s)

theorem framed_nv {s x : State} (h : quiet x = quiet s ∨ quiet x = quiet (wrapperShut s)) : Framed s x :=
  h.elim (fun e => framed_of_quiet e (framed_self s)) fun e => framed_of_quiet e (framed_wrapperShut s)

/-- All commands but the assertions of the two block resets keep the queue and do not leave the safe state. -/
theorem exec_framed (c : Instr) (s : State) (ha : isAnswer c = true → s.pins.poRstLow = false) (h1 : c ≠ .poRstNAssert)
    (h2 : c ≠ .blkRstNAssert) : ∃ x, exec c s = fin x ∧ Framed s x := by
  cases hp : touchesPort c
  · obtain ⟨x, hx, hq⟩ := exec_quiet c s hp ha
    exact ⟨x, hx, framed_of_quiet hq (framed_self s)⟩
  · cases c
    case poRstNAssert => exact absurd rfl h1
    case blkRstNAssert => exact absurd rfl h2
    case poRstNRelease => exact ⟨_, rfl, framed_poRelease ..⟩
    case blkRstNRelease => exact ⟨_, rfl, framed_blkRelease ..⟩
    case quiescence => exact ⟨_, rfl, framed_quiescence ..⟩
    case safeReq => exact ⟨_, rfl, framed_safeReqPin ..⟩
    case extest | clamp | highz => exact ⟨_, rfl, framed_tapDrive ..⟩
    case tapReset | samplePreload | idcode | debugRead => exact ⟨_, rfl, framed_self s⟩
    case bypass => exact ⟨_, rfl, framed_bypass ..⟩
    case almanac => exact ⟨_, rfl, framed_almanacScan ..⟩
    case wrapper => exact ⟨_, rfl, framed_wrapperSelect ..⟩
    case nvCommandEnd => exact ⟨_, rfl, framed_nv (quiet_nvCommandEnd ..)⟩
    case nvTimeout => exact ⟨_, rfl, framed_nv (quiet_nvTimeout s)⟩
    all_goals exact Bool.noConfusion hp

theorem poRstLow_of_kept {s t : State} (h : Machine.kept t = Machine.kept s) : t.pins.poRstLow = s.pins.poRstLow := by
  simp only [Machine.kept, Prod.mk.injEq, Pins.mk.injEq] at h
  exact h.2.1.1

/-- Settles O12: what the command ends from is in the safe state (`exec_framed`), and the collector and `settle` do not leave it. -/
theorem safeStateEndsOnlyByABlockReset : Obligations.SafeStateEndsOnlyByABlockReset := by
  unfold Obligations.SafeStateEndsOnlyByABlockReset
  intro c s t hs hp h h1 h2
  obtain ⟨x, hx, -, f⟩ := exec_framed c s (fun _ => hp) h1 h2
  obtain ⟨hxp, hxs⟩ := f hp
  obtain ⟨hk, hsafe⟩ := collect_kept x
  rw [hx, fin, Host.Outcome.next.injEq] at h
  rw [← h, settle_safe _ ((poRstLow_of_kept hk).trans hxp)]
  exact hsafe (hxs.trans hs)

theorem settle_tap (s : State) (h : s.pins.poRstLow = false) : (settle s).tap = s.tap := by
  obtain ⟨hp, -⟩ | ⟨-, -, -, e⟩ | ⟨-, -, -, e⟩ | ⟨-, -, -, e⟩ | ⟨-, -, -, e⟩ := settle_cases s
  · exact Bool.noConfusion (hp.symm.trans h)
  all_goals rw [e]; rfl

/-- Where PO_RST_N stays high the test access port is as the command left it. -/
theorem tap_settle_collect (x : State) (h : x.pins.poRstLow = false) : (settle (collect x)).tap = x.tap := by
  obtain ⟨hk, -⟩ := collect_kept x
  rw [settle_tap _ ((poRstLow_of_kept hk).trans h)]
  simp only [Machine.kept, Prod.mk.injEq] at hk
  exact hk.2.2

theorem tap_safeReqPin (held : Bool) (s : State) : (safeReqPin held s).tap = s.tap := by
  unfold safeReqPin
  split <;> rfl

theorem tap_blkRelease (s : State) : (blkRelease s).tap = s.tap := by
  unfold blkRelease
  split
  · rfl
  · split
    · rfl
    · exact (tap_of_quiet (quiet_tryBegin _)).trans (by split <;> rfl)

theorem tap_quiescence (s : State) : (quiescence s).tap = s.tap := by
  unfold quiescence
  split
  · rfl
  · exact (tap_of_quiet (quiet_tryBegin _)).trans rfl

theorem tap_poRelease_high (sel : BitVec 2) (s : State) (h : s.pins.poRstLow = false) : poRelease sel s = s := by
  simp [poRelease, h]

theorem tap_nv {s x : State} (h : quiet x = quiet s ∨ quiet x = quiet (wrapperShut s)) :
    x.tap = s.tap ∨ x.tap = { s.tap with wrapper := false, wso := false } :=
  h.imp tap_of_quiet tap_of_quiet

theorem exec_poRstNAssert (s : State) : exec .poRstNAssert s = fin (poAssert s) := rfl

theorem exec_blkRstNAssert (s : State) : exec .blkRstNAssert s = fin (blkAssert s) := rfl

theorem blkAssert_pending (s : State) : (blkAssert s).pending = s.pending := by
  unfold blkAssert
  split
  · rfl
  · split
    · rfl
    · dsimp only
      exact warmReset_pending s

/-- No command touches the queue. -/
theorem exec_pending {c : Instr} {s t : State} (h : exec c s = .next t) : t.pending = s.pending := by
  have ends : ∀ x : State, exec c s = fin x → x.pending = s.pending → t.pending = s.pending := by
    intro x hx hq
    rw [hx, fin, Host.Outcome.next.injEq] at h
    rw [← h, settle_pending, collect_pending, hq]
  by_cases h1 : c = .poRstNAssert
  · subst h1
    exact ends _ (exec_poRstNAssert s) rfl
  by_cases h2 : c = .blkRstNAssert
  · subst h2
    exact ends _ (exec_blkRstNAssert s) (blkAssert_pending s)
  obtain ⟨x, hx, hq, -⟩ := exec_framed c s (fun ha => by
    cases hp : s.pins.poRstLow
    · rfl
    · rw [exec_answer_in_reset c s ha hp] at h
      cases h) h1 h2
  exact ends x hx hq

/-- Settles O13: the queue by `exec_pending`; the port by what each command leaves of it. -/
theorem queueAndTestPortAreLeftAlone : Obligations.QueueAndTestPortAreLeftAlone := by
  unfold Obligations.QueueAndTestPortAreLeftAlone
  intro c s t h
  refine ⟨exec_pending h, fun hp => ?_⟩
  have ends : ∀ x : State, exec c s = fin x → x.pins.poRstLow = false → t.tap = x.tap := by
    intro x hx hxp
    rw [hx, fin, Host.Outcome.next.injEq] at h
    rw [← h, tap_settle_collect x hxp]
  cases ht : touchesPort c
  · obtain ⟨x, hx, hq⟩ := exec_quiet c s ht fun _ => hp
    have := (ends x hx ((poRstLow_of_quiet hq).trans hp)).trans (tap_of_quiet hq)
    cases c
    case poRstNAssert | poRstNRelease | blkRstNAssert | blkRstNRelease | quiescence | safeReq | tapReset | extest | samplePreload | idcode
        | clamp | highz | almanac | debugRead | wrapper | bypass | nvCommandEnd | nvTimeout => exact Bool.noConfusion ht
    all_goals exact this
  · cases c
    case poRstNAssert | blkRstNAssert | tapReset | extest | samplePreload | idcode | clamp | highz | almanac | debugRead | wrapper | bypass =>
      trivial
    case poRstNRelease sel =>
      rw [ends _ rfl ((framed_poRelease sel s).2 hp).1, tap_poRelease_high sel s hp]
    case blkRstNRelease => rw [ends _ rfl ((framed_blkRelease s).2 hp).1, tap_blkRelease]
    case quiescence => rw [ends _ rfl ((framed_quiescence s).2 hp).1, tap_quiescence]
    case safeReq held => rw [ends _ rfl ((framed_safeReqPin held s).2 hp).1, tap_safeReqPin]
    case nvCommandEnd w err =>
      have hq := quiet_nvCommandEnd w err s
      rw [ends _ rfl ((framed_nv hq).2 hp).1]
      exact tap_nv hq
    case nvTimeout =>
      have hq := quiet_nvTimeout s
      rw [ends _ rfl ((framed_nv hq).2 hp).1]
      exact tap_nv hq
    all_goals exact Bool.noConfusion ht

end Sys2Proof.Steps
end

section
/-!
SUPPORT. The message of an entry to the safe state where a RESTORE of function 0 is cut: the statements that promise it on the EVENT_VECTOR
from before do not hold there.
-/

namespace Sys2Proof.CutRestore

open Sys2Proof Sys2Proof.Machine Sys2Proof.Safety

/-- An update that would bring function 0 by a RESTORE, and gives back EVENT_VECTOR 5 where it is cut (R263). No command queues it, but the
statements speak of every state. -/
def restoral : VUpd :=
  { ops := [.restore 0 { key := [], res := 0, held := 0, ses := ⟨[], [], [], [], []⟩, was := ⟨[], [], [], [], []⟩
                         cfg := [(256 * 0x4000 + 0x19, 5)], slots := [] }] }

/-- The update waits, and a source has severity SAFE. -/
def restoring (s : State) (src : Nat) : State :=
  { s with vault := { s.vault with updates := [restoral] }, cfg := tput (sevDflt src) s.cfg (256 * 0x3100 + src) 3 }

/-- The block's own message stands on the EVENT_VECTOR of function 0 that `s` has (R329). -/
def showsEvent (s t : State) : Bool := t.irq.any fun m => decide (m.fn = 0 ∧ m.vec = eventVector s) && m.own

theorem showsEvent_of_entered {src : Nat} {s t : State} (h : Entered src s t) : showsEvent s t = true := by
  unfold Entered at h
  tauto

/-- Without that message the command has not led to the safe state as `Entered` says. -/
theorem not_entered {c : Instr} {src : Nat} {s x : State} (hx : showsEvent x (Tests.after c s) = false) :
    ¬ ∃ t, exec c s = .next t ∧ Entered src x t := by
  rintro ⟨t, ht, he⟩
  have e : Tests.after c s = t := by rw [Tests.after, ht]
  rw [e, showsEvent_of_entered he] at hx
  exact Bool.noConfusion hx

/-- Refutes O11: at the loss of the core supply the cut RESTORE gives function 0 another EVENT_VECTOR, and the message of the safe state
stands there. -/
theorem not_entriesToTheSafeState : ¬ Obligations.EntriesToTheSafeState := by
  unfold Obligations.EntriesToTheSafeState
  intro h
  exact not_entered (by decide +kernel) ((h.1 (restoring Tests.work 513) (by decide +kernel)).2.1 (by decide +kernel))

/-- Refutes O14, by source 513. -/
theorem not_collectorReactsBySeverity : ¬ Obligations.CollectorReactsBySeverity := by
  unfold Obligations.CollectorReactsBySeverity
  intro h
  obtain ⟨-, hsrc⟩ := h.1 513 (restoring Tests.work 513) (by decide +kernel)
  obtain ⟨-, -, hsafe⟩ := hsrc (by decide) (by decide) (by decide)
  exact not_entered (by decide +kernel) (hsafe (by decide +kernel))

/-- Refutes O15, by the corrected-error source of hash lane 0 with severity SAFE. -/
theorem not_unitSourcesReactBySeverity : ¬ Obligations.UnitSourcesReactBySeverity := by
  unfold Obligations.UnitSourcesReactBySeverity
  intro h
  obtain ⟨-, -, -, -, -, -, -, hreact⟩ :=
    h (unitAt .hash 0) 0 (restoring Tests.work 256) (by decide +kernel) (by decide +kernel) (by decide) (by decide)
  obtain ⟨-, -, hsafe, -⟩ := hreact (by decide +kernel) (by decide +kernel) (by decide) (by decide) (by decide +kernel)
  exact not_entered (by decide +kernel) (hsafe (by decide +kernel))

/-- A read is outstanding on port 0. -/
def readingState : State :=
  restoring { Tests.work with txns := [{ port := 0, tag := 0, wr := false, addr := 0, len := 16, fn := 0, pasid := 0 }] } 355

/-- Refutes O28, by a timeout of a port whose source leads to the safe state. -/
theorem not_timeoutsStrayAndLateAnswers : ¬ Obligations.TimeoutsStrayAndLateAnswers := by
  unfold Obligations.TimeoutsStrayAndLateAnswers
  intro h
  obtain ⟨-, hsafe, -⟩ := h.1 0 0 { port := 0, tag := 0, wr := false, addr := 0, len := 16, fn := 0, pasid := 0 } readingState
    (by decide +kernel) (by decide) (by decide +kernel) rfl
  exact not_entered (by decide +kernel) (hsafe rfl (by decide +kernel))

/-- A step that waits at a neighbour. -/
def neighbourReq (p : Phase) : Req := { ring := 16, fn := 1, ver := 3, phase := p, token := some 0 }

def neighbourState (p : Phase) (src : Nat) : State := restoring { Tests.work with reqs := [(1, some (neighbourReq p))] } src

/-- Refutes O42, by the timeout of a peer job whose source leads to the safe state. -/
theorem not_peerStepsClaimOfferAndTimeOut : ¬ Obligations.PeerStepsClaimOfferAndTimeOut := by
  unfold Obligations.PeerStepsClaimOfferAndTimeOut
  intro h
  obtain ⟨-, -, -, -, htimeout, -⟩ := h 1 (neighbourReq .peer) (neighbourState .peer 501) (by decide +kernel)
  exact not_entered (by decide +kernel) ((htimeout 0 rfl rfl rfl).2 (by decide +kernel))

/-- Refutes O43, by the timeout of a query whose source leads to the safe state. -/
theorem not_lookupAnswersResolveOrFail : ¬ Obligations.LookupAnswersResolveOrFail := by
  unfold Obligations.LookupAnswersResolveOrFail
  intro h
  obtain ⟨-, -, -, htimeout⟩ := h 0 0 { qid := 0, req := 1 } (neighbourReq .lookup) (neighbourState .lookup 500) (by decide +kernel)
  exact not_entered (by decide +kernel) ((htimeout 1 rfl rfl rfl).2.1 (by decide +kernel))

/-- The generator of lane 0 is in its grace. -/
def graceState : State := restoring { Tests.work with gens := [(0, { grace := true })] } 131

/-- Refutes O47, by the end of the grace of a lane whose source leads to the safe state. -/
theorem not_reserveServesThePrivateWires : ¬ Obligations.ReserveServesThePrivateWires := by
  unfold Obligations.ReserveServesThePrivateWires
  intro h
  obtain ⟨-, -, -, -, -, -, hgrace, -⟩ := h graceState (by decide +kernel)
  exact not_entered (by decide +kernel) ((hgrace 0 (by decide) (by decide +kernel)).2 (by decide +kernel))

/-- Refutes O52, by SAFE_COMMAND. -/
theorem not_almanacWritesTakeEffect : ¬ Obligations.AlmanacWritesTakeEffect := by
  unfold Obligations.AlmanacWritesTakeEffect
  intro h
  let m := Tests.clearOf 0x3000 0x1C 1
  have served : Served (restoring Tests.work 515) m := by
    refine ⟨by decide +kernel, by decide +kernel, by decide +kernel⟩
  obtain ⟨e, he⟩ : ∃ e, entryAt m.index m.sub = some e := Option.isSome_iff_exists.1 (by decide +kernel)
  obtain ⟨-, -, -, -, -, hsafe, -⟩ := h.1 m e (restoring Tests.work 515) served he
  exact not_entered (by decide +kernel)
    ((hsafe (.safeCommand m) (by simp) (by decide +kernel)).1 (by decide +kernel) (by decide +kernel))

end Sys2Proof.CutRestore
end

section
/-!
SUPPORT. The resets and bring-up.
-/

namespace Sys2Proof.Bring

open Sys2Proof Sys2Proof.Machine Sys2Proof.Safety

/-! ### What ends a command that an awake state takes quietly -/

/-- A command that leaves the pins, the safe state and the raised sources of an awake state alone ends as it stands. -/
theorem fin_of_fields {s t : State} (h : awake s = true) (hp : t.pins = s.pins) (hs : t.safe = s.safe) (hr : t.raised = s.raised) :
    fin t = .next t := by
  refine fin_of_awake t ?_
  rw [awake_spec] at h ⊢
  rwa [hp, hs, hr]

theorem atWork_spec {s : State} (h : atWork s = true) : awake s = true ∧ coreUp s = true := by
  simpa [atWork] using h

/-- Settles O6. -/
theorem powerOnResetTakesHold : Obligations.PowerOnResetTakesHold := by
  unfold Obligations.PowerOnResetTakesHold
  intro s h
  have hr : (poAssert s).raised = [] := h
  rw [Steps.exec_poRstNAssert, fin_of_quiet _ hr, settle_poLow _ rfl]
  rfl

/-! ### Entries to the safe state -/

/-- What no step of a fold changes. -/
theorem foldl_field {α β : Type} (p : State → β) (g : State → α → State) (h : ∀ s a, p (g s a) = p s) (l : List α) (s : State) :
    p (l.foldl g s) = p s := by
  induction l generalizing s with
  | nil => rfl
  | cons a l ih => rw [List.foldl_cons, ih, h]

/-- What an entry to the safe state leaves alone. -/
def calm (s : State) : Bringup × Rng × List Nat := (s.bring, s.rng, s.raised)

theorem calm_raiseMsg (s : State) (fn vec : Nat) (own : Bool) : calm (raiseMsg s fn vec own) = calm s := by
  unfold raiseMsg
  split <;> rfl

theorem calm_withdraw (s : State) (p : IrqMsg → Bool) : calm (withdraw s p) = calm s := by
  unfold withdraw
  split <;> rfl

theorem calm_withdrawAll (s : State) : calm (withdrawAll s) = calm s := by
  unfold withdrawAll
  exact (foldl_field calm (fun s f => modFn s f _) (fun _ _ => rfl) _ _).trans (calm_withdraw s _)

theorem dropUpds_of_none {s : State} (h : s.vault.updates = []) (p : VUpd → Bool) : dropUpds s p = s := by
  simp [dropUpds, unpickAll, puttingSlots, h]

/-- With no update waiting, the entry leaves bring-up and the RNG alone and sets no source. -/
theorem calm_enterSafe {s : State} (hs : s.safe = false) (h : s.vault.updates = []) : calm (enterSafe s) = calm s := by
  rw [enterSafe, if_neg (by simp [hs])]
  dsimp only
  rw [raiseOwn, calm_raiseMsg, calm_withdrawAll, dropUpds_of_none]
  · simp only [calm, eraseKeys, noteUnnamed, disown]
    refine (foldl_field calm _ ?_ _ _).trans (foldl_field calm _ ?_ _ _)
    · exact fun _ _ => rfl
    · exact fun _ _ => rfl
  · exact ((foldl_field (fun s => s.vault.updates) (fun s c => modChan s c _) (fun _ _ => rfl) _ _).trans
      (foldl_field (fun s => s.vault.updates) (fun s n => modRing s n _) (fun _ _ => rfl) _ _)).trans h

/-- The reaction to a fatal source of severity SAFE does not depend on the regime. -/
theorem reaction_safe {s : State} {src : Nat} (hu : sourceUnit src = none) (hc : fixedClass src = 2) (hv : severity s src = 3) :
    reactionOf s src = .safe := by
  simp only [reactionOf, hu, hc, hv]
  split <;> rfl

/-- A source of the block's own that leads to the safe state. -/
theorem setSource_safe {s : State} {src : Nat} {l : List Nat} (hlt : src < 521) (hu : sourceUnit src = none) (hs : s.safe = false)
    (hre : reactionOf s src = .safe) : setSource l s src = enterSafe { s with sticky := s.sticky ||| BitVec.ofNat 768 (2 ^ src) } := by
  unfold setSource
  rw [if_neg (by omega)]
  simp only [hre, hu, probeFenced]
  rw [if_neg (by simp [hs])]

theorem collectN_of_none {s : State} (n : Nat) (h : s.raised = []) : collectN n s = s := by
  cases n with
  | zero =>
    show { s with raised := [] } = s
    rw [← h]
  | succ n => simp [collectN, h]

theorem collectN_of_raised {s : State} {l : List Nat} (n : Nat) (h : s.raised = l) (hl : l ≠ []) :
    collectN (n + 1) s = collectN n ((ordered s l).foldl (setSource l) { s with raised := [] }) := by
  rw [collectN, if_neg (by simp [h, hl]), h]

/-- The collector's reaction to one source of the block's own that leads to the safe state. -/
theorem collect_single_safe {s : State} {src : Nat} (hr : s.raised = [src]) (hlt : src < 521) (hu : sourceUnit src = none)
    (hs : s.safe = false) (hupd : s.vault.updates = []) (hre : reactionOf s src = .safe) :
    collect s = enterSafe { s with raised := [], sticky := s.sticky ||| BitVec.ofNat 768 (2 ^ src) } := by
  have hset : setSource [src] { s with raised := [] } src = enterSafe { s with raised := [], sticky := s.sticky ||| BitVec.ofNat 768 (2 ^ src) } :=
    setSource_safe (l := [src]) (s := { s with raised := [] }) hlt hu hs hre
  have hraised : (enterSafe { s with raised := [], sticky := s.sticky ||| BitVec.ofNat 768 (2 ^ src) }).raised = [] := by
    have h := calm_enterSafe (s := { s with raised := [], sticky := s.sticky ||| BitVec.ofNat 768 (2 ^ src) }) hs hupd
    simp only [calm, Prod.mk.injEq] at h
    exact h.2.2
  have hord : ordered s [src] = [src] := by simp [ordered, hlt, hre]
  rw [collect, collectN_of_raised (l := [src]) 7 hr (by simp), hord, List.foldl_cons, List.foldl_nil, hset, collectN_of_none 7 hraised]

/-! ### Advent begins -/

theorem foldl_modUnit_eq (l : List Nat) (g : UnitRec → UnitRec) (s : State) :
    ∃ u, l.foldl (fun s u => modUnit s u g) s = { s with units := u } := by
  induction l generalizing s with
  | nil => exact ⟨s.units, rfl⟩
  | cons a l ih =>
    obtain ⟨u, hu⟩ := ih (modUnit s a g)
    exact ⟨u, hu⟩

/-- Step 1 of Advent changes the RNG and the clock gates of the noise sources alone. -/
theorem adventBegin_eq (s : State) (b : Bool) : ∃ u r, adventBegin s b = { s with units := u, rng := r } ∧
    r.state = .advent ∧ r.step = .settle ∧ r.advents = s.rng.advents + 1 := by
  obtain ⟨u, hu⟩ := foldl_modUnit_eq ((List.range 8).map (unitAt .ns)) (fun r => { r with gated := false }) s
  rw [adventBegin, hu]
  exact ⟨u, _, rfl, rfl, rfl, rfl⟩

/-- Advent has begun from `s` and bring-up with it (R191, R304). -/
def Begun (s t : State) : Prop :=
  t.bring.begun = true ∧ t.rng.state = .advent ∧ t.rng.step = .settle ∧ t.rng.advents = s.rng.advents + 1

/-- Bring-up begins where both resets are released and the block is quiescent. -/
theorem tryBegin_begun {s : State} (h1 : s.pins.poRstLow = false) (h2 : s.pins.blkRstLow = false) (h3 : s.pins.quiescent = true)
    (h4 : s.bring.begun = false) : Begun s (tryBegin s) := by
  obtain ⟨u, r, e, hr⟩ := adventBegin_eq { s with bring := { s.bring with begun := true } } false
  rw [tryBegin, if_neg (by simp [h1, h2, h3, h4]), e]
  exact ⟨rfl, hr⟩

theorem tryBegin_of_held {s : State} (h : s.pins.blkRstLow = true ∨ s.pins.quiescent = false) : tryBegin s = s := by
  rw [tryBegin, if_pos]
  rcases h with h | h <;> simp [h]

theorem tryBegin_frame (s : State) : (tryBegin s).pins = s.pins ∧ (tryBegin s).safe = s.safe ∧ (tryBegin s).raised = s.raised ∧
    (tryBegin s).cfg = s.cfg ∧ (tryBegin s).sticky = s.sticky ∧ (tryBegin s).vault = s.vault := by
  unfold tryBegin
  split
  · exact ⟨rfl, rfl, rfl, rfl, rfl, rfl⟩
  · obtain ⟨u, r, e, -⟩ := adventBegin_eq { s with bring := { s.bring with begun := true } } false
    rw [e]
    exact ⟨rfl, rfl, rfl, rfl, rfl, rfl⟩

/-! ### The releases -/

theorem settle_frame {s : State} (h : s.pins.poRstLow = false) :
    (settle s).bring = s.bring ∧ (settle s).rng = s.rng ∧ (settle s).safe = s.safe ∧ (settle s).cfg = s.cfg ∧
      (settle s).sticky = s.sticky ∧ (settle s).pins = { s.pins with fatal := s.safe, safeAck := s.safe } := by
  obtain ⟨hp, -⟩ | ⟨-, -, -, e⟩ | ⟨-, -, -, e⟩ | ⟨-, -, -, e⟩ | ⟨-, -, -, e⟩ := settle_cases s
  · exact Bool.noConfusion (hp.symm.trans h)
  all_goals rw [e]; exact ⟨rfl, rfl, rfl, rfl, rfl, rfl⟩

/-- A block that SAFE_REQ holds: source 514 leads it to the safe state whatever has begun by then (R328). -/
theorem settle_collect_safeReq {s : State} (h1 : s.pins.poRstLow = false) (h2 : s.safe = false) (h3 : s.raised = [514])
    (h4 : severity s 514 = 3) (h5 : s.vault.updates = []) : ∃ t, settle (collect s) = t ∧ t.safe = true ∧ t.bring = s.bring ∧
      t.rng = s.rng ∧ t.pins.poRstLow = false ∧ t.pins.refSel = s.pins.refSel ∧ t.pins.cycles = s.pins.cycles ∧ t.pins.fatal = true := by
  refine ⟨_, rfl, ?_⟩
  rw [collect_single_safe h3 (by decide) rfl h2 h5 (reaction_safe rfl rfl h4)]
  generalize hy : ({ s with raised := [], sticky := s.sticky ||| BitVec.ofNat 768 (2 ^ 514) } : State) = y
  have hs : y.safe = false := by rw [← hy]; exact h2
  have hb := calm_enterSafe hs (by rw [← hy]; exact h5)
  obtain ⟨hk, hsafe⟩ := enterSafe_kept y
  have hp := Steps.poRstLow_of_kept hk
  have hyp : y.pins = s.pins := by rw [← hy]
  obtain ⟨fb, fr, fs, -, -, fp⟩ := settle_frame (hp.trans (hyp ▸ h1))
  simp only [calm, Prod.mk.injEq] at hb
  simp only [Machine.kept, Prod.mk.injEq, Pins.mk.injEq] at hk
  obtain ⟨-, ⟨hpo, -, -, hsel, -, -, -, -, hcyc, -⟩, -⟩ := hk
  refine ⟨fs.trans hsafe, ?_, ?_, ?_, ?_, ?_, ?_⟩
  · rw [fb, hb.1, ← hy]
  · rw [fr, hb.2.1, ← hy]
  · rw [fp]; exact hpo.trans (hyp ▸ h1)
  · rw [fp]; exact hsel.trans (by rw [hyp])
  · rw [fp]; exact hcyc.trans (by rw [hyp])
  · rw [fp]; exact hsafe

theorem exec_poRstNRelease (sel : BitVec 2) (s : State) : exec (.poRstNRelease sel) s = .next (settle (collect (poRelease sel s))) := rfl

theorem exec_blkRstNRelease (s : State) : exec .blkRstNRelease s = .next (settle (collect (blkRelease s))) := rfl

theorem exec_quiescence (s : State) : exec .quiescence s = .next (settle (collect (quiescence s))) := rfl

/-- A block that PO_RST_N holds, no alarm input asserted, at the pin's release. -/
theorem poRelease_of_image {s : State} (sel : BitVec 2) (h : s = poImage s) (ha : s.alarms.asserted = []) (hp : s.pins.poRstLow = true) :
    ∃ y : State, poRelease sel s = tryBegin (if s.pins.safeReq then raiseSrc y 514 else y) ∧
      y.pins = { s.pins with poRstLow := false, refSel := sel, cycles := 0, resetAt := 0 } ∧
      y.safe = false ∧ y.raised = [] ∧ y.cfg = [] ∧ y.vault.updates = [] ∧ y.bring.begun = false ∧ y.rng.advents = 0 ∧
      y.pins.quiescent = true ∧ y.pins.fatal = false := by
  refine ⟨{ s with pins := { s.pins with poRstLow := false, refSel := sel, cycles := 0, resetAt := 0 } }, ?_, rfl, ?_⟩
  · rw [poRelease, if_neg (by simp [hp])]
    simp only [heldInputs, ha, List.foldl_nil]
  · rw [h]
    exact ⟨rfl, rfl, rfl, rfl, rfl, rfl, rfl, rfl⟩

/-- What the settled state shows of a begun one, where no source is set. -/
theorem begun_settle {s y : State} (h : Begun s y) (hp : y.pins.poRstLow = false) (hr : y.raised = []) :
    Begun s (settle (collect y)) := by
  obtain ⟨fb, fr, -⟩ := settle_frame hp
  rw [collect_of_quiet _ hr]
  unfold Begun
  rwa [fb, fr]

/-- Settles O7. -/
theorem releasesBeginBringup : Obligations.ReleasesBeginBringup := by
  unfold Obligations.ReleasesBeginBringup
  refine ⟨fun sel s hp hi ha => ?_, fun s hp hsafe hf hack hr hb hreq => ⟨fun hl hq => ?_, fun hl hq => ?_, fun hl hq hu => ?_⟩⟩
  · obtain ⟨y, he, hpins, hys, hyr, hyc, hyu, hyb, hya, hyq, hyf⟩ := poRelease_of_image sel hi ha hp
    refine ⟨_, exec_poRstNRelease sel s, ?_⟩
    rw [he]
    have begins : s.pins.blkRstLow = false → Begun y (tryBegin (if s.pins.safeReq then raiseSrc y 514 else y)) := by
      intro hl
      split <;> exact tryBegin_begun (by simp [hpins]) (by simp [hpins, hl]) hyq hyb
    have waits : s.pins.blkRstLow = true → (tryBegin (if s.pins.safeReq then raiseSrc y 514 else y)).bring.begun = false := by
      intro hl
      rw [tryBegin_of_held (by left; split <;> simp [hpins, hl])]
      split <;> exact hyb
    obtain ⟨fp, fs, fr, fc, -, fv⟩ := tryBegin_frame (if s.pins.safeReq then raiseSrc y 514 else y)
    generalize tryBegin (if s.pins.safeReq then raiseSrc y 514 else y) = z at *
    have hzp : z.pins = { s.pins with poRstLow := false, refSel := sel, cycles := 0, resetAt := 0 } := by
      rw [fp, ← hpins]; split <;> rfl
    have hzs : z.safe = false := by rw [fs]; split <;> exact hys
    have advents : Begun y z → z.rng.advents = 1 := fun h => by rw [h.2.2.2, hya]; rfl
    cases hq : s.pins.safeReq
    · have hzr : z.raised = [] := by rw [fr, hq]; exact hyr
      obtain ⟨gb, gr, gs, -, -, gp⟩ := settle_frame (s := z) (by rw [hzp])
      rw [collect_of_quiet _ hzr, gb, gr, gs, gp, hzp, hzs]
      exact ⟨rfl, rfl, rfl, rfl, rfl, fun hl => ⟨(begins hl).1, (begins hl).2.1, (begins hl).2.2.1, advents (begins hl)⟩, waits⟩
    · have hzr : z.raised = [514] := by rw [fr, hq]; simp [hyr]
      have hsev : severity z 514 = 3 := by
        have hc : z.cfg = [] := by rw [fc, hq]; exact hyc
        rw [severity, cfgGet, hc]
        decide
      obtain ⟨t, ht, g1, gb, gr, g2, g3, g4, g5⟩ := settle_collect_safeReq (s := z) (by rw [hzp]) hzs hzr hsev (by rw [fv, hq]; exact hyu)
      rw [ht, gb, gr, g1, g2, g3, g4, g5, hzp]
      exact ⟨rfl, rfl, rfl, rfl, rfl, fun hl => ⟨(begins hl).1, (begins hl).2.1, (begins hl).2.2.1, advents (begins hl)⟩, waits⟩
  · refine ⟨_, exec_blkRstNRelease s, ?_⟩
    have he : blkRelease s = tryBegin { s with pins := { s.pins with blkRstLow := false, resetAt := s.pins.cycles } } := by
      simp [blkRelease, hl, hp, hreq]
    obtain ⟨fp, fs, fr, fc, ft, -⟩ := tryBegin_frame { s with pins := { s.pins with blkRstLow := false, resetAt := s.pins.cycles } }
    have hb := tryBegin_begun (s := { s with pins := { s.pins with blkRstLow := false, resetAt := s.pins.cycles } }) hp rfl hq hb
    rw [he]
    generalize tryBegin _ = z at *
    obtain ⟨gb, gr, gs, gc, gt, gp⟩ := settle_frame (s := z) (by rw [fp]; exact hp)
    rw [collect_of_quiet _ (fr.trans hr), gb, gr, gc, gt, gp, fp, fc, ft]
    exact ⟨rfl, rfl, hb.1, hb.2.1, hb.2.2.2, rfl, rfl⟩
  · have he : blkRelease s = { s with pins := { s.pins with blkRstLow := false, resetAt := s.pins.cycles } } := by
      rw [← tryBegin_of_held (s := { s with pins := { s.pins with blkRstLow := false, resetAt := s.pins.cycles } }) (Or.inr hq)]
      simp [blkRelease, hl, hp, hreq]
    rw [exec_blkRstNRelease, he]
    exact fin_of_awake _ (by simp [awake, hp, hsafe, hf, hack, hr])
  · refine ⟨_, exec_quiescence s, ?_⟩
    have he : quiescence s = tryBegin { s with pins := { s.pins with quiescent := true } } := by
      simp [quiescence, hp, hq, hu]
    obtain ⟨fp, fs, fr, -⟩ := tryBegin_frame { s with pins := { s.pins with quiescent := true } }
    have hb := tryBegin_begun (s := { s with pins := { s.pins with quiescent := true } }) hp hl rfl hb
    rw [he]
    generalize tryBegin _ = z at *
    obtain ⟨gb, gr, gs, gc, gt, gp⟩ := settle_frame (s := z) (by rw [fp]; exact hp)
    rw [collect_of_quiet _ (fr.trans hr), gb, gr, gp, fp]
    exact ⟨rfl, hb.1, hb.2.1, hb.2.2.2⟩

end Sys2Proof.Bring
end

section
/-!
SUPPORT. What readiness brings with it, and the steps of bring-up.
-/

namespace Sys2Proof.Bring

open Sys2Proof Sys2Proof.Machine Sys2Proof.Safety

/-! ### What every change of readiness is followed by -/

/-- Two states that differ in the functions and the interrupts alone. -/
def FnsIrq (s t : State) : Prop := ∃ f i, t = { s with fns := f, irq := i }

theorem fnsIrq_refl (s : State) : FnsIrq s s := ⟨s.fns, s.irq, rfl⟩

theorem fnsIrq_trans {s t u : State} (h : FnsIrq s t) (k : FnsIrq t u) : FnsIrq s u := by
  obtain ⟨f, i, rfl⟩ := h
  obtain ⟨f', i', rfl⟩ := k
  exact ⟨f', i', rfl⟩

theorem fnsIrq_setFn (s : State) (f : Nat) (r : FnRec) : FnsIrq s (setFn s f r) := ⟨_, s.irq, rfl⟩

theorem fnsIrq_raiseMsg (s : State) (fn vec : Nat) (own : Bool) : FnsIrq s (raiseMsg s fn vec own) := by
  unfold raiseMsg
  split
  · exact ⟨s.fns, _, rfl⟩
  · exact ⟨s.fns, _, rfl⟩

theorem fnsIrq_foldl {α : Type} {g : State → α → State} (h : ∀ s a, FnsIrq s (g s a)) (l : List α) (s : State) : FnsIrq s (l.foldl g s) := by
  induction l generalizing s with
  | nil => exact fnsIrq_refl s
  | cons a l ih => exact fnsIrq_trans (h s a) (ih _)

theorem fnsIrq_releaseHeld (s : State) (f : Nat) : FnsIrq s (releaseHeld s f) := by
  refine fnsIrq_trans (fnsIrq_setFn s f _) (fnsIrq_foldl (fun t v => ?_) _ _)
  split
  · exact fnsIrq_raiseMsg ..
  · exact fnsIrq_refl t

theorem fnsIrq_applyEnable (s : State) (f : Nat) : FnsIrq s (applyEnable s f) := by
  unfold applyEnable
  dsimp only
  split
  · exact fnsIrq_setFn ..
  · exact fnsIrq_trans (fnsIrq_setFn ..) (fnsIrq_releaseHeld ..)
  · exact fnsIrq_refl s

theorem fnsIrq_applyEnables (s : State) : FnsIrq s (applyEnables s) := fnsIrq_foldl fnsIrq_applyEnable _ _

/-- Readiness moves the flags of bring-up and of the vault, the functions and the interrupts alone. -/
theorem bringWatch_eq (s : State) : ∃ f i v n b, bringWatch s =
    { s with fns := f, irq := i, vault := { s.vault with ready := v }, bring := { s.bring with bringupNs := n, fixed := b } } := by
  obtain ⟨v, hv⟩ : ∃ v, noteVault s = { s with vault := { s.vault with ready := v } } := by
    unfold noteVault
    split
    · exact ⟨true, rfl⟩
    · exact ⟨s.vault.ready, rfl⟩
  obtain ⟨n, hn⟩ : ∃ n, noteReady (noteVault s) = { noteVault s with bring := { s.bring with bringupNs := n } } := by
    unfold noteReady
    split
    · exact ⟨_, by rw [hv]⟩
    · exact ⟨s.bring.bringupNs, by rw [hv]⟩
  unfold bringWatch
  rw [hn, hv]
  unfold noteNormal
  split
  · obtain ⟨f, i, h⟩ := fnsIrq_trans (fnsIrq_raiseMsg _ _ _ _) (fnsIrq_applyEnables (raiseOwn _))
    exact ⟨f, i, v, n, false, h⟩
  · exact ⟨s.fns, s.irq, v, n, s.bring.fixed, rfl⟩

/-- What readiness leaves of the parts of bring-up that events record. -/
theorem bringWatch_frame (s : State) : (bringWatch s).pins = s.pins ∧ (bringWatch s).safe = s.safe ∧ (bringWatch s).raised = s.raised ∧
    ∃ n b, (bringWatch s).bring = { s.bring with bringupNs := n, fixed := b } := by
  obtain ⟨f, i, v, n, b, h⟩ := bringWatch_eq s
  rw [h]
  exact ⟨rfl, rfl, rfl, n, b, rfl⟩

/-! ### Steps 2 to 4 -/

theorem exec_clockSurvey (core port mgmt : Nat) (s : State) : exec (.clockSurvey core port mgmt) s = fin (clockSurvey core port mgmt s) := rfl

theorem exec_fuseRead (w : BitVec 4) (a : Option (BitVec 32)) (s : State) : exec (.fuseRead w a) s = fin (fuseRead w a s) := rfl

theorem bringAdvance_of_due {s : State} (h : fourDue s = true) : bringAdvance s = bringWatch (stepFour s) := by
  rw [bringAdvance, if_pos h]

theorem bringAdvance_of_not_due {s : State} (h : fourDue s = false) : bringAdvance s = bringWatch s := by
  rw [bringAdvance, if_neg (by simp [h])]

theorem fourDue_of_fuses {s : State} (h : s.bring.fuseCount ≠ 16) : fourDue s = false := by
  simp [fourDue, h]

/-- The port takes up the first job of an empty queue: it is the block's own, whichever region's turn it is. -/
theorem nvNextJob_single {s : State} {j : NvJob} (h : s.nv.jobs = [j]) (hj : jobTurn s j = 4) : nvNextJob s = some 0 := by
  have hf : ∀ k, s.nv.jobs.findIdx? (fun j => decide (jobTurn s j = (s.nv.turn + k) % 5)) = if 4 = (s.nv.turn + k) % 5 then some 0 else none := by
    intro k
    simp [h, List.findIdx?_cons, hj]
  have hm : s.nv.turn % 5 < 5 := Nat.mod_lt _ (by decide)
  simp only [nvNextJob, hf, List.range, List.range.loop, List.findSome?_cons, List.findSome?_nil]
  (repeat' split) <;> simp_all
  omega

theorem nvBegin_eq (s : State) : ∃ n, nvBegin s = { s with nv := n } := by
  unfold nvBegin
  split
  · exact ⟨s.nv, rfl⟩
  · split
    · exact ⟨s.nv, rfl⟩
    · split
      · exact ⟨s.nv, rfl⟩
      · exact ⟨_, rfl⟩

theorem nvRead_eq (s : State) (rec : Nat) : ∃ n, nvRead s rec = { s with nv := n } := by
  obtain ⟨n, h⟩ := nvBegin_eq { s with nv := { s.nv with jobs := s.nv.jobs ++ [{ recId := rec, write := none, why := .bring, step := .readPage 0 0 }] } }
  exact ⟨n, h⟩

/-- A job that joins an empty queue begins at once. -/
theorem nvRead_jobs_of_empty {s : State} (hs : s.safe = false) (h : s.nv.jobs = []) (rec : Nat) :
    ∃ j : NvJob, (nvRead s rec).nv.jobs = [j] ∧ j.recId = rec ∧ j.begun = true := by
  let j : NvJob := { recId := rec, write := none, why := .bring, step := .readPage 0 0 }
  let t : State := { s with nv := { s.nv with jobs := [j] } }
  have hn : nvNextJob t = some 0 := nvNextJob_single (j := j) rfl rfl
  have ht : nvRead s rec = nvBegin t := by rw [nvRead, nvSubmit, h]; rfl
  refine ⟨startJob t j, ?_, rfl, rfl⟩
  rw [ht, nvBegin, if_neg (by simp [t, j, hs]), hn]
  rfl

/-- A job that joins one that has begun waits. -/
theorem nvRead_jobs_of_begun {s : State} {j : NvJob} (h : s.nv.jobs = [j]) (hj : j.begun = true) (rec : Nat) :
    (nvRead s rec).nv.jobs.map NvJob.recId = [j.recId, rec] := by
  rw [nvRead, nvSubmit, nvBegin, if_pos (by simp [h, hj])]
  simp [h]

/-- What step 4 records and asks the two ports, before its records are read. -/
def asked (s : State) : State :=
  { s with
    bring := { s.bring with almanacUp := true, fwDigest := primBytes .romDigest [] 48, peerWait := true, lookupWait := true },
    lookup := { s.lookup with queries := s.lookup.queries ++ [{ qid := 0, req := 0, kind := 1 }] },
    peer := { s.peer with out := s.peer.out ++ [{ type := 0x01 }] } }

theorem stepFour_eq {s : State} (hs : s.safe = false) : stepFour s = nvRead (nvRead (asked s) 1) 5 := by
  unfold stepFour
  dsimp only
  rw [sendPeer, if_neg (by simp [hs])]
  rfl

/-- What step 4 records and asks for. -/
theorem stepFour_frame {s : State} (hs : s.safe = false) :
    (stepFour s).bring = { s.bring with almanacUp := true, fwDigest := primBytes .romDigest [] 48, peerWait := true, lookupWait := true } ∧
      (stepFour s).lookup.queries = s.lookup.queries ++ [{ qid := 0, req := 0, kind := 1 }] ∧
      (stepFour s).peer.out = s.peer.out ++ [{ type := 0x01 }] ∧
      (s.nv.jobs = [] → (stepFour s).nv.jobs.map NvJob.recId = [1, 5]) := by
  obtain ⟨n1, h1⟩ := nvRead_eq (asked s) 1
  obtain ⟨n2, h2⟩ := nvRead_eq (nvRead (asked s) 1) 5
  have hjobs : s.nv.jobs = [] → (nvRead (nvRead (asked s) 1) 5).nv.jobs.map NvJob.recId = [1, 5] := by
    intro hj
    obtain ⟨j, hj, hrec, hbegun⟩ := nvRead_jobs_of_empty (s := asked s) hs hj 1
    rw [nvRead_jobs_of_begun hj hbegun, hrec]
  rw [stepFour_eq hs]
  refine ⟨?_, ?_, ?_, hjobs⟩
  all_goals rw [h2, h1]; rfl

/-- A state at work, taken apart. -/
theorem atWork_facts {s : State} (h : atWork s = true) : s.pins.poRstLow = false ∧ s.pins.blkRstLow = false ∧ s.safe = false ∧
    s.raised = [] ∧ s.bring.begun = true := by
  obtain ⟨ha, hc⟩ := atWork_spec h
  obtain ⟨h1, h2, h3, -, -, h6⟩ := (awake_spec s).1 ha
  refine ⟨h1, h2, h3, h6, ?_⟩
  simpa [coreUp, h1, h2] using hc

/-- What readiness brings after a command that keeps an awake state so does not lead to the safe state and keeps what was recorded. -/
theorem settle_collect_bringWatch {s y : State} (h : awake s = true) (hp : y.pins = s.pins) (hs : y.safe = s.safe) (hr : y.raised = s.raised) :
    settle (collect (bringWatch y)) = bringWatch y := by
  obtain ⟨fp, fs, fr, -⟩ := bringWatch_frame y
  have hf := fin_of_fields h (fp.trans hp) (fs.trans hs) (fr.trans hr)
  simpa [fin] using hf

/-- The clocks are in range, and the fuses are not read yet: the survey is recorded and bring-up waits. -/
theorem clockSurvey_records {s : State} {core port mgmt : Nat} (hc : coreUp s = true) (hd : s.bring.clockDone = false)
    (hok : clocksOk s core port mgmt = true) : clockSurvey core port mgmt s = bringAdvance { s with bring := { s.bring with
      coreKhz := core, portKhz := port, mgmtKhz := mgmt, clockDone := true, survey := s.bring.survey ||| 2 } } := by
  rw [clockSurvey, if_neg (by simp [hc, hd])]
  exact if_pos hok

/-- The last fuse word. -/
theorem fuseRead_last {s : State} (v : BitVec 32) (hc : coreUp s = true) (hf : s.bring.fuseCount = 15) :
    let y : State := { s with bring := { s.bring with fuse := tput 0 s.bring.fuse 15 v.toNat, fuseCount := 16 } }
    fuseRead 15 (some v) s = bringAdvance (if crc32c (fuseBytes y 0 56) = tget 0 y.bring.fuse 15 then { y with bring := { y.bring with fuseOk := true } }
      else raiseSrc y 508) := by
  intro y
  rw [fuseRead, if_neg (by simp [hc, hf])]
  simp only [hf]
  rw [if_neg (by simp)]
  split
  · rename_i h
    exact congrArg bringAdvance (if_pos h).symm
  · rename_i h
    exact congrArg bringAdvance (if_neg h).symm

/-- A fuse word before the last. -/
theorem fuseRead_word {s : State} {w : BitVec 4} (v : BitVec 32) (hc : coreUp s = true) (hw : w.toNat < 15) (hf : s.bring.fuseCount = w.toNat) :
    fuseRead w (some v) s = { s with bring := { s.bring with fuse := tput 0 s.bring.fuse w.toNat v.toNat, fuseCount := w.toNat + 1 } } := by
  have hne : ¬(!coreUp s || decide (s.bring.fuseCount = 16 ∨ s.bring.fuseCount ≠ w.toNat)) = true := by
    simp [hc, hf]; omega
  rw [fuseRead, if_neg hne]
  dsimp only
  rw [if_pos (by simp only [hf]; omega), hf]

/-- Settles O9. -/
theorem bringupStepsRecordWhatTheyMeasure : Obligations.BringupStepsRecordWhatTheyMeasure := by
  unfold Obligations.BringupStepsRecordWhatTheyMeasure
  intro s hw
  obtain ⟨ha, hc⟩ := atWork_spec hw
  obtain ⟨-, -, hsafe, -, -⟩ := atWork_facts hw
  have ends : ∀ {t : State}, t.pins = s.pins → t.safe = s.safe → t.raised = s.raised → fin t = .next t := fin_of_fields ha
  refine ⟨?_, ?_, ?_, bringAdvance_of_due, bringAdvance_of_not_due, stepFour_frame hsafe, ?_, ?_, ?_, ?_, ?_, ?_⟩
  · intro core port mgmt hd hf hr h1 h2 h3 h4 h5 h6
    have hok : clocksOk s core port mgmt = true := by
      have hr' : ¬ s.pins.refSel = 3#2 := hr
      simp [clocksOk, hr', h1, h2, h3, h4, h5, h6]
    have quiet : ∀ y : State, y.bring.fuseCount = s.bring.fuseCount → bringAdvance y = bringWatch y :=
      fun y hy => bringAdvance_of_not_due (fourDue_of_fuses (hy ▸ hf))
    rw [exec_clockSurvey, clockSurvey_records hc hd hok]
    generalize hy : ({ s with bring := _ } : State) = y
    rw [quiet y (by rw [← hy])]
    obtain ⟨fp, fs, fr, n, b, fb⟩ := bringWatch_frame y
    refine ⟨_, ends (by rw [fp, ← hy]) (by rw [fs, ← hy]) (by rw [fr, ← hy]), ?_⟩
    rw [fb, fs, ← hy]
    exact ⟨rfl, rfl, rfl, rfl, rfl, hsafe⟩
  · intro core port mgmt hd hf hok y
    rw [exec_clockSurvey, clockSurvey_records hc hd hok, fin, bringAdvance]
    have hdue : fourDue y = true ↔ s.bring.almanacUp = false ∧ anyReady s .seq none = true := by
      have hcy : coreUp y = true := hc
      have hay : anyReady y .seq none = anyReady s .seq none := rfl
      have hfy : y.bring.fuseCount = 16 := hf
      have hdy : y.bring.clockDone = true := rfl
      have hal : y.bring.almanacUp = s.bring.almanacUp := rfl
      simp [fourDue, hcy, hay, hfy, hdy, hal]
    simp only [hdue, y]
  · intro v hf
    rw [exec_fuseRead, fuseRead_last v hc hf]
    rfl
  · intro core aon h1 h2 h3 h4 h5 h6 h7
    have e : supplyCalibration core aon s = { s with bring := { s.bring with
        coreMv := core, aonMv := aon, coreWin := (core * 92 / 100, core * 108 / 100), aonWin := (aon * 92 / 100, aon * 108 / 100)
        supplyDone := true, survey := s.bring.survey ||| 4 } } := by
      rw [supplyCalibration, if_neg (by simp [hc, h1, h2, h3])]
      exact if_pos (by simp [suppliesOk, h4, h5, h6, h7])
    show fin (supplyCalibration core aon s) = _
    rw [e]
    exact ends rfl rfl rfl
  · show fin (handshakeTimeout true s) = _
    rw [handshakeTimeout, if_neg (by simp [hc]), if_pos rfl]
    exact ends rfl rfl rfl
  · show fin (handshakeTimeout false s) = _
    rw [handshakeTimeout, if_neg (by simp [hc]), if_neg (by simp)]
    exact ends rfl rfl rfl
  · intro w v hw hf
    rw [exec_fuseRead, fuseRead_word v hc hw hf]
    exact ends rfl rfl rfl
  · intro h1 h2
    show fin (identityKeysDerived s) = _
    rw [identityKeysDerived, if_neg (by simp [hc, h1]), if_pos (by simp [h2])]
    exact ends rfl rfl rfl
  · intro h1 h2 h3
    show fin (identityKeysDerived s) = _
    rw [identityKeysDerived, if_neg (by simp [hc, h1]), if_neg (by simp [h2]), if_pos h3]
    exact ends rfl rfl rfl

end Sys2Proof.Bring
end

section
/-!
SUPPORT. Periods of the block: power, the calendar, the waits that end, vigils, divergence and LANTERN.
-/

namespace Sys2Proof.Periods

open Sys2Proof Sys2Proof.Machine Sys2Proof.Safety Sys2Proof.Bring

/-! ### A source whose reaction is LOG or NOTIFY -/

/-- A test that the default fails holds of a record read only if it holds of a record listed. -/
theorem any_of_tget {α : Type} {d : α} (p : α → Bool) (hd : p d = false) (t : Tbl α) (k : Nat) (h : p (tget d t k) = true) :
    t.any (fun e => p e.2) = true := by
  induction t with
  | nil => exact absurd (h.symm.trans hd) (by simp)
  | cons e t ih =>
    simp only [tget] at h
    split at h
    · simp [h]
    · simp [ih h]

/-- A record that passes a test like the one that it replaces changes nothing of whether any does. -/
theorem any_tput {α : Type} [DecidableEq α] {d v : α} (p : α → Bool) (hd : p d = false) (hv : v ≠ d) (t : Tbl α) (k : Nat) (h : p v = p (tget d t k)) :
    (tput d t k v).any (fun e => p e.2) = t.any (fun e => p e.2) := by
  have hsub := any_of_tget p hd t k
  induction t with
  | nil => simp [tput, hv, h, tget, hd]
  | cons e t ih =>
    simp only [tput]
    split
    · rw [List.any_cons]
      show (p v || (e :: t).any fun e => p e.2) = _
      rw [h]
      cases hp : p (tget d (e :: t) k) with
      | false => rfl
      | true => rw [hsub hp]; rfl
    · split
      · next hk =>
        simp only [tget, hk, if_true] at h
        rw [List.any_cons, List.any_cons]
        exact congrArg (· || _) h
      · next hk =>
        simp only [tget, if_neg (Ne.symm hk)] at h
        rw [List.any_cons, List.any_cons, ih h (any_of_tget p hd t k)]

/-- The function's record fixes the regime: it freezes, or an action that fixes it is under way. -/
def fixesRegime (r : FnRec) : Bool := decide (r.state = .freezing) || (match r.act with | some a => a.kind.fixes | none => false)

theorem fixedRegime_eq (s : State) : fixedRegime s = (s.bring.fixed || s.fns.any fun e => fixesRegime e.2) := rfl

/-- A record that fixes the regime no more and no less than before leaves it. -/
theorem fixedRegime_setFn {s : State} {f : Nat} {r : FnRec} (hr : fixesRegime r = fixesRegime (getFn s f)) (hv : r ≠ fnDflt f) :
    fixedRegime (setFn s f r) = fixedRegime s := by
  have hd : fixesRegime (fnDflt f) = false := by
    unfold fnDflt
    split <;> rfl
  rw [fixedRegime_eq, fixedRegime_eq]
  exact congrArg (s.bring.fixed || ·) (any_tput fixesRegime hd hv s.fns f hr)

/-- The reaction to a source of the block's own depends on the regime and the committed severities alone. -/
theorem reactionOf_congr {s t : State} {src : Nat} (hu : sourceUnit src = none) (hb : fixedRegime t = fixedRegime s) (hc : t.cfg = s.cfg) :
    reactionOf t src = reactionOf s src := by
  simp only [reactionOf, severity, cfgGet, hu, hb, hc]

theorem skew_ne_fnDflt (r : FnRec) (f : Nat) : { r with skew := true } ≠ fnDflt f := by
  intro h
  have h' := congrArg FnRec.skew h
  unfold fnDflt at h'
  split at h' <;> exact absurd h' (by simp)

/-- One source of the block's own and what its reaction makes of the state: `f` is what follows the sticky bit. -/
theorem collect_single_noted {s : State} {src : Nat} (hs : s.safe = false) (hr : s.raised = []) (hlt : src < 521) (hu : sourceUnit src = none)
    (hre : reactionOf s src = .log ∨ reactionOf s src = .notify) :
    collect (raiseSrc s src) =
      (let t : State := { s with sticky := s.sticky ||| BitVec.ofNat 768 (2 ^ src) }
       if reactionOf s src = .log ∨ s.sticky.getLsbD src = true then t else raiseOwn t) := by
  have hraise : (raiseSrc s src).raised = [src] := by simp [raiseSrc, hr]
  have hbase : ({ raiseSrc s src with raised := [] } : State) = s := by
    show { s with raised := [] } = s
    rw [← hr]
  have hord : ordered (raiseSrc s src) [src] = [src] := by
    by_cases h : reactionOf (raiseSrc s src) src = .safe <;> simp [ordered, hlt, h]
  have hown : ∀ t : State, (raiseOwn t).raised = t.raised := by
    intro t
    unfold raiseOwn raiseMsg
    split <;> rfl
  have hset : setSource [src] s src =
      (let t : State := { s with sticky := s.sticky ||| BitVec.ofNat 768 (2 ^ src) }
       if reactionOf s src = .log ∨ s.sticky.getLsbD src = true then t else raiseOwn t) := by
    unfold setSource
    rw [if_neg (by omega)]
    simp only [hu, probeFenced]
    rw [if_neg (by simp [hs])]
    rcases hre with h | h
    · simp [h]
    · simp [h]
  rw [collect, collectN_of_raised 7 hraise (by simp), hbase, hord, List.foldl_cons, List.foldl_nil, hset, collectN_of_none]
  dsimp only
  split
  · exact hr
  · exact (hown _).trans hr

/-- An awake state ends a command that sets one source with LOG or NOTIFY as the reaction leaves it. -/
theorem fin_raiseSrc {s : State} {src : Nat} (ha : awake s = true) (hlt : src < 521) (hu : sourceUnit src = none)
    (hre : reactionOf s src = .log ∨ reactionOf s src = .notify) :
    fin (raiseSrc s src) = .next
      (let t : State := { s with sticky := s.sticky ||| BitVec.ofNat 768 (2 ^ src) }
       if reactionOf s src = .log ∨ s.sticky.getLsbD src = true then t else raiseOwn t) := by
  obtain ⟨-, -, hs, -, -, hr⟩ := (awake_spec s).1 ha
  have hown : ∀ t : State, awake t = true → awake (raiseOwn t) = true := by
    intro t ht
    have h : (raiseOwn t).pins = t.pins ∧ (raiseOwn t).safe = t.safe ∧ (raiseOwn t).raised = t.raised := by
      unfold raiseOwn raiseMsg
      split <;> exact ⟨rfl, rfl, rfl⟩
    obtain ⟨h1, h2, h3⟩ := h
    rw [awake_spec] at ht ⊢
    rwa [h1, h2, h3]
  rw [fin, collect_single_noted hs hr hlt hu hre, settle_of_awake]
  dsimp only
  split
  · exact ha
  · exact hown _ ha

/-! ### Divergence and LANTERN -/

theorem exec_stateSkew (t : SkewTarget) (s : State) : exec (.stateSkew t) s = fin (stateSkew t s) := rfl

/-- What a divergence ends with, where 498 is logged or notified. -/
theorem fin_skewed {y : State} (ha : awake y = true) (hre : reactionOf y 498 = .log ∨ reactionOf y 498 = .notify) :
    fin (skewed y) = .next
      (let t : State := { y with cnt := { y.cnt with skewEvents := y.cnt.skewEvents + 1 }, sticky := y.sticky ||| BitVec.ofNat 768 (2 ^ 498) }
       if reactionOf y 498 = .log ∨ y.sticky.getLsbD 498 = true then t else raiseOwn t) :=
  fin_raiseSrc (s := { y with cnt := { y.cnt with skewEvents := y.cnt.skewEvents + 1 } }) ha (by omega) (by decide) hre

theorem skewed_answers {s y : State} (t : SkewTarget) (hy : awake y = true) (hf : stateSkew t s = skewed y) (hre : reactionOf y 498 = reactionOf s 498)
    (hc : y.cnt = s.cnt) (hk : y.sticky = s.sticky) :
    (reactionOf s 498 = .log → exec (.stateSkew t) s = .next { y with
      cnt := { s.cnt with skewEvents := s.cnt.skewEvents + 1 }, sticky := s.sticky ||| BitVec.ofNat 768 (2 ^ 498) }) ∧
    (reactionOf s 498 = .notify → exec (.stateSkew t) s = .next (if s.sticky.getLsbD 498 then
        { y with cnt := { s.cnt with skewEvents := s.cnt.skewEvents + 1 }, sticky := s.sticky ||| BitVec.ofNat 768 (2 ^ 498) }
      else raiseOwn
        { y with cnt := { s.cnt with skewEvents := s.cnt.skewEvents + 1 }, sticky := s.sticky ||| BitVec.ofNat 768 (2 ^ 498) })) := by
  rw [exec_stateSkew, hf, ← hre, ← hc, ← hk]
  constructor
  · intro h
    rw [fin_skewed hy (.inl h)]
    simp only [h, true_or, if_true]
  · intro h
    rw [fin_skewed hy (.inr h)]
    simp only [h, reduceCtorEq, false_or]

/-- LANTERN holds its level through the collector in the safe state. -/
theorem setSource_of_safe {s : State} (l : List Nat) (src : Nat) (hs : s.safe = true) :
    (setSource l s src).pins = s.pins ∧ (setSource l s src).safe = true := by
  unfold setSource
  split
  · exact ⟨rfl, hs⟩
  · rw [if_pos hs]
    exact ⟨rfl, hs⟩

theorem foldl_setSource_of_safe (m l : List Nat) : ∀ s : State, s.safe = true →
    (m.foldl (setSource l) s).pins = s.pins ∧ (m.foldl (setSource l) s).safe = true := by
  induction m with
  | nil => exact fun s hs => ⟨rfl, hs⟩
  | cons a m ih =>
    intro s hs
    obtain ⟨hp, hs'⟩ := setSource_of_safe l a hs
    obtain ⟨ip, is⟩ := ih _ hs'
    exact ⟨ip.trans hp, is⟩

theorem collectN_of_safe (n : Nat) : ∀ s : State, s.safe = true → (collectN n s).pins = s.pins ∧ (collectN n s).safe = true := by
  induction n with
  | zero => exact fun s hs => ⟨rfl, hs⟩
  | succ n ih =>
    intro s hs
    rw [collectN]
    split
    · exact ⟨rfl, hs⟩
    · obtain ⟨hp, hs'⟩ := foldl_setSource_of_safe (ordered s s.raised) s.raised { s with raised := [] } hs
      obtain ⟨ip, is⟩ := ih _ hs'
      exact ⟨ip.trans hp, is⟩

theorem settle_lantern {s : State} (h : s.pins.poRstLow = false) : (settle s).pins.lantern = s.pins.lantern := by
  rcases settle_cases s with ⟨h1, -⟩ | ⟨-, -, -, e⟩ | ⟨-, -, -, e⟩ | ⟨-, -, -, e⟩ | ⟨-, -, -, e⟩
  · exact absurd (h1.symm.trans h) (by simp)
  all_goals rw [e]; rfl

theorem exec_lanternToggle (s : State) : exec .lanternToggle s = .next (settle (collect (lanternToggle s))) := rfl

/-- Settles O19. -/
theorem divergenceIsSetOnceAndLanternToggles : Obligations.DivergenceIsSetOnceAndLanternToggles := by
  unfold Obligations.DivergenceIsSetOnceAndLanternToggles
  refine ⟨by decide, fun n s hw => ?_, fun s => ⟨fun hw hal => ?_, fun t hs hp he => ?_⟩⟩
  · obtain ⟨ha, hc⟩ := atWork_spec hw
    refine ⟨fun hd => ⟨fun hk => ?_, fun hk => ?_⟩, fun hd => ⟨fun hk => ?_, fun hk => ?_⟩, fun hd => ⟨fun hk => ?_, fun hk => ?_⟩,
      fun hd => ?_, fun hd => ?_, fun hd => ?_⟩
    · exact skewed_answers (y := setFn s n { getFn s n with skew := true }) (.fn n) ha (by simp [stateSkew, hc, hd, hk, modFn])
        (reactionOf_congr (by decide) (fixedRegime_setFn rfl (skew_ne_fnDflt _ _)) rfl) rfl rfl
    · exact (congrArg fin (by simp [stateSkew, hk])).trans (fin_of_awake s ha)
    · exact skewed_answers (.ring n) ha (by simp [stateSkew, hc, hd, hk, modRing]) (reactionOf_congr (by decide) rfl rfl) rfl rfl
    · exact (congrArg fin (by simp [stateSkew, hk])).trans (fin_of_awake s ha)
    · exact skewed_answers (y := setUnit s n { getUnit s n with skew := true }) (.unit n) ha (by simp [stateSkew, hc, hd, hk, modUnit])
        (reactionOf_congr (by decide) rfl rfl) rfl rfl
    · exact (congrArg fin (by simp [stateSkew, hk])).trans (fin_of_awake s ha)
    · exact (congrArg fin (by simp [stateSkew, hd])).trans (fin_of_awake s ha)
    · exact (congrArg fin (by simp [stateSkew, hd])).trans (fin_of_awake s ha)
    · exact (congrArg fin (by simp [stateSkew, hd])).trans (fin_of_awake s ha)
  · obtain ⟨-, -, hsafe, -, -⟩ := atWork_facts hw
    obtain ⟨ha, hc⟩ := atWork_spec hw
    have e : lanternToggle s = { s with pins := { s.pins with lantern := !s.pins.lantern } } := by
      rw [lanternToggle, if_pos (by simp [hc, hal, hsafe])]
    show fin (lanternToggle s) = _
    rw [e]
    exact fin_of_awake _ ha
  · have e : lanternToggle s = s := by
      rw [lanternToggle, if_neg (by simp [hs])]
    rw [exec_lanternToggle, e, Host.Outcome.next.injEq] at he
    obtain ⟨cp, -⟩ := collectN_of_safe 8 s hs
    have hcol : (collect s).pins = s.pins := cp
    rw [← he, settle_lantern (by rw [hcol]; exact hp), hcol]

/-! ### Power, the calendar, stalls and jubilees -/

theorem exec_clockGate (u : Nat) (s : State) : exec (.clockGate u) s = fin (clockGate u s) := rfl

theorem exec_jubileePersist (s : State) : exec .jubileePersist s = fin (jubileePersist s) := rfl

/-- A table that is written for every number below a bound reads back. -/
theorem tget_foldl_tput (g : Nat → Nat) (n k : Nat) (hk : k < n) :
    tget 0 ((List.range n).foldl (fun t k => tput 0 t k (g k)) []) k = g k := by
  have wf : ∀ m, twf 0 ((List.range m).foldl (fun t k => tput 0 t k (g k)) []) = true := by
    intro m
    induction m with
    | zero => rfl
    | succ m ih =>
      rw [List.range_succ, List.foldl_append]
      exact twf_tput 0 _ _ _ ih
  induction n with
  | zero => omega
  | succ n ih =>
    rw [List.range_succ, List.foldl_append, List.foldl_cons, List.foldl_nil]
    by_cases h : k = n
    · subst h
      exact tget_tput 0 _ _ _ 0 (wf k)
    · rw [tget_tput_other 0 0 _ _ _ _ h]
      exact ih (by omega)

theorem exec_calendarEpoch (s : State) : exec .calendarEpoch s = fin (calendarEpoch s) := rfl

/-- What an epoch's beginning writes: the accounts, and the bookings and capacities that stand. -/
theorem calendarEpoch_eq {s : State} (hc : coreUp s = true) : ∃ acct cap, calendarEpoch s =
      { s with cal := { s.cal with started := true, acct := acct, book := bookNow s, cap := cap } } ∧
    ∀ k < 32, tget 0 cap k = capNow s k := by
  have h := tget_foldl_tput (capNow s) 32
  rw [calendarEpoch, if_neg (by simp [hc])]
  generalize List.foldl _ _ (List.range 32) = cap at h ⊢
  exact ⟨_, cap, rfl, h⟩

/-- Settles O20. -/
theorem periodicWorkOfTheBlock : Obligations.PeriodicWorkOfTheBlock := by
  unfold Obligations.PeriodicWorkOfTheBlock
  intro s hw
  obtain ⟨ha, hc⟩ := atWork_spec hw
  obtain ⟨-, -, hsafe, -, -⟩ := atWork_facts hw
  have ends : ∀ {t : State}, t.pins = s.pins → t.safe = s.safe → t.raised = s.raised → fin t = .next t := fin_of_fields ha
  refine ⟨?_, ?_, ?_, ?_, ?_, ?_, ?_, ?_⟩
  · intro u hb
    rw [exec_clockGate, clockGate, if_pos (by simp [hc, hb])]
    exact ends rfl rfl rfl
  · intro hp
    show fin (powerEstimate s) = _
    simp only [powerEstimate, hc, hp, decide_true, Bool.not_true, Bool.false_eq_true, if_false, if_true]
    exact ends rfl rfl rfl
  · intro hp
    show fin (powerEstimate s) = _
    simp only [powerEstimate, hc, Nat.not_lt.mpr hp, decide_false, Bool.not_true, Bool.false_eq_true, if_false]
    exact ends rfl rfl rfl
  · obtain ⟨acct, cap, e, hcap⟩ := calendarEpoch_eq hc
    rw [exec_calendarEpoch, e]
    exact ⟨_, ends rfl rfl rfl, rfl, rfl, hcap, rfl, rfl⟩
  · intro hi
    show fin (interruptStall s) = _
    rw [interruptStall, if_pos (by simp [hi])]
    exact ends rfl rfl rfl
  · intro hi
    show fin (interruptStall s) = _
    rw [interruptStall, if_neg (by simp [hi])]
    rfl
  · intro hn hd ht hj hb
    have hnone : (s.nv.jobs.any fun j => decide (j.why = .jubilee)) = false := by
      simpa using hj
    have hover : overBudget { s with nv := { s.nv with jubDirty := false } } 4 = false := hb
    rw [exec_jubileePersist, jubileePersist, if_pos (by simp [hc, hsafe, hn, hd, ht, hnone]), nvWrite, hover]
    rfl
  · intro h
    have hno : ¬ (coreUp s && !s.safe && s.bring.nvDone && s.nv.jubDirty &&
        decide (14400000000000 ≤ (s.pins.cycles - s.nv.jubAt) * refPeriod s) && !(s.nv.jobs.any fun j => decide (j.why = .jubilee))) = true := by
      rcases h with h | h | ⟨j, hj, hjub⟩
      · simp [h]
      · simp [Nat.not_le.mpr h]
      · have : (s.nv.jobs.any fun j => decide (j.why = .jubilee)) = true := List.any_eq_true.mpr ⟨j, hj, by simp [hjub]⟩
        simp [this]
    rw [exec_jubileePersist, jubileePersist, if_neg hno]
    exact ends rfl rfl rfl

/-! ### Waits -/

theorem exec_coalTime (n : Nat) (s : State) : exec (.coalTime n) s = fin (coalTime n s) := rfl

/-- Settles O22. -/
theorem waitsEndAsTheirRulesSay : Obligations.WaitsEndAsTheirRulesSay := by
  unfold Obligations.WaitsEndAsTheirRulesSay
  intro s hw
  obtain ⟨ha, hc⟩ := atWork_spec hw
  refine ⟨?_, ?_, ?_, ?_, ?_⟩
  · intro n hn
    rw [exec_coalTime, coalTime, if_pos (by simp [hc, hn])]
    rfl
  · intro n hn
    rw [exec_coalTime, coalTime, if_neg (by simp [hn])]
    exact fin_of_awake s ha
  · intro g cid rest c hb hg hp
    have e : chainWaitEnd g s = pumpAll (startChain (takePages s cid c (chainPages s c true)) cid) := by
      simp only [chainWaitEnd, hb, hg, hp, if_true]
    exact congrArg fin e
  · intro g r rest q hb hg hp
    have e : echoStagingWaitEnd g s = enqueue (setReq { s with echoUse := tput 0 s.echoUse g (tget 0 s.echoUse g + stagingNeed q) } r
        (some { q with staged := stagingNeed q })) r := by
      have hg' : getReq { s with echoUse := tput 0 s.echoUse g (tget 0 s.echoUse g + stagingNeed q) } r = some q := hg
      simp only [echoStagingWaitEnd, hb, hg, hp, if_true, modReq, hg']
    exact congrArg fin e
  · intro b k r hf
    have e : cacheWayRelease b k s = pumpAll (resolve s r) := by
      unfold cacheWayRelease
      dsimp only
      split
      · next h => exact absurd (h.symm.trans hf) (Option.some_ne_none r).symm
      · next x h => exact congrArg (fun x => pumpAll (resolve s x)) (Option.some.inj (h.symm.trans hf))
    exact congrArg fin e

/-! ### Doorbells of rings -/

theorem exec_ringDoorbell {f : Nat} {off : BitVec 13} {n : Nat} {s : State} (v : U32) (ht : targetOpen s f = true) (h1 : off.toNat < 0x800)
    (h2 : off.toNat % 8 = 0) (hr : ringAt s f (off.toNat / 8) = some n) : exec (.ringDoorbell f off v) s = fin (ringCount s n v) := by
  have e : ringDoorbell f off v s = ringCount s n v := by
    rw [ringDoorbell, if_neg (by simp [ht, h2]; omega), hr]
  exact congrArg fin e

/-- Settles O23. -/
theorem ringDoorbellCountsDescriptors : Obligations.RingDoorbellCountsDescriptors := by
  unfold Obligations.RingDoorbellCountsDescriptors
  intro f off v n s hw ht h1 h2 hr
  obtain ⟨ha, -⟩ := atWork_spec hw
  rw [exec_ringDoorbell v ht h1 h2 hr]
  refine ⟨fun hd => ?_, fun hd hle hne => ?_, fun hd hlt => ?_⟩
  · rw [ringCount, if_pos (.inl hd)]
    exact fin_of_awake s ha
  · have hz : (v - (getRing s n).prev).toNat ≠ 0 := by
      intro h
      exact hne (sub_eq_zero.mp (BitVec.eq_of_toNat_eq h))
    rw [ringCount, if_neg (by simp only [hd, hz, or_self, not_false_eq_true]), if_pos hle]
    exact fin_of_fields ha rfl rfl rfl
  · rw [ringCount, if_neg (by simp only [hd, false_or]; omega), if_neg (by omega)]
    exact fin_of_fields ha rfl rfl rfl

/-! ### Vigils -/

theorem exec_fenceResolved (u : Nat) (s : State) : exec (.fenceResolved u) s = fin (fenceResolved u s) := rfl

theorem exec_vigilPeriod (u : Nat) (s : State) : exec (.vigilPeriod u) s = fin (vigilPeriod u s) := rfl

theorem exec_vigilCheck (u : Nat) (err : Bool) (s : State) : exec (.vigilCheck u err) s = fin (vigilCheck u err s) := rfl

/-- A unit that none follows changes state alone. -/
theorem setUnitState_alone {s : State} {u : Nat} (h : followers s u = []) (st : UnitState) :
    setUnitState s u st = setUnit s u { getUnit s u with state := st } := by
  simp [setUnitState, h, modUnit]

theorem vigilRuns_of_work {s : State} {u : Nat} (hw : atWork s = true) (hu : u < unitCount) (hl : leaderOf s u = u) : vigilRuns s u = true := by
  obtain ⟨-, hc⟩ := atWork_spec hw
  obtain ⟨-, -, hsafe, -, -⟩ := atWork_facts hw
  simp [vigilRuns, hc, hsafe, hu, hl]

/-- Settles O17. -/
theorem vigilRunsItsCourse : Obligations.VigilRunsItsCourse := by
  unfold Obligations.VigilRunsItsCourse
  intro u s hw _ hu hl hf
  obtain ⟨ha, hc⟩ := atWork_spec hw
  obtain ⟨-, -, hsafe, -, -⟩ := atWork_facts hw
  have hruns := vigilRuns_of_work hw hu hl
  have ends : ∀ {t : State}, t.pins = s.pins → t.safe = s.safe → t.raised = s.raised → fin t = .next t := fin_of_fields ha
  refine ⟨fun hst => ⟨_, ?_, rfl⟩, fun hst => ⟨⟨_, ?_, rfl⟩, fun hk => ?_, ?_⟩⟩
  · rw [exec_fenceResolved, fenceResolved, if_pos (by simp [hruns, hst]), setUnitState_alone hf]
    exact ends rfl rfl rfl
  · rw [exec_vigilPeriod, vigilPeriod, if_pos (by simp [hruns, hst]), setUnitState_alone hf]
    exact ends rfl rfl rfl
  · rw [exec_vigilCheck, vigilCheck, if_neg (by simp [hc, hsafe, hu, hst]), if_neg (by simp), if_neg (by simp [hk])]
    exact fin_of_awake s ha
  · rw [exec_vigilCheck, vigilCheck, if_neg (by simp [hc, hsafe, hu, hst]), if_pos rfl]
    rfl

end Sys2Proof.Periods
end

section
/-!
SUPPORT. Grants of the calendar.
-/

namespace Sys2Proof.Grants

open Sys2Proof Sys2Proof.Machine Sys2Proof.Safety Sys2Proof.Bring

theorem exec_calendarGrant (c : Container) (s : State) : exec (.calendarGrant c) s = fin (calendarGrant c s) := rfl

/-- A container of unit time is granted as its kind says. -/
theorem calendarGrant_units {s : State} {g : Nat} (hw : atWork s = true) (hg : g < 8) {e : Container × Kind × Nat}
    (he : e ∈ [(Container.cipher g, Kind.lane, g), (.hash g, .hash, 8 + g), (.pka g, .pka, 16 + g)]) :
    calendarGrant e.1 s = grantUnits s e.2.1 g e.2.2 := by
  obtain ⟨-, hc⟩ := atWork_spec hw
  obtain ⟨-, -, hsafe, -, -⟩ := atWork_facts hw
  simp only [List.mem_cons, List.not_mem_nil, or_false] at he
  rcases he with rfl | rfl | rfl <;> simp [calendarGrant, hc, hsafe, contOk, hg, contNo]

/-- A container of bandwidth is granted to a burst. -/
theorem calendarGrant_bursts {s : State} {m : Nat} (hw : atWork s = true) (hm : m < 4) {e : Container × Nat}
    (he : e ∈ [(Container.portRead m, 24 + m), (.portWrite m, 28 + m)]) : calendarGrant e.1 s = grantBurst s e.2 := by
  obtain ⟨-, hc⟩ := atWork_spec hw
  obtain ⟨-, -, hsafe, -, -⟩ := atWork_facts hw
  simp only [List.mem_cons, List.not_mem_nil, or_false] at he
  rcases he with rfl | rfl <;> simp [calendarGrant, hc, hsafe, contOk, hm, contNo]

/-- What a grant leaves of its request. -/
theorem getReq_grantReq {s : State} {k : Kind} {g cont r : Nat} {q : Req} (hq : getReq s r = some q) :
    ∃ q', getReq (grantReq s k g cont r) r = some q' ∧ q'.grants = q.grants - 1 ∧
      q'.phase = (if q.grants ≤ 1 then (if q.resume = .unit2 then .loaded else .ready) else .waitGrant) ∧ q'.d = q.d ∧
      (q.unit = none → q'.unit = (openUnits s k g).head?) := by
  simp only [grantReq, hq]
  refine ⟨_, getReq_setReq _ _ _, rfl, ?_, rfl, fun h => by simp [h]⟩
  by_cases h : q.grants ≤ 1
  · simp [h, Nat.not_lt.mpr h]
  · simp [h, Nat.lt_of_not_le h]

/-- A burst's right to leave is the same without a burst of another place in the queue. -/
theorem mayIssue_rest (s : State) (b : Burst) (l : List Burst) : mayIssue { s with bursts := l } b = mayIssue s b := rfl

/-- A burst that has its port, its tag and its bandwidth leaves. -/
theorem tryIssue_of_goes {s : State} {b : Burst} {p t : Nat} (hm : mayIssue s b = true) (hb : bandwidth s b = true)
    (hp : burstPort s b = some p) (ht : freeTag s p = some t) : tryIssue s b = some (issueOn s b p t) := by
  simp [tryIssue, hm, hb, hp, ht]

/-- The burst that a search finds passes its test. -/
theorem test_of_findIdx {l : List Burst} {f : Burst → Bool} {i : Nat} {b : Burst} (h : l.findIdx? f = some i) (hb : l[i]? = some b) : f b = true := by
  obtain ⟨hi, hf, -⟩ := List.findIdx?_eq_some_iff_getElem.mp h
  rw [List.getElem?_eq_getElem hi, Option.some.injEq] at hb
  exact hb ▸ hf

theorem mayIssue_of_issuable {s : State} {k : Nat} {b : Burst} (h : issuable s k b = true) : mayIssue s b = true := by
  simp only [issuable, Bool.and_eq_true] at h
  exact h.1.2

/-- Settles O21. -/
theorem calendarGrantsWaitingRequests : Obligations.CalendarGrantsWaitingRequests := by
  unfold Obligations.CalendarGrantsWaitingRequests
  constructor
  · intro g f r q e s hw hg he
    obtain ⟨ha, -⟩ := atWork_spec hw
    dsimp only
    rw [exec_calendarGrant, calendarGrant_units hw hg he]
    have open_ : (e.2.1 = .hash → g ∉ s.cal.withheld) → ¬(decide (e.2.1 = .hash) && s.cal.withheld.contains g) = true := by
      simp
    refine ⟨fun hk hx => ?_, fun hx hp => ?_, fun hx hp hr hq => ⟨?_, getReq_grantReq hq⟩⟩
    · rw [grantUnits, if_pos (by simp [hk, hx])]
      exact fin_of_awake s ha
    · rw [grantUnits, if_neg (open_ hx)]
      dsimp only
      rw [hp]
      exact fin_of_awake s ha
    · rw [grantUnits, if_neg (open_ hx)]
      dsimp only
      rw [hp]
      dsimp only
      rw [hr]
      rfl
  · intro m i p t b e s hw hm he
    obtain ⟨ha, -⟩ := atWork_spec hw
    dsimp only
    rw [exec_calendarGrant, calendarGrant_bursts hw hm he]
    refine ⟨fun hf ⟨hb, hp, ht⟩ => ?_, fun hf => ⟨fun hp => ?_, fun f hpick hfi ⟨hb, hp, ht⟩ hbw => ?_⟩⟩
    · have htest := test_of_findIdx hf hb
      rw [Bool.and_eq_true] at htest
      have hband : bandwidth { s with bursts := s.bursts.eraseIdx i } b = true := by
        simp [bandwidth, htest.2]
      have hsend : sendFirst s e.2 Burst.isProbe = some (issueOn { s with bursts := s.bursts.eraseIdx i } b p t) := by
        simp only [sendFirst, hf, hb]
        exact tryIssue_of_goes (mayIssue_of_issuable htest.1) hband hp ht
      rw [grantBurst, hsend]
      rfl
    · have hsend : sendFirst s e.2 Burst.isProbe = none := by simp only [sendFirst, hf]
      rw [grantBurst, hsend]
      dsimp only [grantCredit]
      rw [hp]
      exact fin_of_awake s ha
    · have htest := test_of_findIdx hfi hb
      rw [Bool.and_eq_true] at htest
      have hsend : sendFirst s e.2 Burst.isProbe = none := by simp only [sendFirst, hf]
      have hissue := tryIssue_of_goes (s := { s with bursts := s.bursts.eraseIdx i }) (mayIssue_of_issuable htest.1) hbw hp ht
      rw [grantBurst, hsend]
      dsimp only [grantCredit]
      rw [hpick]
      dsimp only
      rw [hfi]
      dsimp only
      rw [hb]
      dsimp only
      rw [hissue]
      rfl

end Sys2Proof.Grants
end

section
/-!
SUPPORT. The fetch of descriptors, the flags of completion entries, and a ring that cannot write them.
-/

namespace Sys2Proof.RingFetch

open Sys2Proof Sys2Proof.Machine Sys2Proof.Safety Sys2Proof.Bring

/-! ### The flags byte -/

/-- R51, R53: the bits of PHASE_FLAGS one by one. -/
theorem phaseFlags_bits (ph notRun discard spilled flip fail old : Bool) :
    let b := ofBool ph + 2 * ofBool notRun + 4 * ofBool discard + (if old then 0 else 16 * ofBool spilled + 32 * ofBool flip) + 64 * ofBool fail
    b < 128 ∧ b.testBit 0 = ph ∧ b.testBit 1 = notRun ∧ b.testBit 2 = discard ∧ b.testBit 3 = false ∧ b.testBit 6 = fail ∧
    (old = true → b.testBit 4 = false ∧ b.testBit 5 = false) ∧ (old = false → b.testBit 4 = spilled ∧ b.testBit 5 = flip) := by
  revert ph notRun discard spilled flip fail old
  decide

theorem phaseFlags_eq (ver : Nat) (ph notRun discard spilled flip fail : Bool) :
    phaseFlags ver ph notRun discard spilled flip fail =
      ofBool ph + 2 * ofBool notRun + 4 * ofBool discard + (if decide (ver = 1) then 0 else 16 * ofBool spilled + 32 * ofBool flip) + 64 * ofBool fail := by
  simp [phaseFlags]

/-! ### A ring in ERROR stays in ERROR -/

/-- The ring has failed to write an entry, is in ERROR and is not being disabled. -/
def Failed (n : Nat) (e : BitVec 3) (s : State) : Prop :=
  (getRing s n).state = .error ∧ (getRing s n).dead = true ∧ (getRing s n).errors = e ∧ ringCfg s n 9 ≠ 0

theorem failed_of_fields {n : Nat} {e : BitVec 3} {s t : State} (h : Failed n e s) (hr : t.rings = s.rings) (hc : t.cfg = s.cfg) : Failed n e t := by
  simpa only [Failed, getRing, ringCfg, cfgGet, hr, hc] using h

theorem getRing_modRing_of_error {s : State} {n : Nat} {g : RingRec → RingRec} (h : (g (getRing s n)).state = .error) :
    getRing (modRing s n g) n = g (getRing s n) := by
  refine tget_tput_self _ s.rings n _ (fun hd => ?_)
  rw [hd] at h
  exact absurd h (by decide)

theorem failed_modRing {n : Nat} {e : BitVec 3} {s : State} (g : RingRec → RingRec) (hg : ∀ r, (g r).state = r.state ∧ (g r).dead = r.dead ∧ (g r).errors = r.errors)
    (h : Failed n e s) : Failed n e (modRing s n g) := by
  obtain ⟨h1, h2, h3, h4⟩ := h
  obtain ⟨g1, g2, g3⟩ := hg (getRing s n)
  rw [Failed, getRing_modRing_of_error (g1.trans h1)]
  exact ⟨g1.trans h1, g2.trans h2, g3.trans h3, h4⟩

theorem failed_ringSettle {n : Nat} {e : BitVec 3} {s : State} (h : Failed n e s) : Failed n e (ringSettle s n) := by
  have key : ∀ t, Failed n e t → Failed n e (if ringDrains t n && ringQuiet t n then ringOff t n else t) := by
    intro t ht
    obtain ⟨h1, -, -, h4⟩ := id ht
    rw [if_neg (by simp [ringDrains, h1, h4])]
    exact ht
  unfold ringSettle
  refine key _ ?_
  split
  · exact failed_modRing _ (fun _ => ⟨rfl, rfl, rfl⟩) h
  · exact h

theorem failed_ffDone {n : Nat} {e : BitVec 3} {s : State} (h : Failed n e s) : Failed n e (ffDone s n) :=
  failed_ringSettle (failed_modRing _ (fun _ => ⟨rfl, rfl, rfl⟩) h)

theorem failed_entryDone {n : Nat} {e : BitVec 3} {s : State} (chain : Nat) (h : Failed n e s) : Failed n e (entryDone s n chain) := by
  have h0 : Failed n e (modRing s n fun r => { r with open_ := r.open_ - 1 }) := failed_modRing _ (fun _ => ⟨rfl, rfl, rfl⟩) h
  refine failed_ringSettle ?_
  split
  · exact h0
  · split
    · exact failed_of_fields h0 rfl rfl
    · dsimp only
      split
      · exact failed_modRing _ (fun _ => ⟨rfl, rfl, rfl⟩) (failed_of_fields h0 rfl rfl)
      · exact failed_of_fields h0 rfl rfl

theorem failed_raiseFn {n : Nat} {e : BitVec 3} {s : State} (f vec : Nat) (h : Failed n e s) : Failed n e (raiseFn s f vec) := by
  have hmsg : (raiseMsg s f vec false).rings = s.rings ∧ (raiseMsg s f vec false).cfg = s.cfg := by
    unfold raiseMsg
    split <;> exact ⟨rfl, rfl⟩
  unfold raiseFn
  split
  · exact failed_of_fields h hmsg.1 hmsg.2
  all_goals exact h

theorem failed_signalOn {n : Nat} {e : BitVec 3} {s : State} (vec : Nat) (h : Failed n e s) : Failed n e (signalOn s n vec) :=
  failed_raiseFn _ _ (failed_modRing _ (fun _ => ⟨rfl, rfl, rfl⟩) h)

theorem failed_dropFetch {n : Nat} {e : BitVec 3} {s : State} (h : Failed n e s) : Failed n e (dropFetch s n) :=
  failed_modRing _ (fun _ => ⟨rfl, rfl, rfl⟩) (failed_of_fields h rfl rfl)

theorem failed_lost {n : Nat} {e : BitVec 3} (l : List (Nat × Bool)) : ∀ {s : State}, Failed n e s →
    Failed n e (l.foldl (fun s x => if x.2 then ffDone s n else entryDone s n x.1) s) := by
  induction l with
  | nil => exact fun h => h
  | cons x l ih =>
    intro s h
    refine ih ?_
    dsimp only
    split
    · exact failed_ffDone h
    · exact failed_entryDone x.1 h

/-- R55: a RUNNING or DRAINING ring whose entry is not written enters ERROR, though nothing disables it. -/
theorem failed_cqFailed {s : State} {n : Nat} (chain vec : Nat) (hc : ringCfg s n 9 ≠ 0)
    (hst : (getRing s n).state = .running ∨ (getRing s n).state = .draining) :
    Failed n ((getRing s n).errors ||| 4) (cqFailed s n chain false vec) := by
  have h0 : Failed n ((getRing s n).errors ||| 4) (modRing s n fun r =>
      { r with errors := r.errors ||| 4, dead := true, state := if r.state = .running ∨ r.state = .draining then .error else r.state }) := by
    rw [Failed, getRing_modRing_of_error (by simp [hst])]
    exact ⟨by simp [hst], rfl, rfl, hc⟩
  have h1 := failed_signalOn vec (failed_dropFetch h0)
  exact failed_entryDone chain (failed_lost _ (failed_of_fields h1 rfl rfl))

/-! ### A fetch -/

theorem exec_descriptorFetch (n : Nat) (s : State) : exec (.descriptorFetch n) s = fin (descriptorFetch n s) := rfl

theorem rings_wakeGroup (s : State) (g : Nat) : (wakeGroup s g).rings = s.rings ∧ (wakeGroup s g).cfg = s.cfg :=
  ⟨foldl_field State.rings (fun s u => modUnit s u _) (fun _ _ => rfl) _ _, foldl_field State.cfg (fun s u => modUnit s u _) (fun _ _ => rfl) _ _⟩

theorem getRing_congr {s t : State} (h : t.rings = s.rings) (n : Nat) : getRing t n = getRing s n := by
  rw [getRing, h, getRing]

/-- The ring is read as it was, once the fetch is marked. -/
theorem ringWho_fetching (s : State) (n g h : Nat) :
    ringWho (wakeGroup (setRing s n { getRing s n with fetching := true, fetchGrp := g }) h) n =
      { region := (getRing s n).region, fn := (getRing s n).owner.getD 0, pasid := ringCfg s n 6 } := by
  obtain ⟨hr, hc⟩ := rings_wakeGroup (setRing s n { getRing s n with fetching := true, fetchGrp := g }) h
  have hget : getRing (setRing s n { getRing s n with fetching := true, fetchGrp := g }) n = { getRing s n with fetching := true, fetchGrp := g } :=
    tget_tput_self _ s.rings n _ (fun hd => Bool.noConfusion (congrArg RingRec.fetching hd : true = false))
  have hget' : getRing (wakeGroup (setRing s n { getRing s n with fetching := true, fetchGrp := g }) h) n =
      { getRing s n with fetching := true, fetchGrp := g } :=
    (getRing_congr hr n).trans hget
  have hcfg : ringCfg (wakeGroup (setRing s n { getRing s n with fetching := true, fetchGrp := g }) h) n 6 = ringCfg s n 6 := by
    simp only [ringCfg, cfgGet, hc]
    rfl
  simp only [ringWho, hget', hcfg]

theorem ringCfg_wakeGroup (s : State) (n g h sub : Nat) :
    ringCfg (wakeGroup (setRing s n { getRing s n with fetching := true, fetchGrp := g }) h) n sub = ringCfg s n sub := by
  simp only [ringCfg, cfgGet, (rings_wakeGroup _ h).2]
  rfl

/-- Settles O24. -/
theorem fetchesFlagsAndDeadRings : Obligations.FetchesFlagsAndDeadRings := by
  unfold Obligations.FetchesFlagsAndDeadRings
  refine ⟨fun ver ph notRun discard spilled flip fail => ?_, fun r q st res notRun s h => RequestRings.endReq_putEntry h st res notRun,
    fun n chain vec st counted atOnce wrote entry s hd => ?_, fun n chain vec s _ hc hst => ?_, fun n s hw hf hsize => ?_⟩
  · rw [phaseFlags_eq]
    obtain ⟨h1, h2, h3, h4, h5, h6, h7, h8⟩ := phaseFlags_bits ph notRun discard spilled flip fail (decide (ver = 1))
    exact ⟨h1, h2, h3, h4, h5, h6, fun h => h7 (by simpa using h), fun h => h8 (by simpa using h)⟩
  · simp [putEntry, hd]
  · obtain ⟨h1, h2, h3, -⟩ := failed_cqFailed chain vec hc hst
    exact ⟨h1, h2, h3⟩
  · have hcount : fetchCount s n ≤ 16 ∧ fetchCount s n ≤ (getRing s n).eligible ∧
        fetchCount s n ≤ ringSize s n - (getRing s n).fetchCnt.toNat % ringSize s n := by
      simp only [fetchCount]
      omega
    obtain ⟨h1, h2, h3⟩ := hcount
    refine ⟨h1, h2, by omega, ?_⟩
    rw [exec_descriptorFetch, descriptorFetch, if_neg (by simp [hf])]
    dsimp only
    rw [ringWho_fetching]
    simp only [ringSize, ringCfg_wakeGroup]
    rfl

end Sys2Proof.RingFetch
end

section
/-!
SUPPORT. Answers on the data ports: beats and write responses reach their transaction.
-/

namespace Sys2Proof.Answers

open Sys2Proof Sys2Proof.Machine Sys2Proof.Safety Sys2Proof.Bring

/-- The sources of a port are four in a row. -/
theorem portSource_eq {p : Nat} (hp : p < 16) (k : Nat) : unitSource (unitAt .port p) k = 352 + 4 * p + k := by
  have hk : kindOf (unitAt .port p) = .port ∧ unitNo (unitAt .port p) = p := by
    revert p
    decide
  obtain ⟨hk, hn⟩ := hk
  simp only [unitSource, hk, hn]

theorem findTxn_spec {s : State} {port tag : Nat} {x : Txn} (h : findTxn s port tag = some x) : x.port = port ∧ x.tag = tag := by
  simpa using List.find?_some h

/-! ### Answers to a transaction that is outstanding -/

theorem exec_readBeat {s : State} {port tag : Nat} {x : Txn} (hp : s.pins.poRstLow = false) (hx : findTxn s port tag = some x)
    (resp : BitVec 2) (last : Bool) (data : Bytes) : exec (.readBeat port tag resp last data) s = fin (readBeat port tag resp last data s) := by
  show (if s.pins.poRstLow then _ else fin (readAnswer port tag resp last data s)) = _
  rw [if_neg (by simp [hp]), readAnswer, whenKnown]
  simp [hx]

theorem exec_writeResponse {s : State} {port tag : Nat} {x : Txn} (hp : s.pins.poRstLow = false) (hx : findTxn s port tag = some x)
    (resp : BitVec 2) : exec (.writeResponse port tag resp) s = fin (writeResponse port tag resp s) := by
  show (if s.pins.poRstLow then _ else fin (writeAnswer port tag resp s)) = _
  rw [if_neg (by simp [hp]), writeAnswer, whenKnown]
  simp [hx]

section
variable {s : State} {port tag : Nat} {x : Txn}

/-- A beat before the last one. -/
theorem readBeat_early (hx : findTxn s port tag = some x) (hr : x.wr = false) (hb : x.beats + 1 ≠ linesOf x.addr x.len) (resp : BitVec 2) (data : Bytes) :
    readBeat port tag resp false data s =
      (let y := portError s port resp x.cut
       let t := { x with beats := x.beats + 1, err := (match x.err with | some e => some e | none => respStatus resp), data := x.data ++ txnLine x data }
       match x.err, respStatus resp with
       | none, some e => noteErr (modTxn y port tag fun _ => t) x.own e
       | _, _ => modTxn y port tag fun _ => t) := by
  simp only [readBeat, hx]
  rw [if_neg (by simp [hr, hb])]
  rfl

/-- The last beat of a transaction that waits for it. -/
theorem readBeat_last (hx : findTxn s port tag = some x) (hq : x.quar = false) (hr : x.wr = false) (hb : x.beats + 1 = linesOf x.addr x.len)
    (resp : BitVec 2) (data : Bytes) :
    readBeat port tag resp true data s =
      (let y := portError s port resp x.cut
       let e := match x.err with | some e => some e | none => respStatus resp
       retireTxn (if x.err.isNone && e.isSome then lateError y x.own else y)
         { x with beats := x.beats + 1, err := e, data := x.data ++ txnLine x data } e) := by
  simp only [readBeat, hx]
  rw [if_neg (by simp [hr, hb])]
  simp only [hq]
  rfl

/-- The response to a write that waits for it. -/
theorem writeResponse_spec (hx : findTxn s port tag = some x) (hq : x.quar = false) (hw : x.wr = true) (resp : BitVec 2) :
    writeResponse port tag resp s =
      (let y := portError s port resp x.cut
       retireTxn (if (respStatus resp).isSome then lateError y x.own else y) x (respStatus resp)) := by
  simp only [writeResponse, hx, hq, hw]
  rfl

end

/-- The response codes that bring an error, and what they set at the port. -/
theorem portError_of_code {e : BitVec 2 × Status} (he : e ∈ [((1 : BitVec 2), Status.memError), (2, .memDecode), (3, .memPoison)])
    {port : Nat} (hp : port < 16) (s : State) (cut : Bool) :
    respStatus e.1 = some e.2 ∧ portError s port e.1 cut = if e.1 = 2 ∨ cut = true then s else raiseSrc s (354 + 4 * port) := by
  have hsrc : unitSource (unitAt .port port) 2 = 354 + 4 * port := by
    rw [portSource_eq hp]
    omega
  simp only [List.mem_cons, List.not_mem_nil, or_false] at he
  rcases he with rfl | rfl | rfl <;> cases cut <;> simp [respStatus, portError, hsrc]

/-- Settles O27. -/
theorem dataPortAnswersReachTheirTransaction : Obligations.DataPortAnswersReachTheirTransaction := by
  unfold Obligations.DataPortAnswersReachTheirTransaction
  intro port tag x s hw hp hx hq
  obtain ⟨ha, -⟩ := atWork_spec hw
  obtain ⟨hpo, -, -, -, -⟩ := atWork_facts hw
  have ok : respStatus 0 = none ∧ portError s port 0 x.cut = s := by
    refine ⟨rfl, ?_⟩
    unfold portError
    split <;> rfl
  obtain ⟨ok1, ok2⟩ := ok
  have keeps : (match x.err with | some e => some e | none => (none : Option Status)) = x.err := by
    cases x.err <;> rfl
  refine ⟨fun data hr hb => ?_, fun data hr hb he => ?_, fun hwr => ?_, fun e he => ?_, fun data first hr hb he => ?_, fun resp data last hwr => ?_⟩
  · rw [exec_readBeat hpo hx, readBeat_early hx hr hb]
    simp only [ok1, ok2, keeps]
    cases x.err <;> exact fin_of_fields ha rfl rfl rfl
  · rw [exec_readBeat hpo hx, readBeat_last hx hq hr hb]
    simp only [ok1, ok2, he]
    rfl
  · rw [exec_writeResponse hpo hx, writeResponse_spec hx hq hwr]
    simp only [ok1, ok2]
    rfl
  · obtain ⟨h1, h2⟩ := portError_of_code he hp s x.cut
    refine ⟨fun hwr => ?_, fun data hr hb hn => ?_, fun data first hr hb hn => ?_, fun data hr hb hn => ?_, fun data first hr hb hn => ?_⟩
    · rw [exec_writeResponse hpo hx, writeResponse_spec hx hq hwr]
      simp only [h1, h2]
      rfl
    · rw [exec_readBeat hpo hx, readBeat_early hx hr hb]
      simp only [h1, h2, hn]
      rfl
    · rw [exec_readBeat hpo hx, readBeat_early hx hr hb]
      simp only [h1, h2, hn]
      rfl
    · rw [exec_readBeat hpo hx, readBeat_last hx hq hr hb]
      simp only [h1, h2, hn]
      rfl
    · rw [exec_readBeat hpo hx, readBeat_last hx hq hr hb]
      simp only [h2, hn]
      rfl
  · rw [exec_readBeat hpo hx, readBeat_last hx hq hr hb]
    simp only [ok2, he]
    rfl
  · obtain ⟨hport, htag⟩ := findTxn_spec hx
    have hx' : findTxn (raiseSrc s (353 + 4 * port)) port tag = some x := hx
    have e : readBeat port tag resp last data s = failTxn (raiseSrc s (353 + 4 * port)) x .memError := by
      have hsrc : unitSource (unitAt .port port) 1 = 353 + 4 * port := by
        rw [portSource_eq hp]
        omega
      simp only [readBeat, hx, hwr, Bool.true_or, if_true, protocolBreak, hsrc, hx', hq, Bool.false_eq_true, if_false]
    rw [exec_readBeat hpo hx, e]
    rfl

end Sys2Proof.Answers
end

section
/-!
SUPPORT. Symmetric requests: their outputs, contexts, tag checks and comparisons, the disagreement of echo lanes, and acceptance.
-/

namespace Sys2Proof.Symmetric

open Sys2Proof Sys2Proof.Machine Sys2Proof.Safety Sys2Proof.Bring

/-! ### Rows that act on a request in a phase -/

theorem whenReq_of_stands {s : State} {r : Nat} {q : Req} {o : Op} {p : Phase} (h : Stands s r q o p) (f : Req → State) :
    whenReq o p r s f = pumpAll (f q) := by
  obtain ⟨h1, h2, h3⟩ := h
  simp [whenReq, h1, h2, h3]

/-- Settles O29. -/
theorem nopsAndContextRows : Obligations.NopsAndContextRows := by
  unfold Obligations.NopsAndContextRows
  refine ⟨fun r q s => ⟨fun h => ?_, fun h => ?_⟩, fun r q st s hctx => ⟨fun h hcap => ?_, fun h hcap => ?_, fun h hslot => ?_⟩⟩
  · exact congrArg fin (whenReq_of_stands h _)
  · exact congrArg fin (whenReq_of_stands h _)
  · have e : ∃ rest : Bytes, rest.length = 28 ∧ contextInfoOp r s = pumpAll (writeOut s r (q.ctxIn.take 4 ++ rest) .ok 32) := by
      rw [contextInfoOp, whenReq_of_stands h]
      simp only [hctx, if_neg (Nat.not_lt.mpr hcap), List.append_assoc]
      exact ⟨_, by simp [zeros], rfl⟩
    obtain ⟨rest, hl, e⟩ := e
    exact ⟨rest, hl, congrArg fin e⟩
  · have e : contextInfoOp r s = pumpAll (failStep s r .destOverflow 0) := by
      rw [contextInfoOp, whenReq_of_stands h]
      simp only [hctx, if_pos hcap]
    exact congrArg fin e
  · have e : contextCloseOp r s = pumpAll (afterWrites (setReq s r (some { q with ctxOut := zeros 256, status := .ok, result := 0 })) r) := by
      rw [contextCloseOp, whenReq_of_stands h]
      simp only [hctx, hslot]
    exact congrArg fin e

/-! ### The commands of symmetric requests -/

/-- The commands of symmetric requests and their opcodes. -/
def symRows (r : Nat) : List (Instr × Op) :=
  [(Instr.encrypt r, Op.encrypt), (.decrypt r, .decrypt), (.aeadEncrypt r, .aeadEnc), (.aeadDecrypt r, .aeadDec),
    (.gmacGenerate r, .gmacGen), (.gmacVerify r, .gmacVer), (.hash r, .hash), (.macGenerate r, .macGen), (.macVerify r, .macVer),
    (.decryptVerify r, .decVer), (.reencryptVerify r, .reencVer), (.digestVerify r, .digVer)]

theorem exec_symRow {r : Nat} {c : Instr} {o : Op} (h : (c, o) ∈ symRows r) (s : State) : exec c s = fin (symStep o r s) := by
  simp only [symRows, List.mem_cons, Prod.mk.injEq, List.not_mem_nil, or_false] at h
  rcases h with ⟨rfl, rfl⟩ | ⟨rfl, rfl⟩ | ⟨rfl, rfl⟩ | ⟨rfl, rfl⟩ | ⟨rfl, rfl⟩ | ⟨rfl, rfl⟩ | ⟨rfl, rfl⟩ | ⟨rfl, rfl⟩ | ⟨rfl, rfl⟩ | ⟨rfl, rfl⟩ |
    ⟨rfl, rfl⟩ | ⟨rfl, rfl⟩ <;> rfl

/-- What stands when the outputs of a segment are placed: its context, if it saves one. -/
def saved (s : State) (r : Nat) (x : Seg) : State :=
  if x.final then s else modReq s r fun q => { q with ctxOut := ctxBytes s q (runSeg x).st }

section
variable {s : State} {r : Nat} {q : Req} {o : Op}

theorem symStep_loaded (h : Stands s r q o .loaded) (h1 : q.d.flag fSrcPeer = false) (h2 : q.d.flag fDstPeer = false) :
    symStep o r s = pumpAll (symFinish s r q) := by
  obtain ⟨hg, ho, hp⟩ := h
  simp [symStep, hg, ho, hp, h1, h2]

theorem symStep_ready (h : Stands s r q o .ready) (h1 : q.d.flag fSrcPeer = false) (h2 : q.d.flag fDstPeer = false) :
    symStep o r s = pumpAll (symAccept s r q) := by
  obtain ⟨hg, ho, hp⟩ := h
  simp [symStep, hg, ho, hp, h1, h2]

/-- A segment whose lanes agree goes to its place. -/
theorem symFinish_of_agree (h : q.echo = true → echoDiff s q (segOf s q) = none) :
    symFinish s r q = symPut (counted s q) r q (segOf s q) := by
  have hm : (if q.echo then echoDiff (counted s q) q (segOf s q) else none) = none := by
    split
    · next he => exact h he
    · rfl
  have e : symFinish s r q = match (if q.echo then echoDiff (counted s q) q (segOf s q) else none) with
    | some i => echoFails (counted s q) r q (segOf s q) i
    | none => symPut (counted s q) r q (segOf s q) := rfl
  rw [e, hm]

theorem saved_eq_kept (h : getReq s r = some q) : saved (counted s q) r (segOf s q) = Safety.kept s r q := by
  have hg : getReq (counted s q) r = some q := h
  cases hc : q.d.flag fCtxOut <;> simp [saved, segOf, Safety.kept, hc, modReq, hg]

theorem final_eq : (segOf s q).final = !q.d.flag fCtxOut := rfl

theorem tag_shown : (if (segOf s q).final then (runSeg (segOf s q)).tag else []) = (if q.d.flag fCtxOut then [] else (runSeg (segOf s q)).tag) := by
  rw [final_eq]
  cases q.d.flag fCtxOut <;> rfl

end

/-- Where the outputs of a segment go, opcode by opcode, once its context stands. -/
def placed (k : State) (r : Nat) (q : Req) (x : Seg) : State :=
  let o := runSeg x
  let put (b : Bytes) : State := writeOut k r b .ok b.length
  let tagOk := decide (o.tag = (prmTag q.prm).take o.tag.length)
  match q.op with
  | .encrypt | .decrypt => put o.out
  | .aeadEnc => put (outHead q x ++ o.out ++ (if x.final then o.tag else []))
  | .aeadDec =>
    if !x.final || tagOk then put (outHead q x ++ o.out)
    else if feeds k r && !q.spilled then failStep k r .authFail 0
    else writeOut k r (outHead q x ++ o.out) .authFail 0
  | .gmacGen => put (outHead q x ++ (if x.final then o.tag else []))
  | .gmacVer | .macVer => if !x.final || tagOk then put [] else failStep k r .authFail 0
  | .hash | .macGen => put (if x.final then o.tag else [])
  | .decVer => if isAead (modeOf q.d.opcode) && !tagOk then failStep k r .authFail 0 else compareEnd k r q o.out
  | .reencVer => compareEnd k r q (o.out ++ (if isAead (modeOf q.d.opcode) then o.tag else []))
  | .digVer => compareEnd k r q o.tag
  | _ => k

theorem symPut_placed (s : State) (r : Nat) (q : Req) (x : Seg) :
    symPut s r q x = placed (saved s r x) r q x := by
  unfold symPut placed
  cases q.op <;> rfl

/-- The command on a loaded segment whose lanes agree places its outputs. -/
theorem segment_ends {s : State} {r : Nat} {q : Req} {c : Instr} {o : Op} (hrow : (c, o) ∈ symRows r) (h : segment s r q o) :
    exec c s = .next (leaves (placed (Safety.kept s r q) r q (segOf s q))) := by
  obtain ⟨hs, h1, h2, he⟩ := h
  rw [exec_symRow hrow, symStep_loaded hs h1 h2, symFinish_of_agree he, symPut_placed, saved_eq_kept hs.1]
  rfl

/-! ### Outputs, tag checks and comparisons -/

theorem outHead_aead {q : Req} (x : Seg) (h : q.op = .aeadEnc) :
    outHead q x = (if q.d.flag fDeviceIv then x.iv else []) ++ (if q.d.copyAad && isAead (modeOf q.d.opcode) then x.aad else []) := by
  simp [outHead, h, Op.isSym]

theorem outHead_aeadDec {q : Req} (x : Seg) (h : q.op = .aeadDec) :
    outHead q x = if q.d.copyAad && isAead (modeOf q.d.opcode) then x.aad else [] := by
  simp [outHead, h, Op.isSym]

theorem outHead_gmac {q : Req} (x : Seg) (h : q.op = .gmacGen) : outHead q x = if q.d.flag fDeviceIv then x.iv else [] := by
  simp [outHead, h]

/-- A tag check passes where the segment saves a context or the tags agree. -/
theorem passes_iff {s : State} {q : Req} : (!(segOf s q).final || decide ((runSeg (segOf s q)).tag = (prmTag q.prm).take (runSeg (segOf s q)).tag.length)) = true ↔
    q.d.flag fCtxOut = true ∨ (runSeg (segOf s q)).tag = (prmTag q.prm).take (runSeg (segOf s q)).tag.length := by
  simp [final_eq]

/-- Without CONTEXT_OUT nothing is saved. -/
theorem kept_of_final {s : State} {r : Nat} {q : Req} (h : q.d.flag fCtxOut = false) : Safety.kept s r q = counted s q := by
  simp [Safety.kept, h]

/-- Settles O31. -/
theorem tagChecksPassOrFailWithAuthFail : Obligations.TagChecksPassOrFailWithAuthFail := by
  unfold Obligations.TagChecksPassOrFailWithAuthFail
  intro r q s x o aad good
  have hbad : ¬good → q.d.flag fCtxOut = false := fun h => by
    simpa using fun hc => h (.inl hc)
  have pass : good → (!x.final || decide (o.tag = (prmTag q.prm).take o.tag.length)) = true := passes_iff.mpr
  have fail : ¬good → ¬(!x.final || decide (o.tag = (prmTag q.prm).take o.tag.length)) = true := fun h h' => h (passes_iff.mp h')
  refine ⟨fun h hg => ?_, fun h hg hf => ?_, fun h hg hf hsp => ?_, fun h hg => ?_, fun h hg => ?_, fun h hg => ?_, fun h hg => ?_⟩
  · have ho : q.op = .aeadDec := h.1.2.1
    rw [segment_ends (c := .aeadDecrypt r) (by simp [symRows]) h, placed, ho]
    dsimp only
    rw [if_pos (pass hg), outHead_aeadDec _ ho]
  · have ho : q.op = .aeadDec := h.1.2.1
    have hf' : ¬(feeds (counted s q) r && !q.spilled) = true := by
      rcases hf with hf | hf <;> simp [hf]
    rw [segment_ends (c := .aeadDecrypt r) (by simp [symRows]) h, placed, ho]
    dsimp only
    rw [if_neg (fail hg), outHead_aeadDec _ ho, kept_of_final (hbad hg), if_neg hf']
  · have ho : q.op = .aeadDec := h.1.2.1
    rw [segment_ends (c := .aeadDecrypt r) (by simp [symRows]) h, placed, ho]
    dsimp only
    rw [if_neg (fail hg), kept_of_final (hbad hg), if_pos (by simp [hf, hsp])]
  · have ho : q.op = .gmacVer := h.1.2.1
    rw [segment_ends (c := .gmacVerify r) (by simp [symRows]) h, placed, ho]
    dsimp only
    rw [if_pos (pass hg)]
    rfl
  · have ho : q.op = .gmacVer := h.1.2.1
    rw [segment_ends (c := .gmacVerify r) (by simp [symRows]) h, placed, ho]
    dsimp only
    rw [if_neg (fail hg), kept_of_final (hbad hg)]
  · have ho : q.op = .macVer := h.1.2.1
    rw [segment_ends (c := .macVerify r) (by simp [symRows]) h, placed, ho]
    dsimp only
    rw [if_pos (pass hg)]
    rfl
  · have ho : q.op = .macVer := h.1.2.1
    rw [segment_ends (c := .macVerify r) (by simp [symRows]) h, placed, ho]
    dsimp only
    rw [if_neg (fail hg), kept_of_final (hbad hg)]

/-- Settles O32. -/
theorem verifyingRequestsCompareWithTheReference : Obligations.VerifyingRequestsCompareWithTheReference := by
  unfold Obligations.VerifyingRequestsCompareWithTheReference
  refine ⟨fun r q s => ?_, fun q ho hc => ?_⟩
  · intro x o m good ends
    have hcmp : ∀ stream, leaves (compareEnd (Safety.kept s r q) r q stream) = ends stream := fun _ => rfl
    refine ⟨fun h hg => ?_, fun h hm hg => ?_, fun h => ?_, fun h => ?_⟩
    · have ho : q.op = .decVer := h.1.2.1
      have hno : ¬(isAead (modeOf q.d.opcode) && !decide ((runSeg (segOf s q)).tag = (prmTag q.prm).take (runSeg (segOf s q)).tag.length)) = true := by
        rcases hg with hg | hg
        · simp [show isAead (modeOf q.d.opcode) = false from hg]
        · simp [show (runSeg (segOf s q)).tag = _ from hg]
      rw [segment_ends (c := .decryptVerify r) (by simp [symRows]) h, placed, ho, ← hcmp]
      dsimp only
      rw [if_neg hno]
    · have ho : q.op = .decVer := h.1.2.1
      have hyes : (isAead (modeOf q.d.opcode) && !decide ((runSeg (segOf s q)).tag = (prmTag q.prm).take (runSeg (segOf s q)).tag.length)) = true := by
        rw [show isAead (modeOf q.d.opcode) = true from hm, Bool.true_and, Bool.not_eq_true', decide_eq_false_iff_not]
        exact hg
      rw [segment_ends (c := .decryptVerify r) (by simp [symRows]) h, placed, ho]
      dsimp only
      rw [if_pos hyes]
    · have ho : q.op = .reencVer := h.1.2.1
      rw [segment_ends (c := .reencryptVerify r) (by simp [symRows]) h, placed, ho, ← hcmp]
    · have ho : q.op = .digVer := h.1.2.1
      rw [segment_ends (c := .digestVerify r) (by simp [symRows]) h, placed, ho, ← hcmp]
  · have hused : flagUsed q.ver q.op q.d fCtxOut = false := by
      have e : flagUsed q.ver q.op q.d fCtxOut = ctxModes q.op (modeOf q.d.opcode) := rfl
      rcases ho with ho | ho | ho <;> rw [e, ho] <;> rfl
    exact List.any_eq_true.mpr ⟨fCtxOut, by simp [fCtxOut], by simp [hc, hused]⟩

/-! ### Contexts -/

/-- R88: the fields at the head of a context. -/
theorem ctxHead_fields (s : State) (q : Req) (form m : Nat) : (ctxHead s q form m).length = 16 ∧ fld (ctxHead s q form m) 0 2 = 1 ∧
    (form < 256 → fld (ctxHead s q form m) 2 1 = form) := by
  have key : ∀ x : Bytes, x.length = 8 → ctxHead s q form m = le 2 1 ++ (le 1 form ++ (le 1 m ++ (le 2 q.ring ++ (le 2 q.fn ++ x)))) →
      (ctxHead s q form m).length = 16 ∧ fld (ctxHead s q form m) 0 2 = 1 ∧ (form < 256 → fld (ctxHead s q form m) 2 1 = form) := by
    intro x hx h
    rw [h]
    refine ⟨by simp [hx], ?_, fun hf => ?_⟩
    · exact RequestRings.fld_le_append_zero 2 1 _
    · rw [RequestRings.fld_le_append _ _ _ _ _ (by omega), RequestRings.fld_le_append_zero]
      omega
  refine key (match q.slot with | some i => le 4 (handleOf s i) ++ le 4 q.gen | none => zeros 8) ?_ (by simp only [ctxHead, List.append_assoc] <;> rfl)
  cases q.slot <;> simp [zeros]

theorem ctxBytes_clear {s : State} {q : Req} (st : Bytes) (h : savesWrapped s q q.opened = false) :
    ctxBytes s q st = ctxHead s q 0 (modeOf q.d.opcode) ++ zeros 12 ++ st ++ zeros 28 := by
  simp [ctxBytes, h]

/-- The context that a request holds follows its outputs. -/
theorem afterWrites_ctx {s : State} {r : Nat} {q : Req} (hg : getReq s r = some q) (hr : q.status.ran = true) (hc : q.ctxOut ≠ []) :
    afterWrites s r = writePieces (setReq s r (some { q with
          phase := .ctxWrite, outst := (piecesOf q.d.ctx q.ctxOut.length).length, ctxOut := [] })) (reqWho s q)
        (piecesOf q.d.ctx q.ctxOut.length) q.ctxOut (fun _ => .ctx r) false := by
  simp only [afterWrites, hg]
  rw [if_neg (by simp [hr]), if_pos hc]

/-! ### Lanes that disagree -/

/-- Sources that are raised together. -/
theorem foldl_raiseSrc (l : List Nat) : ∀ s : State, l.foldl raiseSrc s = { s with raised := s.raised ++ l } := by
  induction l with
  | nil => intro s; simp
  | cons a l ih => intro s; rw [List.foldl_cons, ih]; simp [raiseSrc]

theorem safeComes_foldl (s : State) (l : List Nat) : safeComes (l.foldl raiseSrc s) = (safeComes s || l.any (leadsSafe s)) := by
  rw [foldl_raiseSrc]
  exact List.any_append

theorem failWith_of_harmless {s : State} {l : List Nat} (f : State → State) (h : safeComes s = false) (hl : ∀ x ∈ l, leadsSafe s x = false) :
    failWith s l f = f (l.foldl raiseSrc s) := by
  have hsafe : safeComes (l.foldl raiseSrc s) = false := by
    rw [safeComes_foldl, h, Bool.false_or, List.any_eq_false]
    simpa using hl
  simp [failWith, hsafe]

theorem failWith_of_harmful {s : State} {l : List Nat} (f : State → State) (hl : ∃ x ∈ l, leadsSafe s x = true) :
    failWith s l f = l.foldl raiseSrc s := by
  have hsafe : safeComes (l.foldl raiseSrc s) = true := by
    rw [safeComes_foldl, Bool.or_eq_true]
    exact .inr (List.any_eq_true.mpr hl)
  simp [failWith, hsafe]

/-- The tag that stands at the end of an output. -/
def tagOut (o : Op) (x : Seg) : Bytes := if (o = .aeadEnc ∨ o = .gmacGen ∨ o = .macGen) ∧ x.final = true then (runSeg x).tag else []

theorem tagOut_eq (o : Op) (x : Seg) :
    (match o with | .aeadEnc | .gmacGen | .macGen => if x.final then (runSeg x).tag else [] | _ => []) = tagOut o x := by
  cases o <;> simp [tagOut]

/-- Opcodes whose output leaves in chunks. -/
def chunked (o : Op) : Bool := match o with | .encrypt | .decrypt | .aeadEnc | .aeadDec => true | _ => false

theorem chunked_iff (o : Op) : chunked o = true ↔ o ∈ [Op.encrypt, .decrypt, .aeadEnc, .aeadDec] := by
  cases o <;> simp [chunked]

/-- The step of a request whose lanes disagree. -/
theorem echoFails_eq {s : State} {r i : Nat} {q : Req} (x : Seg) (h2 : q.d.flag fDstPeer = false) :
    echoFails s r q x i = failWith { s with cnt := { s.cnt with echoMis := s.cnt.echoMis + 1 } }
      ((q.unit.toList ++ q.unit2.toList).map fun u => unitSource u 2) fun t =>
        let out := outHead q x ++ (runSeg x).out ++ tagOut q.op x
        let n := echoReleased out.length (tagOut q.op x).length ((outHead q x).length + i)
        if chunked q.op && (!feeds s r || q.spilled) && decide (0 < n) then writeOut t r (out.take n) .faultDetected 0
        else failStep t r .faultDetected 0 := by
  have e : echoFails s r q x i = failWith { s with cnt := { s.cnt with echoMis := s.cnt.echoMis + 1 } }
      ((q.unit.toList ++ q.unit2.toList).map fun u => unitSource u 2) fun t =>
        let tag := match q.op with | .aeadEnc | .gmacGen | .macGen => if x.final then (runSeg x).tag else [] | _ => []
        let out := outHead q x ++ (runSeg x).out ++ tag
        let n := echoReleased out.length tag.length ((outHead q x).length + i)
        if chunked q.op && !q.d.flag fDstPeer && (!feeds s r || q.spilled) && decide (0 < n) then writeOut t r (out.take n) .faultDetected 0
        else failStep t r .faultDetected 0 := rfl
  rw [e]
  dsimp only
  rw [tagOut_eq, h2]
  simp only [Bool.not_false, Bool.and_true]

/-- A segment whose lanes disagree. -/
theorem symFinish_of_differ {s : State} {r i : Nat} {q : Req} (he : q.echo = true) (hd : echoDiff s q (segOf s q) = some i) :
    symFinish s r q = echoFails (counted s q) r q (segOf s q) i := by
  have hm : (if q.echo then echoDiff (counted s q) q (segOf s q) else none) = some i := by
    rw [if_pos he]
    exact hd
  have e : symFinish s r q = match (if q.echo then echoDiff (counted s q) q (segOf s q) else none) with
    | some i => echoFails (counted s q) r q (segOf s q) i
    | none => symPut (counted s q) r q (segOf s q) := rfl
  rw [e, hm]

/-- Settles O30. -/
theorem cipherRequestsWriteTheirOutput : Obligations.CipherRequestsWriteTheirOutput := by
  unfold Obligations.CipherRequestsWriteTheirOutput
  refine ⟨fun r q s => ?_, fun r q st s => ?_, fun r i q c o s hrow hs h1 h2 he hd hsafe => ?_⟩
  · intro x o tag aad put
    refine ⟨fun h => ?_, fun h => ?_, fun h => ?_, fun h => ?_, fun h => ?_, fun h => ?_⟩
    · rw [segment_ends (c := .encrypt r) (by simp [symRows]) h, placed, h.1.2.1]
    · rw [segment_ends (c := .decrypt r) (by simp [symRows]) h, placed, h.1.2.1]
    · rw [segment_ends (c := .aeadEncrypt r) (by simp [symRows]) h, placed, h.1.2.1]
      dsimp only
      rw [outHead_aead _ h.1.2.1, tag_shown]
    · rw [segment_ends (c := .gmacGenerate r) (by simp [symRows]) h, placed, h.1.2.1]
      dsimp only
      rw [outHead_gmac _ h.1.2.1, tag_shown]
    · rw [segment_ends (c := .hash r) (by simp [symRows]) h, placed, h.1.2.1]
      dsimp only
      rw [tag_shown]
    · rw [segment_ends (c := .macGenerate r) (by simp [symRows]) h, placed, h.1.2.1]
      dsimp only
      rw [tag_shown]
  · exact ⟨ctxBytes_clear st, fun h => by simp [ctxBytes, h], fun form => ctxHead_fields s q form _, fun hg hr hc => afterWrites_ctx hg hr hc⟩
  · have hop : q.op = o := hs.2.1
    intro x us s1 s2 tag out n writes
    have hs2 : (us.map fun u => unitSource u 2).foldl raiseSrc { s1 with cnt := { s1.cnt with echoMis := s1.cnt.echoMis + 1 } } = s2 :=
      List.foldl_map
    have hw : (chunked q.op && (!feeds (counted s q) r || q.spilled) && decide (0 < n)) = true ↔ writes := by
      rw [Bool.and_eq_true, Bool.and_eq_true, chunked_iff, hop]
      simp only [writes, Bool.or_eq_true, Bool.not_eq_true', decide_eq_true_eq, and_assoc]
      rfl
    have hfin : exec c s = .next (leaves (echoFails (counted s q) r q (segOf s q) i)) := by
      rw [exec_symRow hrow, symStep_loaded hs h1 h2, symFinish_of_differ he hd]
      rfl
    have hn : n = echoReleased (outHead q x ++ (runSeg x).out ++ tagOut q.op x).length (tagOut q.op x).length ((outHead q x).length + i) := by
      rw [hop]
      rfl
    have hout : out = outHead q x ++ (runSeg x).out ++ tagOut q.op x := by
      rw [hop]
      rfl
    rw [hfin, echoFails_eq _ h2]
    constructor
    · intro hall
      rw [failWith_of_harmless (s := { s1 with cnt := { s1.cnt with echoMis := s1.cnt.echoMis + 1 } }) _ hsafe (by
        intro y hy
        obtain ⟨u, hu, rfl⟩ := List.mem_map.mp hy
        exact hall u hu), hs2]
      dsimp only
      rw [← hout] at hn
      constructor
      · intro h
        rw [← hout, ← hn, if_pos (hw.mpr h)]
      · intro h
        rw [← hout, ← hn, if_neg (fun h' => h (hw.mp h'))]
    · intro hex
      obtain ⟨u, hu, hlead⟩ := hex
      rw [failWith_of_harmful (s := { s1 with cnt := { s1.cnt with echoMis := s1.cnt.echoMis + 1 } }) _
        ⟨unitSource u 2, List.mem_map.mpr ⟨u, hu, rfl⟩, hlead⟩, hs2]

end Sys2Proof.Symmetric
end

section
/-!
SUPPORT. Acceptance of symmetric requests (check 9 and the values taken).
-/

namespace Sys2Proof.Acceptance

open Sys2Proof Sys2Proof.Machine Sys2Proof.Safety Sys2Proof.Symmetric

/-! ### The values that a request takes -/

section
variable {s : State} {r i : Nat} {q : Req} {e : CacheEnt}

theorem savesWrapped_of_final (st : Option Bytes) (h : q.d.flag fCtxOut = false) : savesWrapped s q st = false := by
  simp [savesWrapped, h]

theorem newMark_of_final (h : q.d.flag fCtxOut = false) : newMark s q none = none := by
  unfold newMark
  dsimp only
  split
  · rfl
  · cases q.op <;> simp [h]

/-- A request with a key that saves no context and is of a message that it begins. -/
theorem takeValues_eq (hs : q.slot = some i) (he : keyEnt s q = some e) (ho : q.d.flag fCtxOut = false) :
    takeValues s r q none =
      (let dev := q.d.flag fDeviceIv
       let n := blocksCounted q none
       let s2 := cacheMod s i e.gen fun x => { x with
         inv := if dev then x.inv + 1 else x.inv, blk := if countsBlocks s q then x.blk + n else x.blk }
       let ops : List VOp :=
         (if dev && decide ((getSlot s i).invRes ≤ e.inv) then [.raiseInv i e.inv] else []) ++
         (if countsBlocks s q && decide (0 < n ∧ (getSlot s i).blkRes < e.blk + n) then
           [.setBlk i (blkReserve (getSlot s i).blkLim (e.blk + n)) (getSlot s i).blkGen] else [])
       let q1 := { q with
         opened := none, ctxKey := [], ctxCtr := (getFn s q.fn).ctxCtr, iv := if dev then some e.inv else none, taken := dev || decide (0 < n) }
       if ops.isEmpty then beginData (setReq s2 r (some q1)) r
       else submitUpd (setReq s2 r (some { q1 with phase := .vault, resume := .values })) ops (some r)) := by
  have hc : ∀ a b c, countsBlocks s { q with opened := a, ctxKey := b, ctxCtr := c } = countsBlocks s q := fun _ _ _ => rfl
  have hk : ∀ a b c, keyEnt s { q with opened := a, ctxKey := b, ctxCtr := c } = some e := fun _ _ _ => he
  simp only [takeValues, savesWrapped_of_final none ho, newMark_of_final ho, hk, hc, Bool.false_and, if_false, Bool.false_eq_true, Option.isSome,
    List.append_nil, Bool.or_false]
  rw [hs]

theorem exhausted_eq (hs : q.slot = some i) (he : keyEnt s q = some e) (st : Option Bytes) :
    exhausted s q st =
      (if q.d.flag fDeviceIv && decide (2 ^ 64 ≤ e.inv) then some true
       else if countsBlocks s q && decide (0 < blocksCounted q st ∧ (getSlot s i).blkLim < e.blk + blocksCounted q st) then some true
       else if q.d.flag fCtxOut && decide (2 ^ 64 ≤ (getFn s q.fn).ctxCtr) then some false
       else none) := by
  simp only [exhausted, he, hs]

/-- A request for a device IV that saves no context and counts no blocks. -/
theorem takeValues_deviceIv (hs : q.slot = some i) (he : keyEnt s q = some e) (ho : q.d.flag fCtxOut = false) (hd : q.d.flag fDeviceIv = true)
    (hn : blocksCounted q none = 0) :
    let s1 := cacheMod s i e.gen fun e => { e with inv := e.inv + 1 }
    let q1 := { q with opened := none, ctxKey := [], ctxCtr := (getFn s q.fn).ctxCtr, taken := true, iv := some e.inv }
    takeValues s r q none =
      if (getSlot s i).invRes ≤ e.inv then submitUpd (setReq s1 r (some { q1 with phase := .vault, resume := .values })) [.raiseInv i e.inv] (some r)
      else beginData (setReq s1 r (some q1)) r := by
  have hblk : ∀ x : CacheEnt, (if countsBlocks s q = true then x.blk + 0 else x.blk) = x.blk := fun x => by split <;> rfl
  rw [takeValues_eq hs he ho]
  simp only [hd, hn, hblk, if_true, Bool.true_and, Bool.true_or, Nat.lt_irrefl, false_and, decide_false, Bool.and_false, Bool.false_eq_true, if_false,
    List.append_nil, decide_eq_true_eq]
  split <;> rfl

/-- A request without a device IV that saves no context and counts blocks. -/
theorem takeValues_blocks (hs : q.slot = some i) (he : keyEnt s q = some e) (ho : q.d.flag fCtxOut = false) (hd : q.d.flag fDeviceIv = false)
    (hc : countsBlocks s q = true) (hn : 0 < blocksCounted q none) :
    let n := e.blk + blocksCounted q none
    let s1 := cacheMod s i e.gen fun e => { e with blk := e.blk + blocksCounted q none }
    let q1 := { q with opened := none, ctxKey := [], ctxCtr := (getFn s q.fn).ctxCtr, taken := true, iv := none }
    takeValues s r q none =
      if (getSlot s i).blkRes < n then
        submitUpd (setReq s1 r (some { q1 with phase := .vault, resume := .values })) [.setBlk i (blkReserve (getSlot s i).blkLim n) (getSlot s i).blkGen] (some r)
      else beginData (setReq s1 r (some q1)) r := by
  rw [takeValues_eq hs he ho]
  simp only [hd, hc, hn, if_true, Bool.true_and, Bool.false_or, true_and, decide_true, Bool.false_and, Bool.false_eq_true, if_false,
    List.nil_append, decide_eq_true_eq]
  split <;> rfl

/-- A request without a key that saves a wrapped context takes the context key and counter of its function. -/
theorem takeValues_wrapped (hs : q.slot = none) (hw : savesWrapped s q none = true) :
    let fr := getFn s q.fn
    let s1 := setFn s q.fn { fr with ctxCtr := fr.ctxCtr + 1 }
    let q1 := { q with opened := none, ctxKey := fr.ctxKey, ctxCtr := fr.ctxCtr, taken := true }
    takeValues s r q none =
      if fr.ctxRes ≤ fr.ctxCtr then
        submitUpd (setReq s1 r (some { q1 with phase := .vault, resume := .values })) [.ctxRes q.fn fr.ctxCtr fr.ctxKey] (some r)
      else beginData (setReq s1 r (some q1)) r := by
  have hk : ∀ a b c, keyEnt s { q with opened := a, ctxKey := b, ctxCtr := c } = none := fun _ _ _ => by simp [keyEnt, hs]
  simp only [takeValues, hw, hk, if_true, Bool.true_and, decide_eq_true_eq]
  rw [hs]
  dsimp only
  by_cases h : (getFn s q.fn).ctxRes ≤ (getFn s q.fn).ctxCtr
  · rw [if_pos h, if_pos h]
    rfl
  · rw [if_neg h, if_neg h]
    rfl

end

/-! ### The commands -/

/-- The commands of symmetric requests and peer steps, with their opcodes and peer flags. -/
def acceptRows (r : Nat) : List (Instr × Op × Bool × Bool) :=
  [(Instr.encrypt r, Op.encrypt, false, false), (.decrypt r, .decrypt, false, false),
    (.aeadEncrypt r, .aeadEnc, false, false), (.aeadDecrypt r, .aeadDec, false, false), (.gmacGenerate r, .gmacGen, false, false),
    (.gmacVerify r, .gmacVer, false, false), (.hash r, .hash, false, false), (.macGenerate r, .macGen, false, false),
    (.macVerify r, .macVer, false, false), (.decryptVerify r, .decVer, false, false), (.reencryptVerify r, .reencVer, false, false),
    (.digestVerify r, .digVer, false, false), (.srcPeer r, .aeadEnc, true, false), (.dstPeer r, .aeadDec, false, true)]

/-- Every one of them accepts a request that is ready. -/
theorem exec_acceptRow {s : State} {r : Nat} {q : Req} {c : Instr} {o : Op} {sp dp : Bool} (h : (c, o, sp, dp) ∈ acceptRows r) (hsafe : s.safe = false)
    (hs : Stands s r q o .ready) (h1 : q.d.flag fSrcPeer = sp) (h2 : q.d.flag fDstPeer = dp) :
    exec c s = .next (leaves (symAccept s r q)) := by
  have sym : ∀ o', o' = o → sp = false → dp = false → fin (symStep o' r s) = .next (leaves (symAccept s r q)) := by
    rintro _ rfl rfl rfl
    rw [symStep_ready hs h1 h2]
    rfl
  obtain ⟨hg, ho, hp⟩ := hs
  simp only [acceptRows, List.mem_cons, Prod.mk.injEq, List.not_mem_nil, or_false] at h
  rcases h with ⟨rfl, rfl, rfl, rfl⟩ | ⟨rfl, rfl, rfl, rfl⟩ | ⟨rfl, rfl, rfl, rfl⟩ | ⟨rfl, rfl, rfl, rfl⟩ | ⟨rfl, rfl, rfl, rfl⟩ | ⟨rfl, rfl, rfl, rfl⟩ |
    ⟨rfl, rfl, rfl, rfl⟩ | ⟨rfl, rfl, rfl, rfl⟩ | ⟨rfl, rfl, rfl, rfl⟩ | ⟨rfl, rfl, rfl, rfl⟩ | ⟨rfl, rfl, rfl, rfl⟩ | ⟨rfl, rfl, rfl, rfl⟩ |
    ⟨rfl, rfl, rfl, rfl⟩ | ⟨rfl, rfl, rfl, rfl⟩
  case inr.inr.inr.inr.inr.inr.inr.inr.inr.inr.inr.inr.inl =>
    have e : srcPeerOp r s = pumpAll (symAccept s r q) := by simp [srcPeerOp, hg, ho, hp, h1, hsafe]
    exact congrArg fin e
  case inr.inr.inr.inr.inr.inr.inr.inr.inr.inr.inr.inr.inr =>
    have e : dstPeerOp r s = pumpAll (symAccept s r q) := by simp [dstPeerOp, hg, ho, hp, h2, hsafe]
    exact congrArg fin e
  all_goals exact sym _ rfl rfl rfl

/-- What check 9 makes of a request. -/
theorem symAccept_eq {s : State} {r : Nat} {q : Req} {st : Option Bytes} (ht : q.taken = false)
    (h : q.d.flag fCtxIn = false ∧ st = none ∨ ∃ b, q.d.flag fCtxIn = true ∧ ctxTest s q = .ok b ∧ st = some b) :
    symAccept s r q = checkNine s r q st (takeValues s r q st) := by
  rcases h with ⟨h, rfl⟩ | ⟨b, h, hb, rfl⟩
  · simp [symAccept, ht, h]
  · simp [symAccept, ht, h, hb]

/-- A slot that retires is RETIRED. -/
theorem applyOp_retire {s : State} {i : Nat} (h : (getSlot s i).state = .active ∨ (getSlot s i).state = .replacing) :
    (getSlot (applyOp s (.retire i)) i).state = .retired := by
  have hf : fromState s i [.active, .replacing] = true := by
    rcases h with h | h <;> simp [fromState, h]
  simp only [applyOp, hf, if_true]
  have key : ∀ y : State, (getSlot (setSlot y i { getSlot y i with state := .retired }) i).state = .retired := by
    intro y
    have e : getSlot (setSlot y i { getSlot y i with state := .retired }) i = { getSlot y i with state := .retired } :=
      tget_tput_self _ y.vault.slots i _ (fun hd => SlotState.noConfusion (congrArg SlotRec.state hd : SlotState.retired = SlotState.free))
    rw [e]
  exact key _

/-- Settles O33. -/
theorem acceptanceTakesTheNextInvocation : Obligations.AcceptanceTakesTheNextInvocation := by
  unfold Obligations.AcceptanceTakesTheNextInvocation
  refine ⟨fun r i q e s hs he => ?_, fun r q s hs hw => ?_, fun r i q c o sp dp s hrow hsafe hst h1 h2 => ?_, fun i s h => applyOp_retire h⟩
  · intro q0
    refine ⟨fun hd ho => ⟨fun hinv => ?_, fun hn => ⟨fun hinv => ?_, fun hlt => ?_, fun hle => ?_⟩⟩, fun hd ho hc hn => ⟨fun hlt => ?_, fun hle => ?_, fun hle => ?_, fun hlt => ?_⟩,
      fun hd ho hm hop => ?_⟩
    · rw [exhausted_eq hs he, if_pos (by rw [hd, decide_eq_true hinv]; rfl)]
    · rw [exhausted_eq hs he, if_neg (by rw [decide_eq_false (Nat.not_le.mpr hinv)]; simp), if_neg (by simp [hn]), if_neg (by simp [ho])]
    · exact (takeValues_deviceIv hs he ho hd hn).trans (if_neg (Nat.not_le.mpr hlt))
    · exact (takeValues_deviceIv hs he ho hd hn).trans (if_pos hle)
    · have hlt' : (getSlot s i).blkLim < e.blk + blocksCounted q none := hlt
      simp [exhausted_eq hs he, hd, hc, hn, hlt']
    · have hle' : e.blk + blocksCounted q none ≤ (getSlot s i).blkLim := hle
      simp [exhausted_eq hs he, hd, ho, Nat.not_lt.mpr hle']
    · exact (takeValues_blocks hs he ho hd hc hn).trans (if_neg (Nat.not_lt.mpr hle))
    · exact (takeValues_blocks hs he ho hd hc hn).trans (if_pos hlt)
    · rcases hop with hop | hop <;> simp [newMark, hm, hop, hd, ho, he]
  · exact ⟨fun hlt => (takeValues_wrapped hs hw).trans (if_neg (Nat.not_le.mpr hlt)), fun hle => (takeValues_wrapped hs hw).trans (if_pos hle)⟩
  · rw [exec_acceptRow hrow hsafe hst h1 h2]
    refine ⟨fun ht => ?_, fun e ht hin herr => ?_, fun st ht hctx => ?_⟩
    · rw [symAccept, if_pos ht]
    · have e' : symAccept s r q = failStep s r e 0 := by simp [symAccept, ht, hin, herr]
      rw [e']
    · rw [symAccept_eq ht hctx]
      refine ⟨fun e x hl => ?_, fun e hl hd hr => ?_, fun hl hd => ?_⟩
      · simp only [checkNine, hl]
      · simp only [checkNine, hl, hd, hr, if_true]
      · have hrng : (if q.d.flag fDeviceIv then rngStop s else none) = none := by
          split
          · next h => exact hd h
          · rfl
        simp only [checkNine, hl, hrng]
        refine ⟨fun hx => ?_, fun hx hs => ?_, fun hx => ?_⟩
        · rw [hx]
        · rw [hx, hs]
        · rw [hx]

end Sys2Proof.Acceptance
end

section
/-!
SUPPORT. Public-key requests: inputs, results, and the end of an operation.
-/

namespace Sys2Proof.PublicKey

open Sys2Proof Sys2Proof.Machine Sys2Proof.Safety Sys2Proof.Symmetric

/-- The commands of public-key requests and their opcodes. -/
def pkaRows (r : Nat) : List (Instr × Op) :=
  [(Instr.sign r, Op.sign), (.verify r, .verify), (.rsaEncrypt r, .rsaEnc), (.rsaDecrypt r, .rsaDec),
    (.keyAgree r, .keyAgree), (.kemEncapsulate r, .kemEnc), (.kemDecapsulate r, .kemDec), (.keyGenerate r, .keyGen), (.publicKey r, .pubKey)]

theorem exec_pkaRow {r : Nat} {c : Instr} {o : Op} (h : (c, o) ∈ pkaRows r) (s : State) : exec c s = fin (pkaStep o r s) := by
  simp only [pkaRows, List.mem_cons, Prod.mk.injEq, List.not_mem_nil, or_false] at h
  rcases h with ⟨rfl, rfl⟩ | ⟨rfl, rfl⟩ | ⟨rfl, rfl⟩ | ⟨rfl, rfl⟩ | ⟨rfl, rfl⟩ | ⟨rfl, rfl⟩ | ⟨rfl, rfl⟩ | ⟨rfl, rfl⟩ | ⟨rfl, rfl⟩ <;> rfl

/-- Settles O34. -/
theorem pkaOperationsRunOnValidInputs : Obligations.PkaOperationsRunOnValidInputs := by
  unfold Obligations.PkaOperationsRunOnValidInputs
  intro r q s c o hrow hs
  obtain ⟨hg, ho, hp⟩ := hs
  have e : pkaStep o r s = pumpAll (pkaLoad s r q) := by simp [pkaStep, hg, ho, hp]
  rw [exec_pkaRow hrow, e]
  refine ⟨fun h => ?_, fun x h => ?_⟩
  · simp only [pkaLoad, h]
    rfl
  · simp only [pkaLoad, h]
    rfl

/-! ### The end of an operation -/

theorem exec_pkaOperationEnd {s : State} {r : Nat} {q : Req} (hp : q.phase = .running) (hg : getReq s r = some q) (ho : q.op.isPka = true) :
    exec (.pkaOperationEnd r) s = .next (leaves (pkaEnd s r q)) := by
  have e : pkaOperationEnd r s = pumpAll (pkaEnd s r q) := by simp [pkaOperationEnd, hg, hp, ho]
  exact congrArg fin e

/-- What the result check looks at passes, or the result is not checked. -/
def Checked (s : State) (q : Req) : Prop :=
  resultChecked q.op (pkAlg q.d.mode) = false ∨
    Config.test (.resultCheck (pkAlg q.d.mode)) [keyMat s q, q.opnd, q.srcB.take q.d.aadLen, q.srcB.drop q.d.aadLen, pkaResult s q] = true

/-- Where a result that stands goes, opcode by opcode. -/
def pkaPut (s : State) (r : Nat) (q : Req) (out : Bytes) : State :=
  let alg := pkAlg q.d.mode
  match q.op with
  | .sign | .rsaEnc | .pubKey => writeOut (countPka s) r out .ok out.length
  | .verify => verifyEnd (countPka s) r q
  | .rsaDec =>
    if Config.test (.oaep (pkHash q.d.mode)) [keyMat s q, q.srcB.take q.d.aadLen, q.srcB.drop q.d.aadLen] then
      writeOut (countPka s) r out .ok out.length
    else failStep (countPka s) r .authFail 0
  | .keyAgree => keepSecret (countPka s) r q out []
  | .kemEnc => keepSecret (countPka s) r q (primBytes (.kemSs alg) [q.opnd, q.drawn] (algSizes alg 0).2.2) out
  | .kemDec => keepSecret (countPka s) r q out []
  | .keyGen =>
    pairTest (countPka s) r q (genPolicy q.d.mode) out (pairFails (countPka s) r q)
      (createSlot (countPka s) r (genPolicy q.d.mode) (prmObj q.prm) out 0 (publicOf alg (pkModW q.d.mode) out))
  | _ => countPka s

theorem pkaEnd_checked {s : State} (r : Nat) {q : Req} (h : Checked s q) :
    pkaEnd s r q = if decide (q.op = .keyAgree) && zeroSecret (pkAlg q.d.mode) (pkaResult s q) then failStep s r .descField 0x30
      else pkaPut s r q (pkaResult s q) := by
  have hno : ¬(resultChecked q.op (pkAlg q.d.mode) &&
      !Config.test (.resultCheck (pkAlg q.d.mode)) [keyMat s q, q.opnd, q.srcB.take q.d.aadLen, q.srcB.drop q.d.aadLen, pkaResult s q]) = true := by
    rcases h with h | h <;> simp [h]
  unfold pkaEnd
  dsimp only
  rw [if_neg hno]
  unfold pkaPut
  cases q.op <;> rfl

theorem pkaEnd_unchecked {s : State} (r : Nat) {q : Req} (h : ¬Checked s q) : pkaEnd s r q = resultFails s r q := by
  rw [Checked, not_or, Bool.not_eq_false, Bool.not_eq_true] at h
  obtain ⟨h1, h2⟩ := h
  unfold pkaEnd
  dsimp only
  rw [if_pos (by rw [h1, h2]; rfl)]

/-- Where the result stands and is no secret that is rejected, it goes to its place. -/
theorem exec_end_put {s : State} {r : Nat} {q : Req} {o : Op} (hp : q.phase = .running) (hg : getReq s r = some q) (hc : Checked s q)
    (ho : q.op = o) (hpka : o.isPka = true) (hne : o = .keyAgree → zeroSecret (pkAlg q.d.mode) (pkaResult s q) = false) :
    exec (.pkaOperationEnd r) s = .next (leaves (pkaPut s r q (pkaResult s q))) := by
  rw [exec_pkaOperationEnd hp hg (ho ▸ hpka), pkaEnd_checked r hc, if_neg]
  intro h
  rw [Bool.and_eq_true, decide_eq_true_eq] at h
  rw [hne (ho ▸ h.1)] at h
  exact absurd h.2 (by simp)

/-! ### A unit whose result fails -/

theorem unitFails_eq {s : State} {r u : Nat} {q : Req} (hu : pkaOf q = some u) (hs : safeComes s = false) :
    unitFails s r q = if leadsSafe s (unitSource u 1) then raiseSrc s (unitSource u 1) else failStep (raiseSrc s (unitSource u 1)) r .faultDetected 0 := by
  have e : unitFails s r q = failWith s [unitSource u 1] fun s => failStep s r .faultDetected 0 := by simp [unitFails, hu]
  rw [e]
  split
  · next h => rw [failWith_of_harmful _ ⟨unitSource u 1, by simp, h⟩]; rfl
  · next h =>
    rw [failWith_of_harmless _ hs (by simpa using h)]
    rfl

/-- Settles O35. -/
theorem pkaOperationEndWritesTheResult : Obligations.PkaOperationEndWritesTheResult := by
  unfold Obligations.PkaOperationEndWritesTheResult
  refine ⟨fun r q s hp hg => ?_, fun r u q s hu hs => ?_, fun r q s hst => ?_⟩
  · intro x alg out aad data checked keeps
    have put := fun {o : Op} (hc : Checked s q) => exec_end_put (o := o) hp hg hc
    refine ⟨fun hc ho => ?_, fun hc ho => ?_, fun hc ho => ?_, fun hc ho => ?_, fun hc ho hz => ?_, fun hc ho hz => ?_, fun hc ho => ?_, fun hc ho => ?_,
      fun hc ho => ⟨fun h => ?_, fun h1 h2 => ?_, fun h1 h2 => ?_⟩⟩
    · rw [exec_pkaOperationEnd hp hg ho, pkaEnd_unchecked r hc]
    · rcases ho with ho | ho | ho
      · rw [put hc ho rfl (by simp), pkaPut, ho]
        rfl
      · rw [put hc ho rfl (by simp), pkaPut, ho]
        rfl
      · rw [put hc ho rfl (by simp), pkaPut, ho]
        rfl
    · rw [put hc ho rfl (by simp), pkaPut, ho]
      rfl
    · rw [put hc ho rfl (by simp), pkaPut, ho]
      rfl
    · have hzero : (decide (q.op = .keyAgree) && zeroSecret (pkAlg q.d.mode) (pkaResult s q)) = true := by
        rw [ho, Bool.and_eq_true]
        exact ⟨rfl, hz⟩
      rw [exec_pkaOperationEnd hp hg (by rw [ho]; rfl), pkaEnd_checked r hc, if_pos hzero]
    · rw [put hc ho rfl (fun _ => hz), pkaPut, ho]
      rfl
    · rw [put hc ho rfl (by simp), pkaPut, ho]
      rfl
    · rw [put hc ho rfl (by simp), pkaPut, ho]
      rfl
    · rw [put hc ho rfl (by simp), pkaPut, ho]
      dsimp only [pairTest]
      rw [if_pos (by rw [show pairStands _ (pkaResult s q) = false from h]; rfl)]
      rfl
    · rw [put hc ho rfl (by simp), pkaPut, ho]
      dsimp only [pairTest]
      rw [if_neg (by rw [show pairStands _ (pkaResult s q) = true from h1]; simp), if_neg (by rw [show pairwiseOk _ (pkaResult s q) = false from h2]; simp)]
      rfl
    · rw [put hc ho rfl (by simp), pkaPut, ho]
      dsimp only [pairTest]
      rw [if_neg (by rw [show pairStands _ (pkaResult s q) = true from h1]; simp), if_pos (show pairwiseOk _ (pkaResult s q) = true from h2)]
      rfl
  · intro source resFail pctFail
    have res : ∀ y : State, safeComes y = safeComes s → leadsSafe y (unitSource u 1) = leadsSafe s (unitSource u 1) →
        (leadsSafe s (unitSource u 1) = false → unitFails y r q = failStep (source y) r .faultDetected 0) ∧
        (leadsSafe s (unitSource u 1) = true → unitFails y r q = source y) := by
      intro y h1 h2
      rw [unitFails_eq hu (h1.trans hs), h2]
      exact ⟨fun h => by rw [h]; rfl, fun h => by rw [h]; rfl⟩
    obtain ⟨r1, r2⟩ := res { s with cnt := { s.cnt with resFail := s.cnt.resFail + 1 } } rfl rfl
    obtain ⟨p1, p2⟩ := res { s with cnt := { s.cnt with pctFail := s.cnt.pctFail + 1 } } rfl rfl
    exact ⟨fun h => ⟨r1 h, p1 h⟩, fun h => ⟨r2 h, p2 h⟩⟩
  · have e : rsaKeygenTimeout r s = pumpAll (if pkAlg q.d.mode = 1 then failStep s r .faultDetected 0 else s) := whenReq_of_stands hst _
    have hx : exec (.rsaKeygenTimeout r) s = fin (pumpAll (if pkAlg q.d.mode = 1 then failStep s r .faultDetected 0 else s)) := congrArg fin e
    rw [hx]
    refine ⟨fun h => ?_, fun h => ?_⟩
    · rw [if_pos h]
      rfl
    · rw [if_neg h]
      rfl

end Sys2Proof.PublicKey
end

section
/-!
SUPPORT. Key management: creation of slots, exports, imports, replacements and erasures.
-/

namespace Sys2Proof.Keys

open Sys2Proof Sys2Proof.Machine Sys2Proof.Safety Sys2Proof.Symmetric

/-! ### Creation of slots -/

/-- R130, R149: the slot that the allocator gives is put, with its record, in one update. -/
theorem putSlot_eq {s t : State} {r i : Nat} (q : Req) (policy : Nat) (tag mat : Bytes) (lim : Nat) (tail : Bytes) (hp : pickSlot s = some (i, t)) :
    putSlot s r q policy tag mat lim tail =
      (let d := if polHas policy pDeviceIv then drbgCall t [] 4 else ([], t)
       submitUpd (setReq d.2 r (some { q with newSlot := some i, out := tail, result := 8 + tail.length, phase := .vault, resume := .create, outst := 0 }))
        [.put i { state := .active, owner := q.fn, policy := policy, tag := fit 16 tag, mat := mat, fixed := ofBe d.1
                  large := if needsLarge mat.length then some (freeLarge t) else none
                  blkLim := limitOf policy lim, epoch := (getSlot t i).epoch }] (some r)) := by
  unfold putSlot
  rw [hp]
  dsimp only [newRecord]
  split <;> rfl

theorem createSlot_eq {s : State} {r : Nat} {q : Req} (hg : getReq s r = some q) (policy : Nat) (tag mat : Bytes) (lim : Nat) (tail : Bytes) :
    createSlot s r policy tag mat lim tail =
      if !polHas policy pDeviceIv then putSlot s r q policy tag mat lim tail
      else match drbgStop s, drbgReady s with
        | some e, _ => failStep s r e 0
        | none, none => awaitDrbg s r
        | none, some t => putSlot t r q policy tag mat lim tail := by
  unfold createSlot
  rw [hg] <;> rfl

/-! ### Requests with their randomness at hand -/

theorem kmStep_loaded {s : State} {r : Nat} {q : Req} {o : Op} (h : Stands s r q o .loaded) : kmStep o r s = pumpAll (kmLoaded s r q) := by
  obtain ⟨hg, ho, hp⟩ := h
  simp [kmStep, hg, ho, hp]

/-- The commands of requests that compute once they are loaded. -/
def kmRows (r : Nat) : List (Instr × Op) :=
  [(Instr.generateSym r, Op.genSym), (.derive r, .derive), (.importWrapped r, .impWrap), (.importKem r, .impKem),
    (.exportWrapped r, .expWrap), (.exportKem r, .expKem), (.replace r, .replace)]

theorem exec_kmRow {s : State} {r : Nat} {q : Req} {c : Instr} {o : Op} (hrow : (c, o) ∈ kmRows r) (h : Stands s r q o .loaded) :
    exec c s = .next (leaves (kmLoaded s r q)) := by
  have e := kmStep_loaded h
  simp only [kmRows, List.mem_cons, Prod.mk.injEq, List.not_mem_nil, or_false] at hrow
  rcases hrow with ⟨rfl, rfl⟩ | ⟨rfl, rfl⟩ | ⟨rfl, rfl⟩ | ⟨rfl, rfl⟩ | ⟨rfl, rfl⟩ | ⟨rfl, rfl⟩ | ⟨rfl, rfl⟩ <;> exact congrArg fin e

theorem drawn_of {s : State} {q : Req} (h : kmBits s q = 0 ∨ q.drawn ≠ []) : ¬(0 < kmBits s q ∧ q.drawn = []) := by
  rintro ⟨h1, h2⟩
  rcases h with h | h
  · omega
  · exact h h2

/-! ### Exports -/

/-- Where the public inputs of a KEM export are valid and the results pass, the package leaves. -/
theorem exportKem_cases (s : State) (r : Nat) (q : Req) :
    let b := q.srcB.drop q.d.aadLen
    let kem := kmSub q.d.mode
    let cl := kmPartner q.d.mode
    let ek := b.take (algSizes kem 0).1
    let pk := b.drop (algSizes kem 0).1
    let eph := generate cl 0 (q.drawn.drop 32)
    let ssc := agreed cl eph pk
    let ct := primBytes (.kemCt kem) [ek, q.drawn.take 32] (algSizes kem 0).2.1
    let epk := publicOf cl 0 eph
    let kek := kemWrapKek (primBytes (.kemSs kem) [ek, q.drawn.take 32] 32) ssc ct epk (q.srcB.take q.d.aadLen)
    let out := ct ++ epk ++ kwpWrap kek (packageOf (slotRec s q) (keyMat s q))
    let stands (input out : Bytes) : Prop := curveChecked cl = false ∨ Config.test (.resultCheck cl) [eph, input, [], [], out] = true
    ((publicOk kem 0 ek = false ∨ publicOk cl 0 pk = false ∨ zeroSecret cl ssc = true) → exportKem s r q = failStep s r .descField 8) ∧
    (publicOk kem 0 ek = true → publicOk cl 0 pk = true → zeroSecret cl ssc = false →
      (stands [] epk → stands pk ssc → exportKem s r q = writeOut (kmCount s q) r out .ok out.length) ∧
      (¬stands [] epk ∨ ¬stands pk ssc → exportKem s r q = resultFails s r q)) := by
  intro b kem cl ek pk eph ssc ct epk kek out stands
  have hbad : ∀ i o : Bytes, (curveChecked cl && !Config.test (.resultCheck cl) [eph, i, [], [], o]) = true ↔ ¬stands i o := by
    intro i o
    simp only [stands]
    cases curveChecked cl <;> cases Config.test (.resultCheck cl) [eph, i, [], [], o] <;> simp
  have e : exportKem s r q = if !publicOk kem 0 ek || !publicOk cl 0 pk || zeroSecret cl ssc then failStep s r .descField 8
      else if (curveChecked cl && !Config.test (.resultCheck cl) [eph, [], [], [], epk]) ||
          (curveChecked cl && !Config.test (.resultCheck cl) [eph, pk, [], [], ssc]) then resultFails s r q
      else writeOut (kmCount s q) r out .ok out.length := rfl
  rw [e]
  refine ⟨fun h => if_pos (by rcases h with h | h | h <;> simp [h]), fun h1 h2 h3 => ?_⟩
  rw [if_neg (by simp [h1, h2, h3])]
  refine ⟨fun g1 g2 => if_neg ?_, fun g => if_pos ?_⟩
  · rw [Bool.or_eq_true, hbad, hbad]
    tauto
  · rw [Bool.or_eq_true, hbad, hbad]
    exact g

/-- Settles O36. -/
theorem keyMaterialIsMadeAndExported : Obligations.KeyMaterialIsMadeAndExported := by
  unfold Obligations.KeyMaterialIsMadeAndExported
  refine ⟨fun r policy lim q tag mat tail s hg => ?_, fun r q s hd => ?_⟩
  · intro put
    have hc := createSlot_eq hg policy tag mat lim tail
    refine ⟨fun hp i t hs => ?_, fun hp => ⟨fun e he => ?_, fun h1 h2 => ?_, fun y i t h1 h2 hs => ?_⟩, fun hs hp => ?_⟩
    · rw [hc, if_pos (by simp [hp]), putSlot_eq _ _ _ _ _ _ hs, hp]
      rfl
    · rw [hc, if_neg (by simp [hp]), he]
    · rw [hc, if_neg (by simp [hp]), h1, h2]
      rfl
    · rw [hc, if_neg (by simp [hp]), h1, h2]
      dsimp only
      rw [putSlot_eq _ _ _ _ _ _ hs, hp]
      rfl
    · rw [hc, if_pos (by simp [hp]), putSlot, hs]
  · have hno := drawn_of hd
    refine ⟨fun h => ?_, fun h => ?_, fun h => ?_, fun h hdr => ?_⟩
    · rw [exec_kmRow (by simp [kmRows]) h, kmLoaded, if_neg hno, h.2.1]
      rfl
    · rw [exec_kmRow (by simp [kmRows]) h, kmLoaded, if_neg hno, h.2.1]
      dsimp only [deriveLoaded]
      split <;> rfl
    · rw [exec_kmRow (by simp [kmRows]) h, kmLoaded, if_neg hno, h.2.1]
      rfl
    · have e : exec (.exportKem r) s = .next (leaves (exportKem s r q)) := by
        rw [exec_kmRow (by simp [kmRows]) h, kmLoaded, if_neg hno, h.2.1]
        dsimp only
        rw [if_neg hdr]
      obtain ⟨c1, c2⟩ := exportKem_cases s r q
      intro b kem cl ek pk eph ssc ct epk kek out
      rw [e]
      refine ⟨fun hbad => by rw [c1 hbad], fun g1 g2 g3 t1 t2 => by rw [(c2 g1 g2 g3).1 t1 t2], fun g1 g2 g3 hc t => ?_⟩
      rw [(c2 g1 g2 g3).2 (t.imp (fun t => ?_) (fun t => ?_))]
      · rintro (h' | h')
        · exact absurd (hc.symm.trans h') (by simp)
        · exact absurd (t.symm.trans h') (by simp)
      · rintro (h' | h')
        · exact absurd (hc.symm.trans h') (by simp)
        · exact absurd (t.symm.trans h') (by simp)

/-! ### Imports -/

/-- What a key of a policy goes through before it is kept: a key pair passes its pairwise test on a PKA unit. -/
theorem pairImport_cases (x : State) (r : Nat) (q : Req) (pol : Nat) (mat : Bytes) (good : State) :
    (polKind pol = 0 → pairImport x r q pol mat good = good) ∧
    (polKind pol ≠ 0 → (pkaOf q).isSome = true →
      (pairStands pol mat = true → pairwiseOk pol mat = true → pairImport x r q pol mat good = good) ∧
      (pairStands pol mat = true → pairwiseOk pol mat = false → pairImport x r q pol mat good = failStep x r .descField 8) ∧
      (pairStands pol mat = false → pairImport x r q pol mat good = resultFails x r q)) ∧
    (polKind pol ≠ 0 → pkaOf q = none →
      (readyBit x (some (groupOfReq x q)) 3 = false → pairImport x r q pol mat good = failStep x r .notReady 0) ∧
      (readyBit x (some (groupOfReq x q)) 3 = true →
        pairImport x r q pol mat good = setReq x r (some { q with phase := .waitGrant, resume := .unit2, grants := 1 }))) := by
  refine ⟨fun h => if_pos h, fun h hu => ?_, fun h hu => ?_⟩
  · have e : pairImport x r q pol mat good = pairTest x r q pol mat (failStep x r .descField 8) good := (if_neg h).trans (if_pos hu)
    rw [e]
    exact ⟨fun h1 h2 => by simp [pairTest, h1, h2], fun h1 h2 => by simp [pairTest, h1, h2], fun h1 => by simp [pairTest, h1]⟩
  · have e : pairImport x r q pol mat good = if !readyBit x (some (groupOfReq x q)) 3 then failStep x r .notReady 0
        else setReq x r (some { q with phase := .waitGrant, resume := .unit2, grants := 1 }) := (if_neg h).trans (if_neg (by simp [hu]))
    rw [e]
    exact ⟨fun h1 => by simp [h1], fun h1 => by simp [h1]⟩

/-- Where the test lets a key pass, the statement's good end follows from what the request becomes. -/
theorem tested_of {c : Instr} {s x : State} {r : Nat} {q : Req} {pol : Nat} {mat : Bytes} {y : State} {good : Prop}
    (h : exec c s = .next (leaves (pairImport x r q pol mat y))) (hgood : exec c s = .next (leaves y) → good) :
    (polKind pol = 0 → good) ∧
    (polKind pol ≠ 0 → (pkaOf q).isSome = true → pairStands pol mat = true → pairwiseOk pol mat = true → good) ∧
    (polKind pol ≠ 0 → (pkaOf q).isSome = true → pairStands pol mat = true → pairwiseOk pol mat = false →
      exec c s = .next (leaves (failStep x r .descField 8))) ∧
    (polKind pol ≠ 0 → (pkaOf q).isSome = true → pairStands pol mat = false → exec c s = .next (leaves (resultFails x r q))) ∧
    (polKind pol ≠ 0 → pkaOf q = none → readyBit x (some (groupOfReq x q)) 3 = false → exec c s = .next (leaves (failStep x r .notReady 0))) ∧
    (polKind pol ≠ 0 → pkaOf q = none → readyBit x (some (groupOfReq x q)) 3 = true →
      exec c s = .next (leaves (setReq x r (some { q with phase := .waitGrant, resume := .unit2, grants := 1 })))) := by
  obtain ⟨c1, c2, c3⟩ := pairImport_cases x r q pol mat y
  refine ⟨fun h1 => hgood (h.trans (by rw [c1 h1])), fun h1 hu h2 h3 => hgood (h.trans (by rw [(c2 h1 hu).1 h2 h3])), fun h1 hu h2 h3 => h.trans (by rw [(c2 h1 hu).2.1 h2 h3]),
    fun h1 hu h2 => h.trans (by rw [(c2 h1 hu).2.2 h2]), fun h1 hu h2 => h.trans (by rw [(c3 h1 hu).1 h2]), fun h1 hu h2 => h.trans (by rw [(c3 h1 hu).2 h2])⟩

/-- What a package becomes whose key has passed its test. -/
def packagePut (x : State) (r : Nat) (q : Req) (b : Bytes) : State :=
  match (if polHas (fld b 4 8) pDeviceIv then rngStop x else none) with
  | some e => failStep x r e 0
  | none =>
    if needsLarge (b.drop 32).length && !quotaOk x q false true false then failStep x r .quota 0
    else createSlot (modReq x r fun q => { q with resLarge := needsLarge (b.drop 32).length }) r (fld b 4 8) (slice b 12 16) (b.drop 32) (fld b 28 1) []

theorem importPackage_good {b : Bytes} (h : packageOk b = true) (x : State) (r : Nat) (q : Req) :
    importPackage x r q b = pairImport x r q (fld b 4 8) (b.drop 32) (packagePut x r q b) := by
  unfold importPackage
  rw [if_neg (by simp [h])]
  rfl

theorem packagePut_cases (x : State) (r : Nat) (q : Req) (b : Bytes) :
    (∀ e, polHas (fld b 4 8) pDeviceIv = true → rngStop x = some e → packagePut x r q b = failStep x r e 0) ∧
    ((polHas (fld b 4 8) pDeviceIv = true → rngStop x = none) →
      (needsLarge (b.drop 32).length = true → quotaOk x q false true false = false → packagePut x r q b = failStep x r .quota 0) ∧
      ((needsLarge (b.drop 32).length = true → quotaOk x q false true false = true) → packagePut x r q b =
        createSlot (modReq x r fun q => { q with resLarge := needsLarge (b.drop 32).length }) r (fld b 4 8) (slice b 12 16) (b.drop 32) (fld b 28 1) [])) := by
  refine ⟨fun e hp he => by simp [packagePut, hp, he], fun hr => ?_⟩
  have hrng : (if polHas (fld b 4 8) pDeviceIv then rngStop x else none) = none := by
    split
    · next h => exact hr h
    · rfl
  unfold packagePut
  rw [hrng]
  refine ⟨fun h1 h2 => if_pos (by simp only [h1, h2]; rfl), fun h => if_neg ?_⟩
  intro h'
  rw [Bool.and_eq_true, Bool.not_eq_true'] at h'
  exact absurd ((h h'.1).symm.trans h'.2) (by simp)

/-- Where the inputs of a KEM import are valid and the agreement's result stands, the package is opened. -/
theorem importKem_cases (s : State) (r : Nat) (q : Req) :
    let x := kmCount s q
    let b := q.srcB.drop q.d.aadLen
    let cl := kmPartner q.d.mode
    let n := (algSizes (kmSub q.d.mode) 0).2.1
    let epk := slice b n (algSizes cl 0).1
    let w := b.drop (n + (algSizes cl 0).1)
    let ssc := agreed cl (secondMat s q) epk
    let kek := kemWrapKek (primBytes (.kemDec (kmSub q.d.mode)) [keyMat x q, b.take n] 32) ssc (b.take n) epk (q.srcB.take q.d.aadLen)
    ((publicOk cl 0 epk = false ∨ zeroSecret cl ssc = true) → importKem s r q = failStep s r .descField 8) ∧
    (publicOk cl 0 epk = true → zeroSecret cl ssc = false →
      (curveChecked cl = true → Config.test (.resultCheck cl) [secondMat s q, epk, [], [], ssc] = false → importKem s r q = resultFails s r q) ∧
      ((curveChecked cl = false ∨ Config.test (.resultCheck cl) [secondMat s q, epk, [], [], ssc] = true) →
        (kwpOk kek w = false → importKem s r q = failStep x r .authFail 0) ∧
        (kwpOk kek w = true → importKem s r q = importPackage x r q (kwpOpen kek w)))) := by
  intro x b cl n epk w ssc kek
  have e : importKem s r q = if !publicOk cl 0 epk then failStep s r .descField 8
      else if zeroSecret cl ssc then failStep s r .descField 8
      else if curveChecked cl && !Config.test (.resultCheck cl) [secondMat s q, epk, [], [], ssc] then resultFails s r q
      else if !kwpOk kek w then failStep x r .authFail 0 else importPackage x r q (kwpOpen kek w) := rfl
  rw [e]
  refine ⟨fun h => ?_, fun h1 h2 => ⟨fun h3 h4 => ?_, fun h => ⟨fun h3 => ?_, fun h3 => ?_⟩⟩⟩
  · rcases h with h | h
    · simp [h]
    · simp [h]
  · simp [h1, h2, h3, h4]
  · rcases h with h | h <;> simp [h1, h2, h3, h]
  · rcases h with h | h <;> simp [h1, h2, h3, h]

/-- Settles O37. -/
theorem importsUnwrapOrFail : Obligations.ImportsUnwrapOrFail := by
  unfold Obligations.ImportsUnwrapOrFail
  intro r q s hd x fails tested package
  have hno := drawn_of hd
  have hpackage : ∀ c b, exec c s = .next (leaves (importPackage x r q b)) → package c b := by
    intro c b h
    obtain ⟨p1, p2⟩ := packagePut_cases x r q b
    refine ⟨fun hok => h.trans (by rw [importPackage, if_pos (by simp [hok])]), fun hok => ?_⟩
    rw [importPackage_good hok] at h
    exact tested_of h fun hput =>
      ⟨fun e hp he => hput.trans (by rw [p1 e hp he]), fun hr hl hq => hput.trans (by rw [(p2 hr).1 hl hq]), fun hr hq => hput.trans (by rw [(p2 hr).2 hq])⟩
  refine ⟨fun h hk => ?_, fun h hk => ?_, fun kcv mat hp => by simp [kcvFits, hp], fun h => ?_⟩
  · show exec _ s = _
    rw [exec_kmRow (by simp [kmRows]) h, kmLoaded, if_neg hno, h.2.1]
    dsimp only
    rw [importWrapped, if_pos (by rw [hk]; rfl)]
  · have e : exec (.importWrapped r) s = .next (leaves
        (if kmSub q.d.mode = 0 then importPackage x r q (kwpOpen (keyMat x q) q.srcB) else importRaw x r q (kwpOpen (keyMat x q) q.srcB))) := by
      rw [exec_kmRow (by simp [kmRows]) h, kmLoaded, if_neg hno, h.2.1]
      dsimp only
      rw [importWrapped, if_neg (by rw [hk]; simp)]
    intro b
    refine ⟨fun hm => hpackage _ _ (e.trans (by rw [if_pos hm])), fun hm hl => ?_, fun hm hl => ?_⟩
    · refine e.trans ?_
      rw [if_neg hm, importRaw, if_pos hl]
    · have e' : exec (.importWrapped r) s = .next (leaves (pairImport x r q q.d.ctx b
          (if !kcvFits q.d.ctx (prmKcv q.prm) b then failStep x r .authFail 0
            else createSlot x r q.d.ctx (prmObj q.prm) b (kmLimit q.d.mode) []))) := by
        refine e.trans ?_
        rw [if_neg hm, importRaw, if_neg (not_not.mpr hl)]
      exact tested_of e' fun hput => ⟨fun hf => hput.trans (by rw [hf]; rfl), fun hf => hput.trans (by rw [hf]; rfl)⟩
  · have e : exec (.importKem r) s = .next (leaves (importKem s r q)) := by
      rw [exec_kmRow (by simp [kmRows]) h, kmLoaded, if_neg hno, h.2.1]
    intro b cl n epk w ssc kek
    obtain ⟨c1, c2⟩ := importKem_cases s r q
    exact ⟨fun hbad => e.trans (by rw [c1 hbad]), fun h1 h2 h3 h4 => e.trans (by rw [(c2 h1 h2).1 h3 h4]),
      fun h1 h2 hst => ⟨fun hk => e.trans (by rw [((c2 h1 h2).2 hst).1 hk]), fun hk => hpackage _ _ (e.trans (by rw [((c2 h1 h2).2 hst).2 hk]))⟩⟩

/-! ### Replacements -/

/-- A replacement of a slot that is free for it writes the shadow. -/
theorem beginReplace_cases (z : State) (r : Nat) (q : Req) (i : Nat) (mat : Bytes) :
    let p := (getSlot z i).policy
    let kcv := if polKind p = 0 then kcvOf mat else []
    let out := if polKind p = 0 then kcvOf mat else publicOf (polKind p) (polLen p) mat
    (slotCode z i = 3 → beginReplace z r q i mat = failStep z r .keyRevoked 0) ∧
    (slotCode z i ≠ 3 →
      ((getSlot z i).state = .retired → beginReplace z r q i mat = failStep z r .keyExhausted 0) ∧
      ((getSlot z i).state ≠ .retired →
        (replacing z i = true → beginReplace z r q i mat = failStep z r .replacePending 0) ∧
        (replacing z i = false → beginReplace z r q i mat =
          submitUpd (setReq z r (some { q with out := out, result := out.length, phase := .vault, resume := .create, newSlot := none }))
            [.toReplacing i { idx := freeShadow z, mat := mat, kcv := kcv, slot := i, gen := (getSlot z i).gen + 1 }] (some r)))) := by
  intro p kcv out
  have e : beginReplace z r q i mat = if slotCode z i = 3 then failStep z r .keyRevoked 0
      else if (getSlot z i).state = .retired then failStep z r .keyExhausted 0
      else if replacing z i then failStep z r .replacePending 0
      else submitUpd (setReq z r (some { q with
          out := if polKind p = 0 then kcv else publicOf (polKind p) (polLen p) mat
          result := (if polKind p = 0 then kcv else publicOf (polKind p) (polLen p) mat).length, phase := .vault, resume := .create, newSlot := none }))
        [.toReplacing i { idx := freeShadow z, mat := mat, kcv := kcv, slot := i, gen := (getSlot z i).gen + 1 }] (some r) := rfl
  have hout : (if polKind p = 0 then kcv else publicOf (polKind p) (polLen p) mat) = out := by
    by_cases h : polKind p = 0
    · simp only [kcv, out, if_pos h]
    · simp only [out, if_neg h]
  rw [hout] at e
  refine ⟨fun h => e.trans (if_pos h), fun h => ⟨fun h1 => ?_, fun h1 => ⟨fun h2 => ?_, fun h2 => ?_⟩⟩⟩
  · rw [e, if_neg h, if_pos h1]
  · rw [e, if_neg h, if_neg h1, if_pos h2]
  · rw [e, if_neg h, if_neg h1, if_neg (by simp [h2])]

/-- A replacement whose input is at hand, on a slot of which no other change is under way. -/
theorem replaceLoaded_eq {s : State} {i : Nat} {q : Req} (r : Nat) (hs : q.slot = some i) (hc : changing s i = false ∨ slotCode s i = 3) :
    let p := (getSlot s i).policy
    let x := countUnits s q.fn true q.d.srcLen
    let mat := kwpOpen (secondMat s q) q.srcB
    let new := generate (polKind p) (polLen p) q.drawn
    replaceLoaded s r q =
      if kmSub q.d.mode = 0 then
        (if !kwpOk (secondMat s q) q.srcB then failStep x r .authFail 0
         else if mat.length ≠ impliedLen p then failStep x r .keyPolicy 0
         else if polKind p = 0 then (if kcvFits p (prmKcv q.prm) mat then beginReplace x r q i mat else failStep x r .authFail 0)
         else pairTest x r q p mat (failStep x r .faultDetected 0) (replaceAsym x r q i mat))
      else if polKind p = 0 then beginReplace s r q i (q.drawn.take (polLen p))
      else pairTest s r q p new (pairFails s r q) (replaceAsym s r q i new) := by
  intro p x mat new
  have hno : ¬(changing s i && decide (slotCode s i ≠ 3)) = true := by
    rcases hc with h | h <;> simp [h]
  unfold replaceLoaded
  rw [hs]
  dsimp only
  rw [if_neg hno]

theorem exec_replace {s : State} {r : Nat} {q : Req} (h : Stands s r q .replace .loaded) (hd : kmBits s q = 0 ∨ q.drawn ≠ []) :
    exec (.replace r) s = .next (leaves (replaceLoaded s r q)) := by
  rw [exec_kmRow (by simp [kmRows]) h, kmLoaded, if_neg (drawn_of hd), h.2.1]

/-- COMMIT and CANCEL of a request's slot. -/
theorem exec_keyCommit {s : State} {r i : Nat} {q : Req} (h : Stands s r q .commit .ready) (hs : q.slot = some i) :
    exec (.keyCommit r) s = .next (leaves (match (getSlot s i).shadow, decide (slotCode s i = 3), changing s i with
      | _, true, _ => failStep s r .keyRevoked 0
      | _, false, true => s
      | some h, false, false => updateOnly s r q [.flip i
          (if polKind (getSlot s i).policy = 0 then decide (h.kcv = kcvOf (getSlot s i).mat) else decide (h.mat = (getSlot s i).mat))]
      | none, false, false => failStep s r .keyNotFound 0)) := by
  have e := whenReq_of_stands h fun q => match q.slot with
    | none => s
    | some i =>
      match (getSlot s i).shadow, decide (slotCode s i = 3), changing s i with
      | _, true, _ => failStep s r .keyRevoked 0
      | _, false, true => s
      | some h, false, false => updateOnly s r q [.flip i
          (if polKind (getSlot s i).policy = 0 then decide (h.kcv = kcvOf (getSlot s i).mat) else decide (h.mat = (getSlot s i).mat))]
      | none, false, false => failStep s r .keyNotFound 0
  rw [hs] at e
  exact congrArg fin e

theorem exec_cancel {s : State} {r i : Nat} {q : Req} (h : Stands s r q .cancel .ready) (hs : q.slot = some i) :
    exec (.cancel r) s = .next (leaves (match (getSlot s i).shadow, decide (slotCode s i = 3), changing s i with
      | _, true, _ => failStep s r .keyRevoked 0
      | _, false, true => s
      | some _, false, false => updateOnly s r q [.cancel i]
      | none, false, false => failStep s r .keyNotFound 0)) := by
  have e := whenReq_of_stands h fun q => match q.slot with
    | none => s
    | some i =>
      match (getSlot s i).shadow, decide (slotCode s i = 3), changing s i with
      | _, true, _ => failStep s r .keyRevoked 0
      | _, false, true => s
      | some _, false, false => updateOnly s r q [.cancel i]
      | none, false, false => failStep s r .keyNotFound 0
  rw [hs] at e
  exact congrArg fin e

/-- Settles O38. -/
theorem replacementsAreCommittedOrCancelled : Obligations.ReplacementsAreCommittedOrCancelled := by
  unfold Obligations.ReplacementsAreCommittedOrCancelled
  intro r i q s hs p k code free fails begins starts pair
  -- what the beginning of a replacement answers, from any state with the slot as it stands
  have hstarts : ∀ z mat, slotCode z i = code → getSlot z i = getSlot s i → exec (.replace r) s = .next (leaves (beginReplace z r q i mat)) →
      starts z mat (if k = 0 then kcvOf mat else []) (if k = 0 then kcvOf mat else publicOf k (polLen p) mat) := by
    intro z mat hcode hslot h
    obtain ⟨c1, c2⟩ := beginReplace_cases z r q i mat
    rw [hcode, hslot] at c2
    rw [hcode] at c1
    have hrep : replacing z i = replacing s i := congrArg (fun x : SlotRec => x.shadow.isSome) hslot
    rw [hrep] at c2
    exact ⟨fun hf => h.trans (by rw [((c2 hf.1).2 hf.2.1).2 hf.2.2]), fun h3 => h.trans (by rw [c1 h3]),
      fun h3 h4 => h.trans (by rw [(c2 h3).1 h4]), fun h3 h4 h5 => h.trans (by rw [((c2 h3).2 h4).1 h5])⟩
  have hpair : ∀ z mat ms (misfit : Prop), slotCode z i = code → getSlot z i = getSlot s i → k ≠ 0 → (exec (.replace r) s = .next (leaves ms) → misfit) →
      exec (.replace r) s = .next (leaves (pairTest z r q p mat ms (replaceAsym z r q i mat))) → pair z mat misfit := by
    intro z mat ms misfit hcode hslot hk hmis h
    have hasym : replaceAsym z r q i mat = if curveChecked k && !Config.test (.resultCheck k) [mat, [], [], [], publicOf k (polLen p) mat] then
        resultFails z r q else beginReplace (countPka z) r q i mat := by
      unfold replaceAsym
      rw [hslot]
    refine ⟨fun h1 => h.trans (by rw [pairTest, if_pos (by rw [h1]; rfl)]), fun h1 h2 => hmis (h.trans (by rw [pairTest, if_neg (by rw [h1]; simp), if_neg (by rw [h2]; simp)])),
      fun h1 h2 h3 => ?_, fun h1 h2 h3 => ?_⟩
    · rw [pairTest, if_neg (by rw [h1]; simp), if_pos h2, hasym, if_pos] at h
      · exact h
      · rw [not_or, Bool.not_eq_false, Bool.not_eq_true] at h3
        rw [h3.1, h3.2]
        rfl
    · rw [pairTest, if_neg (by rw [h1]; simp), if_pos h2, hasym, if_neg] at h
      · have hst := hstarts (countPka z) mat hcode hslot h
        rw [if_neg hk, if_neg hk] at hst
        exact hst
      · rcases h3 with h3 | h3 <;> simp [h3]
  refine ⟨fun hch hcode => ⟨fun h hd => ?_, fun h => ?_, fun h => ?_⟩, fun h hd hc => ?_, fun sh hsh hcode hch => ⟨fun h => ?_, fun h => ?_⟩,
    fun hcode hch hrep => ⟨fun h => ?_, fun h => ?_⟩, fun hcode => ⟨fun h => ?_, fun h => ?_⟩⟩
  · have e : replaceLoaded s r q = s := by
      have hcode' : slotCode s i ≠ 3 := hcode
      unfold replaceLoaded
      rw [hs]
      dsimp only
      rw [if_pos (by simp [hch, hcode'])]
    rw [exec_replace h hd, e]
  · rw [exec_keyCommit h hs, decide_eq_false hcode, hch]
  · rw [exec_cancel h hs, decide_eq_false hcode, hch]
  · have e := exec_replace h hd
    rw [replaceLoaded_eq r hs hc] at e
    refine ⟨fun hm hk => ?_, fun hm hk => ?_, fun hm => ?_⟩
    · rw [if_neg hm, if_pos hk] at e
      have hst := hstarts s (q.drawn.take (polLen p)) rfl rfl e
      rw [if_pos hk, if_pos hk] at hst
      exact hst
    · rw [if_neg hm, if_neg hk] at e
      exact hpair s (generate k (polLen p) q.drawn) _ _ rfl rfl hk (fun h' => h') e
    · rw [if_pos hm] at e
      refine ⟨fun hbad => e.trans (by rw [if_pos (by rw [hbad]; rfl)]), fun hok => ?_⟩
      rw [if_neg (by rw [hok]; simp)] at e
      refine ⟨fun hl => e.trans (by rw [if_pos hl]), fun hl hk hf => e.trans (by rw [if_neg (not_not.mpr hl), if_pos hk, if_neg (by rw [hf]; simp)]),
        fun hl hk hf => ?_, fun hl hk => ?_⟩
      · rw [if_neg (not_not.mpr hl), if_pos hk, if_pos hf] at e
        have hst := hstarts (countUnits s q.fn true q.d.srcLen) (kwpOpen (secondMat s q) q.srcB) rfl rfl e
        rw [if_pos hk, if_pos hk] at hst
        exact hst
      · rw [if_neg (not_not.mpr hl), if_neg hk] at e
        exact hpair (countUnits s q.fn true q.d.srcLen) (kwpOpen (secondMat s q) q.srcB) _ _ rfl rfl hk (fun h' => h') e
  · rw [exec_keyCommit h hs, decide_eq_false hcode, hch, hsh]
    rfl
  · rw [exec_cancel h hs, decide_eq_false hcode, hch, hsh]
    rfl
  · have hno : (getSlot s i).shadow = none := by simpa [replacing] using hrep
    rw [exec_keyCommit h hs, decide_eq_false hcode, hch, hno]
  · have hno : (getSlot s i).shadow = none := by simpa [replacing] using hrep
    rw [exec_cancel h hs, decide_eq_false hcode, hch, hno]
  · rw [exec_keyCommit h hs, decide_eq_true hcode]
  · rw [exec_cancel h hs, decide_eq_true hcode]

end Sys2Proof.Keys
end

section
/-!
SUPPORT. Erasures: the holders of a key, and the copies of it in the key cache.
-/

namespace Sys2Proof.Erasures

open Sys2Proof Sys2Proof.Machine Sys2Proof.Safety Sys2Proof.Symmetric

/-! ### The erase that joins a slot's erasure -/

/-- The erase without its reference, and its slot among those under erasure. -/
def marked (s : State) (r : Nat) (q : Req) (i : Nat) : State :=
  let s1 := setReq (releaseRef s i q.gen) r (some { q with phase := .erase, refHeld := false })
  cacheSync { s1 with vault := { s1.vault with erasing := addNew s1.vault.erasing i } } i

theorem eraseStart_eq (s : State) (r : Nat) (q : Req) (i : Nat) :
    eraseStart s r q i =
      if s.vault.erasing.contains i = true ∨ (getSlot s i).state = .erasing then marked s r q i
      else submitUpd (marked s r q i) [.erasing i] none := by
  have e : eraseStart s r q i =
      if (s.vault.erasing.contains i || decide ((getSlot s i).state = .erasing)) = true then marked s r q i
      else submitUpd (marked s r q i) [.erasing i] none := rfl
  rw [e]
  simp only [Bool.or_eq_true, decide_eq_true_eq]

theorem mem_addNew (l : List Nat) (x : Nat) : x ∈ addNew l x := by
  unfold addNew
  split
  · next h => exact List.contains_iff_mem.mp h
  · exact List.mem_append_right _ (List.mem_singleton_self x)

theorem slotCode_marked {s : State} {i : Nat} (r : Nat) (q : Req) (h : (getSlot s i).state ≠ .free) : slotCode (marked s r q i) i = 3 := by
  have e1 : getSlot (marked s r q i) i = getSlot s i := rfl
  have e2 : (marked s r q i).vault.erasing = addNew s.vault.erasing i := rfl
  unfold slotCode
  rw [e1, e2]
  dsimp only
  rw [if_neg h, if_pos (Or.inr (Or.inl (List.contains_iff_mem.mpr (mem_addNew _ i))))]

/-! ### The holders of a slot -/

theorem erases_iff (o : Op) : erases o = true ↔ o = .erase ∨ o = .eraseUrg := by
  cases o <;> simp [erases]

/-- The erase of a holder joins the erasure, and the step of any other holder ends. -/
theorem abandonHolders_eq (s : State) (i : Nat) (st : Status) (f : State → Nat → State)
    (hf : ∀ z h, f z h = match getReq z h with
      | some p => if p.op = .erase ∨ p.op = .eraseUrg then eraseStart z h p i else killStep z h st
      | none => z) :
    abandonHolders s i st = (holders s i).foldl f s := by
  unfold abandonHolders
  congr 1
  funext z h
  rw [hf]
  cases getReq z h with
  | none => rfl
  | some p => simp only [erases_iff]

/-! ### Members of a canonical table -/

theorem mem_iff_tget {α : Type} [DecidableEq α] {d v : α} (hv : v ≠ d) {k : Nat} :
    ∀ (t : Tbl α) (lo : Nat), twfFrom d lo t = true → ((k, v) ∈ t ↔ tget d t k = v)
  | [], _, _ => by simpa [tget] using Ne.symm hv
  | (k', v') :: t, lo, w => by
    simp only [twfFrom, Bool.and_eq_true, decide_eq_true_eq] at w
    obtain ⟨⟨hlo, hd⟩, ht⟩ := w
    have ih := mem_iff_tget hv (k := k) t (k' + 1) ht
    by_cases hk : k' = k
    · subst hk
      have hn : (k', v) ∉ t := fun hm => hv ((tget_below d t (k' + 1) k' ht (Nat.lt_succ_self k')).symm.trans (ih.mp hm)).symm
      simp [tget, hn, eq_comm]
    · simp [tget, hk, Ne.symm hk, ih]

theorem reqs_twf_of_canon {s : State} (h : canon s = true) : twf none s.reqs = true := by
  simp only [canon, Bool.and_eq_true] at h
  exact h.1.1.1.2

theorem mem_reqsWith {s : State} (hc : canon s = true) (p : Req → Bool) (r : Nat) :
    r ∈ reqsWith s p ↔ ∃ q, getReq s r = some q ∧ p q = true := by
  have key : ∀ q, (r, some q) ∈ s.reqs ↔ getReq s r = some q := fun q =>
    mem_iff_tget (Option.some_ne_none q) s.reqs 0 (reqs_twf_of_canon hc)
  simp only [reqsWith, List.mem_filterMap, Prod.exists]
  constructor
  · rintro ⟨k, v, hm, he⟩
    cases v with
    | none => cases he
    | some q =>
      by_cases hp : p q = true
      · simp only [hp, if_true, Option.some.injEq] at he
        subst he
        exact ⟨q, (key q).mp hm, hp⟩
      · simp [hp] at he
  · rintro ⟨q, hg, hp⟩
    exact ⟨r, some q, (key q).mpr hg, by simp [hp]⟩

theorem mem_holders {s : State} (hc : canon s = true) (i h : Nat) :
    h ∈ holders s i ↔ ∃ p, getReq s h = some p ∧ holds p i = true ∧ p.phase ≠ .ended := by
  simp only [holders, mem_reqsWith hc, Bool.and_eq_true, decide_eq_true_eq]

/-! ### The copies of a slot in the key cache -/

theorem cacheZero_of_slot {s : State} {i : Nat} {e : CacheEnt} (he : e ∈ (cacheZero s i).cache) (hs : e.slot = i) :
    e.mat = [] ∧ e.mayLeave = false ∧ e.old = false ∧ e.bank ≠ stagingBank := by
  simp only [cacheZero, List.mem_map, List.mem_filter] at he
  obtain ⟨x, ⟨-, hx⟩, rfl⟩ := he
  by_cases h : x.slot = i
  · simp only [h, decide_true, Bool.true_and, Bool.not_eq_true', Bool.or_eq_false_iff, decide_eq_false_iff_not] at hx
    simp [h, hx.1, hx.2, CacheEnt.mayLeave]
  · rw [if_neg h] at hs
    exact absurd hs h

theorem mem_cacheZero_of_ne {s : State} {i : Nat} {e : CacheEnt} (hs : e.slot ≠ i) : e ∈ (cacheZero s i).cache ↔ e ∈ s.cache := by
  simp only [cacheZero, List.mem_map, List.mem_filter]
  constructor
  · rintro ⟨x, ⟨hx, -⟩, rfl⟩
    by_cases h : x.slot = i
    · simp [h] at hs
    · rwa [if_neg h]
  · intro h
    exact ⟨e, ⟨h, by simp [hs]⟩, if_neg hs⟩

/-! ### The obligation -/

/-- Settles O39. -/
theorem erasuresEndTheHoldersOfAKey : Obligations.ErasuresEndTheHoldersOfAKey := by
  unfold Obligations.ErasuresEndTheHoldersOfAKey
  refine ⟨fun r i q s => ?_, fun i s => ⟨fun hc h => mem_holders hc i h, fun he hf hr => ?_, fun e he hs => cacheZero_of_slot he hs,
    fun e hs => mem_cacheZero_of_ne hs, fun hr => ?_⟩⟩
  · intro ended s1 s2 x
    have hx : eraseStart s r q i = x := eraseStart_eq s r q i
    have drop : ∀ (z : State) (st : Status), abandonHolders z i st = (holders z i).foldl (ended st) z := fun z st =>
      abandonHolders_eq z i st (ended st) fun _ _ => rfl
    refine ⟨hx, fun h hq => ?_, fun h hq => ?_, fun hf => slotCode_marked r q hf, fun he => ?_, fun ha he => ?_⟩
    · have e : eraseKey r s = pumpAll (eraseAdvance x i) := by
        rw [eraseKey, whenReq_of_stands h]
        simp only [hq, hx]
      exact congrArg fin e
    · have e : eraseUrgentKey r s = pumpAll (eraseAdvance ((holders x i).foldl (ended .keyErased) x) i) := by
        rw [eraseUrgentKey, whenReq_of_stands h]
        simp only [hq, hx, drop]
      exact congrArg fin e
    · have e : eraseDrainEnd i s = pumpAll (eraseAdvance ((holders s i).foldl (ended .keyRevoked) s) i) := by
        rw [eraseDrainEnd, if_pos he, drop]
      exact congrArg fin e
    · have e : eraseDrainEnd i s = s := if_neg (by rw [he]; exact Bool.false_ne_true)
      exact (congrArg fin e).trans (fin_of_awake s (Bring.atWork_spec ha).1)
  · exact if_pos (by simp only [he, hf, hr]; rfl)
  · exact if_neg (by simp [hr])

end Sys2Proof.Erasures
end

section
/-!
SUPPORT. KEY_INFO, RANDOM, VE_ATTEST and CERT_INSTALL.
-/

namespace Sys2Proof.Services

open Sys2Proof Sys2Proof.Machine Sys2Proof.Safety Sys2Proof.Symmetric Sys2Proof.RequestRings

/-! ### KEY_INFO -/

theorem length_fit (n : Nat) (b : Bytes) : (fit n b).length = n := by
  simp only [fit, zeros, List.length_append, List.length_take, List.length_replicate]
  omega

theorem length_infoBytes (s : State) (i : Nat) : (infoBytes s i).length = 64 := by
  simp only [infoBytes, List.length_append, length_le, length_fit]

theorem slotCode_lt (s : State) (i : Nat) : slotCode s i < 256 := by
  have hc : ∀ c : SlotState, c.code < 256 := by intro c; cases c <;> decide
  unfold slotCode
  dsimp only
  split
  · decide
  · split
    · decide
    · split
      · decide
      · exact hc _

/-- The first fields of the 64 bytes (R173). -/
theorem infoBytes_fields (s : State) (i : Nat) (hh : handleOf s i < 2 ^ 32) (ho : (getSlot s i).owner < 2 ^ 16)
    (hp : (getSlot s i).policy < 2 ^ 64) :
    fld (infoBytes s i) 0 4 = handleOf s i ∧ fld (infoBytes s i) 4 1 = slotCode s i ∧
    fld (infoBytes s i) 5 1 = ofBool (getSlot s i).shadow.isSome ∧
    fld (infoBytes s i) 6 2 = (getSlot s i).owner ∧ fld (infoBytes s i) 8 8 = (getSlot s i).policy := by
  have hc := slotCode_lt s i
  have hb : ofBool (getSlot s i).shadow.isSome < 256 ^ 1 := Nat.lt_of_le_of_lt (ofBool_le_one _) (by decide)
  simp only [infoBytes, List.append_assoc, fld_le_append_zero, fld_le_append, Nat.reduceLeDiff, Nat.reduceSub]
  exact ⟨Nat.mod_eq_of_lt hh, Nat.mod_eq_of_lt hc, Nat.mod_eq_of_lt hb, Nat.mod_eq_of_lt ho, Nat.mod_eq_of_lt hp⟩

/-! ### RANDOM -/

theorem randomOp_loaded {s : State} {r : Nat} {q : Req} (h : Stands s r q .random .loaded) : randomOp r s = pumpAll (randomLoaded s r q) := by
  obtain ⟨hg, ho, hp⟩ := h
  simp [randomOp, hg, ho, hp]

theorem randomLoaded_of_stop {s : State} {e : Status} (r : Nat) (q : Req) (h : drbgStop s = some e) :
    randomLoaded s r q = failStep s r e 0 := by
  unfold randomLoaded
  rw [h]

theorem randomLoaded_resisting {s : State} {q : Req} (r : Nat) (h : drbgStop s = none) (hm : q.d.mode = 1) (ht : q.taken = false) :
    randomLoaded s r q = askWire (modReq s r fun q => { q with phase := .wires }) .drbg := by
  unfold randomLoaded
  rw [h]
  exact if_pos ⟨hm, ht⟩

theorem randomLoaded_of_next {s : State} {q : Req} (r : Nat) (h : drbgStop s = none) (hm : q.d.mode ≠ 1 ∨ q.taken = true) :
    randomLoaded s r q = match drbgNext s (if q.taken then [] else randomAddl q) with
      | none => awaitDrbg s r
      | some t => writeOut (drbgCall t.1 t.2 q.d.dstCap).2 r (drbgCall t.1 t.2 q.d.dstCap).1 .ok q.d.dstCap := by
  unfold randomLoaded
  rw [h]
  refine (if_neg ?_).trans ?_
  · rintro ⟨h1, h2⟩
    rcases hm with h | h
    · exact h h1
    · rw [h2] at h
      exact Bool.noConfusion h
  · cases drbgNext s (if q.taken then [] else randomAddl q) <;> rfl

/-! ### VE_ATTEST -/

theorem veAttestOp_loaded {s : State} {r : Nat} {q : Req} (h : Stands s r q .veAttest .loaded) :
    veAttestOp r s =
      if attestChecked s q (q.drawn.take 64) = false then pumpAll (resultFails s r q)
      else if q.d.dstCap < (veStatement s q q.srcB (q.drawn.take 64)).length then pumpAll (failStep s r .destOverflow 0)
      else pumpAll (writeOut (countPka s) r (veStatement s q q.srcB (q.drawn.take 64)) .ok (veStatement s q q.srcB (q.drawn.take 64)).length) := by
  obtain ⟨hg, ho, hp⟩ := h
  simp only [veAttestOp, hg, ho, hp, ne_eq, not_true_eq_false, if_false, if_true, Bool.not_eq_true', reduceCtorEq]

/-! ### CERT_INSTALL -/

theorem certInstall_ready_denied {s : State} {r : Nat} {q : Req} (h : Stands s r q .certInstall .ready) (hd : certDenied s = true) :
    certInstall r s = pumpAll (failStep s r .lifecycleDenied 0) := by
  obtain ⟨hg, ho, hp⟩ := h
  simp [certInstall, hg, ho, hp, hd]

theorem certInstall_loaded {s : State} {r : Nat} {q : Req} (h : Stands s r q .certInstall .loaded) :
    certInstall r s = pumpAll (certLoaded s r q) := by
  obtain ⟨hg, ho, hp⟩ := h
  simp [certInstall, hg, ho, hp]

theorem certDenied_eq (s : State) : certDenied s = true ↔ 1 < s.life.state ∨ overBudget s 3 = true := by
  simp [certDenied]

theorem certLoaded_of_denied {s : State} (r : Nat) (q : Req) (h : certDenied s = true) : certLoaded s r q = failStep s r .lifecycleDenied 0 :=
  if_pos h

theorem certLoaded_of_bad {s : State} {q : Req} (r : Nat) (h : certDenied s = false) (hb : chainOk s q.srcB (idPublic s) = false) :
    certLoaded s r q = failStep (countPka s) r .descField 8 := by
  have hb' : chainOk (countPka s) q.srcB (idPublic (countPka s)) = false := hb
  simp only [certLoaded, h, Bool.false_eq_true, if_false, hb', Bool.not_false, if_true]

theorem modReq_nv (s : State) (r : Nat) (g : Req → Req) : (modReq s r g).nv = s.nv := by
  unfold modReq
  split <;> rfl

theorem nvWrite_of_budget {s : State} {rec : Nat} (h : overBudget s rec = false) (p : Bytes) (w : NvWhy) :
    (nvWrite s rec p w).1 = nvSubmit s { recId := rec, write := some p, why := w, step := .program 0 } := by
  unfold nvWrite
  rw [if_neg (by simp [h])]

theorem certLoaded_of_good {s : State} {q : Req} (r : Nat) (h : certDenied s = false) (hg : chainOk s q.srcB (idPublic s) = true) :
    certLoaded s r q = nvSubmit (modReq (countPka s) r fun q => { q with phase := .vault })
      { recId := 3, write := some q.srcB, why := .chain r, step := .program 0 } := by
  have hg' : chainOk (countPka s) q.srcB (idPublic (countPka s)) = true := hg
  have hv : overBudget s 3 = false := by
    simp only [certDenied, Bool.or_eq_false_iff] at h
    exact h.2
  have hb : overBudget (modReq (countPka s) r fun q => { q with phase := .vault }) 3 = false := by
    rw [show overBudget (modReq (countPka s) r _) 3 = overBudget (countPka s) 3 by
      simp only [overBudget, getNvRec, queuedWrites, modReq_nv]
      rfl]
    exact hv
  simp only [certLoaded, h, Bool.false_eq_true, if_false, hg', Bool.not_true]
  exact nvWrite_of_budget hb _ _

/-! ### The obligation -/

/-- Settles O40. -/
theorem keyInfoRandomAttestAndCertificates : Obligations.KeyInfoRandomAttestAndCertificates := by
  unfold Obligations.KeyInfoRandomAttestAndCertificates
  refine ⟨fun r i q s h hq => ⟨fun hc => ?_, fun hc => ?_, length_infoBytes s i, infoBytes_fields s i⟩, fun r q s => ?_⟩
  · have e : keyInfoOp r s = pumpAll (failStep s r .destOverflow 0) := by
      rw [keyInfoOp, whenReq_of_stands h]
      simp only [hq, if_pos hc]
    exact congrArg fin e
  · have e : keyInfoOp r s = pumpAll (writeOut s r (infoBytes s i) .ok 64) := by
      rw [keyInfoOp, whenReq_of_stands h]
      simp only [hq, if_neg (Nat.not_lt.mpr hc)]
    exact congrArg fin e
  · intro given
    refine ⟨fun h hs hm => ⟨fun t addl hn => ?_, fun hn => ?_⟩, fun addl hc => if_pos hc, fun addl hc hr hl hw => ?_, fun h hs hm ht => ?_,
      fun e h hs => ?_, fun h => ?_, fun h hl hb hg => ?_, fun h hl hb hg => ?_, fun hd => ⟨fun h => ?_, fun h => ?_⟩⟩
    · have e := (randomOp_loaded h).trans (congrArg pumpAll (randomLoaded_of_next r hs hm))
      rw [show drbgNext s (if q.taken then [] else randomAddl q) = some (t, addl) from hn] at e
      exact congrArg fin e
    · have e := (randomOp_loaded h).trans (congrArg pumpAll (randomLoaded_of_next r hs hm))
      rw [show drbgNext s (if q.taken then [] else randomAddl q) = none from hn] at e
      exact congrArg fin e
    · have hq : takeNow s 48 4 = some (takeReserve s 48) := if_pos ⟨hr, hl, by simpa using hw⟩
      rw [drbgNext, if_neg (Nat.not_lt.mpr hc), hq]
      rfl
    · exact congrArg fin ((randomOp_loaded h).trans (congrArg pumpAll (randomLoaded_resisting r hs hm ht)))
    · exact congrArg fin ((randomOp_loaded h).trans (congrArg pumpAll (randomLoaded_of_stop r q hs)))
    · intro out good
      have ho : veStatement s q q.srcB (q.drawn.take 64) = out := rfl
      have hg : attestChecked s q (q.drawn.take 64) = good := rfl
      have e := veAttestOp_loaded h
      rw [ho, hg] at e
      refine ⟨fun h1 h2 => ?_, fun h1 h2 => ?_, fun h1 => ?_⟩
      · rw [if_neg (by rw [h1]; decide), if_neg (Nat.not_lt.mpr h2)] at e
        exact congrArg fin e
      · rw [if_neg (by rw [h1]; decide), if_pos h2] at e
        exact congrArg fin e
      · rw [if_pos h1] at e
        exact congrArg fin e
    · have hd : certDenied s = false := by simp [certDenied, hl, hb]
      exact congrArg fin ((certInstall_loaded h).trans (congrArg pumpAll (certLoaded_of_good r hd hg)))
    · have hd : certDenied s = false := by simp [certDenied, hl, hb]
      exact congrArg fin ((certInstall_loaded h).trans (congrArg pumpAll (certLoaded_of_bad r hd hg)))
    · exact congrArg fin ((certInstall_loaded h).trans (congrArg pumpAll (certLoaded_of_denied r q ((certDenied_eq s).mpr hd))))
    · exact congrArg fin (certInstall_ready_denied h ((certDenied_eq s).mpr hd))

end Sys2Proof.Services
end

section
/-!
SUPPORT. The messages of the peer port and the lookup port's answers.
-/

namespace Sys2Proof.Neighbours

open Sys2Proof Sys2Proof.Machine Sys2Proof.Safety Sys2Proof.Symmetric Sys2Proof.Bring

theorem coreUp_of_work {s : State} (h : atWork s = true) : coreUp s = true := (atWork_spec h).2

theorem safe_of_work {s : State} (h : atWork s = true) : s.safe = false := ((awake_spec s).1 (atWork_spec h).1).2.2.1

/-- A block at work that only gains the mark of a source: the collector takes it. -/
theorem fin_of_work {s t : State} (h : atWork s = true) (hp : t.pins = s.pins) (hs : t.safe = s.safe) (hr : t.raised = s.raised) :
    fin t = .next t :=
  fin_of_fields (atWork_spec h).1 hp hs hr

/-- A protocol break under no open token is its source alone (R393). -/
theorem peerBreak_of_none {s : State} {t : Nat} (h : findToken s t = none) : peerBreak s t = raiseSrc s 501 := by
  have e : findToken (raiseSrc s 501) t = none := h
  unfold peerBreak failWith
  simp only [List.foldl_cons, List.foldl_nil, e, ite_self]

theorem capsMsg_taken {s : State} {h : PeerHdr} (hw : atWork s = true) (hs : h.stray = false) (hp : s.bring.peerWait = true) :
    capsMsg h s = bringWatch { s with
      bring := { s.bring with peerWait := false }
      peer := { s.peer with present := true, caps := BitVec.ofNat 2 (h.origLen % 4), maxJob := min h.len 1048576 } } := by
  simp [capsMsg, coreUp_of_work hw, safe_of_work hw, hs, hp]

theorem capsMsg_late {s : State} {h : PeerHdr} (hw : atWork s = true) (hs : h.stray = false) (hp : s.bring.peerWait = false) :
    capsMsg h s = s := by
  simp [capsMsg, coreUp_of_work hw, hs, hp]

theorem capsMsg_stray {s : State} {h : PeerHdr} (hw : atWork s = true) (hs : h.stray = true) : capsMsg h s = raiseSrc s 501 := by
  simp [capsMsg, coreUp_of_work hw, hs]

section
variable {s : State} {h : PeerHdr} {k : Token} {q : Req}

theorem dataMsg_taken {b : Bytes} (hw : atWork s = true) (hk : findToken s h.token = some k) (hq : getReq s k.req = some q)
    (hs : h.stray = false) (hc : k.claim = true) (h0 : 0 < h.len) (h1 : h.len ≤ 65536) (hb : b.length = h.len)
    (hroom : k.got.length + h.len ≤ jobLen q) :
    dataMsg h b s = { s with peer := { s.peer with tokens := s.peer.tokens.map fun x =>
      if x.token = h.token then { x with got := x.got ++ b } else x } } := by
  have hbad : ¬(h.len = 0 ∨ 65536 < h.len ∨ b.length ≠ h.len ∨ jobLen q < k.got.length + h.len) := by omega
  simp only [dataMsg, coreUp_of_work hw, hs, hk, hq, hc, hbad, Bool.not_true, Bool.false_eq_true, if_false, decide_false, Bool.or_self]

theorem dataMsg_over {b : Bytes} (hw : atWork s = true) (hk : findToken s h.token = some k) (hq : getReq s k.req = some q)
    (hs : h.stray = false) (hover : jobLen q < k.got.length + h.len) : dataMsg h b s = peerBreak s h.token := by
  simp only [dataMsg, coreUp_of_work hw, hs, hk, hq, hover, Bool.not_true, Bool.false_eq_true, if_false, or_true, decide_true, Bool.or_true,
    if_true]

theorem jobEndMsg_failed (hw : atWork s = true) (hk : findToken s h.token = some k) (hq : getReq s k.req = some q)
    (hs : jobEndStray k h = false) (hst : h.status ≠ 0) : jobEndMsg h s = pumpAll (peerFail (closeToken s k) k.req) := by
  simp only [jobEndMsg, coreUp_of_work hw, hk, hq, hs, hst, Bool.not_true, Bool.false_eq_true, if_false, ne_eq, not_false_eq_true, if_true]

theorem jobEndMsg_offered (hw : atWork s = true) (hk : findToken s h.token = some k) (hq : getReq s k.req = some q)
    (hs : jobEndStray k h = false) (hst : h.status = 0) (hc : k.claim = false) :
    jobEndMsg h s = pumpAll (endStep (closeToken s k) k.req .ok (jobLen q)) := by
  simp only [jobEndMsg, coreUp_of_work hw, hk, hq, hs, hst, hc, Bool.not_true, Bool.false_eq_true, if_false, ne_eq, not_true_eq_false,
    Bool.not_false, if_true]

theorem jobEndMsg_claimed (hw : atWork s = true) (hk : findToken s h.token = some k) (hq : getReq s k.req = some q)
    (hs : jobEndStray k h = false) (hst : h.status = 0) (hc : k.claim = true) (hl : h.len = k.got.length) (hr : h.raw = false) {q' : Req}
    (e : q' = { q with d := { q.d with srcLen := 16 + h.len }, srcB := peerHeader h ++ k.got, sent := true, token := none }) :
    jobEndMsg h s = pumpAll (jobReceived (setReq (closeToken s k) k.req (some q')) k.req q') := by
  subst e
  simp only [jobEndMsg, coreUp_of_work hw, hk, hq, hs, hst, hc, hl, hr, Bool.not_true, Bool.false_eq_true, if_false, ne_eq, not_true_eq_false,
    Bool.false_and, Bool.or_self, decide_false]

end

/-- Settles O41. -/
theorem peerMessagesRunTheirJobs : Obligations.PeerMessagesRunTheirJobs := by
  unfold Obligations.PeerMessagesRunTheirJobs
  refine ⟨fun h tok s hw => ⟨fun hs hp => ?_, fun hs hp => ?_, fun hs => ?_, fun hk => ?_, fun k hk => ?_⟩,
    fun h b k q s hw hk hq hs => ⟨fun hc h0 h1 hb hroom => ?_, fun hc hover => ?_, fun hj hst => ?_, fun hj hst hc => ?_,
      fun hj hst hc hl hr => ?_⟩⟩
  · refine ⟨_, (congrArg fin (capsMsg_taken hw hs hp)).trans (fin_of_work hw ?_ ?_ ?_), ?_⟩
    · exact (bringWatch_frame _).1
    · exact (bringWatch_frame _).2.1
    · exact (bringWatch_frame _).2.2.1
    · obtain ⟨f, i, v, n, b, e⟩ := bringWatch_eq { s with
        bring := { s.bring with peerWait := false }
        peer := { s.peer with present := true, caps := BitVec.ofNat 2 (h.origLen % 4), maxJob := min h.len 1048576 } }
      rw [e]
      exact ⟨rfl, rfl, rfl, rfl⟩
  · exact (congrArg fin (capsMsg_late hw hs hp)).trans (fin_of_work hw rfl rfl rfl)
  · exact congrArg fin (capsMsg_stray hw hs)
  · have e : undefinedPeerMsg tok s = raiseSrc s 501 := by
      rw [undefinedPeerMsg, coreUp_of_work hw]
      exact peerBreak_of_none hk
    exact congrArg fin e
  · have e : undefinedPeerMsg tok s = peerBreak s tok := by
      rw [undefinedPeerMsg, coreUp_of_work hw]
      rfl
    exact congrArg fin e
  · exact (congrArg fin (dataMsg_taken hw hk hq hs hc h0 h1 hb hroom)).trans (fin_of_work hw rfl rfl rfl)
  · exact congrArg fin (dataMsg_over hw hk hq hs hover)
  · exact congrArg fin (jobEndMsg_failed hw hk hq hj hst)
  · exact congrArg fin (jobEndMsg_offered hw hk hq hj hst hc)
  · intro q'
    exact congrArg fin (jobEndMsg_claimed hw hk hq hj hst hc hl hr rfl)

end Sys2Proof.Neighbours
end

section
/-!
SUPPORT. Procession: doorbells, stops, starts and timers of channels, and the operations of a run.
-/

namespace Sys2Proof.Channels

open Sys2Proof Sys2Proof.Machine Sys2Proof.Safety Sys2Proof.Neighbours Sys2Proof.Bring

/-! ### Doorbells, stops and starts -/

theorem sub_toNat_ne_zero {v p : U32} (h : v ≠ p) : (v - p).toNat ≠ 0 := by
  bv_omega

section
variable {s : State} {f c : Nat} {off : BitVec 13} {v : U32}

theorem channelDoorbell_counts (hc : chanWord s f off.toNat false = some c) (hv : v ≠ (getChan s c).prev)
    (hr : (getChan s c).pending + (v - (getChan s c).prev).toNat ≤ 255) :
    channelDoorbell f off v s = setChan s c { getChan s c with pending := (getChan s c).pending + (v - (getChan s c).prev).toNat, prev := v } := by
  simp only [channelDoorbell, hc, sub_toNat_ne_zero hv, if_false, hr, if_true]

theorem channelDoorbell_lost (hc : chanWord s f off.toNat false = some c) (hv : v ≠ (getChan s c).prev)
    (hr : 255 < (getChan s c).pending + (v - (getChan s c).prev).toNat) : channelDoorbell f off v s = setChan s c (startLost (getChan s c)) := by
  simp only [channelDoorbell, hc, sub_toNat_ne_zero hv, if_false, Nat.not_le.mpr hr]

theorem stopWord_set (hc : chanWord s f off.toNat true = some c) (hv : v.getLsbD 0 = true) : stopWord f off v s = stopChan s c false := by
  simp only [stopWord, hc, hv, if_true]

theorem stopWord_clear (hc : chanWord s f off.toNat true = some c) (hv : v.getLsbD 0 = false) : stopWord f off v s = s := by
  simp only [stopWord, hc, hv, Bool.false_eq_true, if_false]

end

theorem stopChan_idle {s : State} {c : Nat} (h : (getChan s c).run = none) :
    stopChan s c false = setChan s c { getChan s c with pending := 0 } := by
  simp only [stopChan, h, Bool.false_eq_true, if_false]

/-- A run whose control block is written ends with that write (R206). -/
theorem stopChan_ending {s : State} {c : Nat} {x : Run} (h : (getChan s c).run = some x) (hf : (getChan s c).state ≠ .frozen)
    (hx : x.stage = .ccb) :
    stopChan s c false = setChan s c { getChan s c with pending := 0, state := .stopping, run := some { x with stop := true } } := by
  simp only [stopChan, h, hf, hx, if_false, if_true, Bool.or_false]

/-- A firing that no channel waits for is counted alone. -/
theorem fireTimer_alone {s : State} {n : Nat} (h : ∀ c < 256, chanCfg s c 8 ≠ n) :
    fireTimer s n = setTimer s n { getTimer s n with
      fired := (getTimer s n).fired + 1, last := some (getTimer s n).next, next := (getTimer s n).next + timerCfg s n 2
      armed := decide (timerCfg s n 1 = 2) } := by
  have hnone : (List.range 256).filter (fun c => decide (chanCfg s c 8 = n)) = [] := by
    simpa [List.filter_eq_nil_iff] using h
  have hcfg : ∀ (r : TimerRec) (c : Nat), chanCfg (setTimer s n r) c 8 = chanCfg s c 8 := fun _ _ => rfl
  simp only [fireTimer, hcfg, hnone, List.foldl_nil]

theorem timerFiring_armed {s : State} {n : Nat} (hw : atWork s = true) (h : (getTimer s n).armed = true) : timerFiring n s = fireTimer s n := by
  simp [timerFiring, coreUp_of_work hw, h]

theorem timerFiring_unarmed {s : State} {n : Nat} (h : (getTimer s n).armed = false) : timerFiring n s = s := by
  simp [timerFiring, h]

/-- Settles O44. -/
theorem channelsAndTimersStartAndStop : Obligations.ChannelsAndTimersStartAndStop := by
  unfold Obligations.ChannelsAndTimersStartAndStop
  refine ⟨fun f c off v s hw => ⟨fun hc hv hr => ?_, fun hc hr hv => ?_, fun hc hv => ?_, fun hc hv hr => ?_,
    fun _ x hx hf hst => stopChan_ending hx hf hst, fun hc hv => ?_, fun hm => ?_, fun hm => ?_⟩, fun n s hw => ?_⟩
  · exact (congrArg fin (channelDoorbell_counts hc hv hr)).trans (fin_of_work hw rfl rfl rfl)
  · exact (congrArg fin (channelDoorbell_lost hc hv hr)).trans (fin_of_work hw rfl rfl rfl)
  · exact congrArg fin (stopWord_set hc hv)
  · exact (congrArg fin ((stopWord_set hc hv).trans (stopChan_idle hr))).trans (fin_of_work hw rfl rfl rfl)
  · exact (congrArg fin (stopWord_clear hc hv)).trans (fin_of_work hw rfl rfl rfl)
  · intro s1 s2
    have e : channelRunStart c s = if hitsVault s2 c (chanCfg s2 c 3) 8 then ccbFailed s2 c
        else readPieces s2 (chanWho s2 c) [(0, chanCfg s2 c 3, 8)] (fun _ => .head c) false := by
      rw [channelRunStart, hm]
      rfl
    refine ⟨fun hv => ?_, fun hv => ?_⟩
    · rw [if_neg (by rw [hv]; exact Bool.false_ne_true)] at e
      exact congrArg fin e
    · rw [if_pos hv] at e
      exact congrArg fin e
  · have e : channelRunStart c s = s := by
      rw [channelRunStart, hm]
      rfl
    exact (congrArg fin e).trans (fin_of_work hw rfl rfl rfl)
  · intro x
    refine ⟨fun ha => congrArg fin (timerFiring_armed hw ha), fun ha hn => ?_, fun ha => ?_⟩
    · exact (congrArg fin ((timerFiring_armed hw ha).trans (fireTimer_alone hn))).trans (fin_of_work hw rfl rfl rfl)
    · exact (congrArg fin (timerFiring_unarmed ha)).trans (fin_of_work hw rfl rfl rfl)

/-! ### The operations of a run -/

section
variable {s : State} {c : Nat} {x : Run}

theorem runAt_of_run (hs : s.safe = false) (hr : (getChan s c).run = some x) (ho : x.outst = 0) (hp : x.stop = false) :
    runAt s c (ctlOp x.ctl) = some x := by
  simp only [runAt, hr, ho, hp, hs, and_self, if_true]

theorem getChan_modRun (hr : (getChan s c).run = some x) (g : Run → Run) :
    getChan (modRun s c g) c = { getChan s c with run := some (g x) } := by
  refine (tget_tput_self _ s.chans c _ fun hd => ?_).trans ?_
  · have h := (congrArg (Option.map g) hr).symm.trans (congrArg ChanRec.run hd)
    cases h
  · dsimp only
    rw [hr]
    rfl

/-- A change of a run leaves its transactions in the name of the same function. -/
theorem chanWho_modRun (hr : (getChan s c).run = some x) (g : Run → Run) (hg : ∀ y, (g y).mover = y.mover) :
    chanWho (modRun s c g) c = chanWho s c := by
  have e := getChan_modRun hr g
  have hcfg : ∀ k, chanCfg (modRun s c g) c k = chanCfg s c k := fun _ => rfl
  simp only [chanWho, runMover, e, hcfg, hr, hg]

theorem passOn_streamed {off : Nat} {b : Bytes} (hr : (getChan s c).run = some x) (hx : streams x = true) (he : x.err = none)
    (hp : x.stop = false) :
    passOn s c off b =
      writePieces (modRun s c fun y => { y with outst := y.outst + (piecesOf (x.b + off) b.length).length })
        (chanWho (modRun s c fun y => { y with outst := y.outst + (piecesOf (x.b + off) b.length).length }) c)
        (piecesOf (x.b + off) b.length) b (fun o => .cwrite c (off + o)) false := by
  rw [chanWho_modRun hr (fun y => { y with outst := y.outst + (piecesOf (x.b + off) b.length).length }) fun _ => rfl]
  simp only [passOn, hr, hx, he, hp, Option.isNone_none, Bool.not_false, Bool.and_self, if_true]

end

/-- Settles O45. -/
theorem processionOperationsMoveTheirData : Obligations.ProcessionOperationsMoveTheirData := by
  unfold Obligations.ProcessionOperationsMoveTheirData
  refine ⟨fun c x s hs hr ho hp => ?_, fun c off x b s hr hst hop he hp => ?_⟩
  · have hat := runAt_of_run hs hr ho hp
    intro ends
    refine ⟨fun h1 h2 => ?_, fun h1 h2 => ?_, fun h1 h2 => ?_, fun h1 h2 h3 => ?_, fun i h1 h2 h3 => ?_, fun h1 h2 => ?_, fun h1 h2 h3 => ?_,
      fun i h1 h2 h3 => ?_, fun h1 h2 h3 => ?_, fun i h1 h2 h3 => ?_⟩ <;> rw [h1] at hat
    · have e : copyRun c s = runReads s c .data (onStream 1 (piecesOf x.a x.c)) := by simp only [copyRun, hat, h2]
      exact congrArg fin e
    · have e : fillRun c s = runWrites s c (piecesOf x.b x.c) ((List.range x.c).map fun i => (le 8 x.a).getD (i % 8) 0) := by
        simp only [fillRun, hat, h2]
      exact congrArg fin e
    · have e : compareRun c s = runReads s c .data (onStream 1 (piecesOf x.a x.c) ++ onStream 2 (piecesOf x.b x.c)) := by
        simp only [compareRun, hat, h2]
      exact congrArg fin e
    · have e : compareRun c s = retireDesc s c 0 := by simp only [compareRun, hat, h2, h3]
      exact congrArg fin e
    · have e : compareRun c s = endRun s c .verifyMismatch i := by simp only [compareRun, hat, h2, h3]
      exact congrArg fin e
    · have e : gatherRun c s = runReads s c .index (onStream 0 (piecesOf x.a (ctlCount x.ctl * idxWidth x.ctl))) := by
        simp only [gatherRun, hat, h2, tablePieces]
      exact congrArg fin e
    · have e : gatherRun c s = runReads s c .data (onStream 1 (elemPieces x (elemAddrs x (runStream x 0)))) := by
        simp only [gatherRun, hat, h2, h3]
      exact congrArg fin e
    · have e : gatherRun c s = endRun s c .memDecode i := by simp only [gatherRun, hat, h2, h3]
      exact congrArg fin e
    · have e : scatterRun c s = runWrites s c (elemPieces x (elemAddrs x (runStream x 0))) (runStream x 2) := by
        simp only [scatterRun, hat, h2, h3]
      exact congrArg fin e
    · have e : scatterRun c s = endRun s c .memDecode i := by simp only [scatterRun, hat, h2, h3]
      exact congrArg fin e
  · have hx : streams x = true := by simp [streams, hst, hop]
    intro ps s1
    exact passOn_streamed hr hx he hp

end Sys2Proof.Channels
end

section
/-!
SUPPORT. The RNG domain: Advent and its tests.
-/

namespace Sys2Proof.Entropy

open Sys2Proof Sys2Proof.Machine Sys2Proof.Safety Sys2Proof.Neighbours Sys2Proof.Bring

/-! ### Masks -/

theorem maskOf_succ (n : Nat) (p : Nat → Bool) : maskOf (n + 1) p = if p n then maskOf n p + 2 ^ n else maskOf n p := by
  simp only [maskOf, List.range_succ, List.foldl_append, List.foldl_cons, List.foldl_nil]

theorem maskOf_lt (n : Nat) (p : Nat → Bool) : maskOf n p < 2 ^ n := by
  induction n with
  | zero => exact Nat.one_pos
  | succ n ih =>
    rw [maskOf_succ, Nat.pow_succ]
    split <;> omega

theorem testBit_maskOf (n : Nat) (p : Nat → Bool) (k : Nat) (h : k < n) : (maskOf n p).testBit k = p k := by
  induction n with
  | zero => omega
  | succ n ih =>
    have hlt := maskOf_lt n p
    rw [maskOf_succ]
    by_cases hk : k = n
    · subst hk
      cases hp : p k with
      | true => simp [Nat.add_comm _ (2 ^ k), Nat.testBit_two_pow_add_eq, Nat.testBit_lt_two_pow hlt]
      | false => simp [Nat.testBit_lt_two_pow hlt]
    · have hkn : k < n := by omega
      split
      · rw [Nat.add_comm, Nat.testBit_two_pow_add_gt hkn, ih hkn]
      · exact ih hkn

/-! ### The steps of Advent -/

section
variable {s : State} {n : Nat}

theorem mem_advSources_of_active (hn : n < 8) (ha : active s (unitAt .ns n) = true) (hs : s.rng.skipped = []) : n ∈ advSources s := by
  simp [advSources, hn, ha, hs]

theorem startUpOver_waits (h : s.rng.step = .startUp) {k : Nat} (hk : k ∈ advSources s) (hp : k ∉ s.rng.passed) : startUpOver s = s := by
  have h1 : (advSources s).isEmpty = false := by
    rw [List.isEmpty_eq_false_iff]
    exact List.ne_nil_of_mem hk
  have h2 : (advSources s).all s.rng.passed.contains = false := by
    rw [List.all_eq_false]
    exact ⟨k, hk, by simpa using hp⟩
  simp [startUpOver, h, h1, h2]

theorem startUpOver_passed (h : s.rng.step = .startUp) {k : Nat} (hk : k ∈ advSources s) (hp : ∀ j ∈ advSources s, j ∈ s.rng.passed) :
    startUpOver s = { s with rng := { s.rng with step := .kat } } := by
  have h1 : (advSources s).isEmpty = false := by
    rw [List.isEmpty_eq_false_iff]
    exact List.ne_nil_of_mem hk
  have h2 : (advSources s).all s.rng.passed.contains = true := by
    rw [List.all_eq_true]
    exact fun j hj => by simpa using hp j hj
  simp [startUpOver, h, h1, h2]

theorem oscillatorSettle_none (hw : atWork s = true) (h1 : s.rng.state = .advent) (h2 : s.rng.step = .settle) (hp : s.rng.passed = [])
    (hs : s.rng.skipped = []) (hn : n < 8) (ha : active s (unitAt .ns n) = true) :
    oscillatorSettle 0 s = { s with rng := { s.rng with step := .startUp } } := by
  have hb : (advSources s).filter (fun n => (0 : BitVec 8).getLsbD n) = [] := by simp
  have hsame : ({ s with rng := { s.rng with step := .startUp, skipped := [] } } : State) = { s with rng := { s.rng with step := .startUp } } := by
    rw [← hs]
  have hover : startUpOver { s with rng := { s.rng with step := .startUp } } = { s with rng := { s.rng with step := .startUp } } :=
    startUpOver_waits rfl (mem_advSources_of_active hn ha hs) (by simp [hp])
  unfold oscillatorSettle
  refine (if_neg (by simp [coreUp_of_work hw, h1, h2])).trans ?_
  dsimp only
  rw [hb, List.foldl_nil, hsame, hover]

theorem oscillatorSettle_idle (failed : BitVec 8) (h : s.rng.state ≠ .advent ∨ s.rng.step ≠ .settle) : oscillatorSettle failed s = s := by
  simp [oscillatorSettle, h]

theorem startUpTest_advent (hw : atWork s = true) (pass : Bool) (h1 : s.rng.state = .advent) (h2 : s.rng.step = .startUp) :
    startUpTest n pass s = startUpAdvent n pass s := by
  simp [startUpTest, coreUp_of_work hw, h1, h2]

theorem startUpAdvent_pass (hn : n ∈ advSources s) :
    startUpAdvent n true s = startUpOver { s with rng := { s.rng with passed := addNew s.rng.passed n } } := by
  simp [startUpAdvent, hn]

theorem mem_addNew_iff (l : List Nat) (x y : Nat) : y ∈ addNew l x ↔ y ∈ l ∨ y = x := by
  unfold addNew
  split
  · next h =>
    have hx : x ∈ l := List.contains_iff_mem.mp h
    exact ⟨Or.inl, fun h => h.elim id fun e => e ▸ hx⟩
  · simp

theorem startUpAdvent_first (hn : n ∈ advSources s) (hr : n ∉ s.rng.rerun) :
    startUpAdvent n false s = { s with rng := { s.rng with rerun := addNew s.rng.rerun n } } := by
  simp [startUpAdvent, hn, hr]

theorem startUpAdvent_second (hn : n ∈ advSources s) (hr : n ∈ s.rng.rerun) :
    startUpAdvent n false s = startUpOver (fenceUnit (raiseSrc
      { s with rng := { s.rng with startup := s.rng.startup ||| BitVec.ofNat 32 (2 ^ n) } } (nsSource n 0)) (unitAt .ns n)) := by
  simp [startUpAdvent, hn, hr, failBit]

theorem startUpTest_readmitted (hw : atWork s = true) (h1 : s.rng.state ≠ .advent) (ha : active s (unitAt .ns n) = true)
    (hf : s.rng.feeding.getLsbD n = false) :
    startUpTest n true s = { s with rng := { s.rng with feeding := s.rng.feeding ||| BitVec.ofNat 8 (2 ^ n) } } := by
  simp only [startUpTest, coreUp_of_work hw, h1, ha, hf, srcBit]
  simp

theorem rngTested_pass (hw : atWork s = true) (h1 : s.rng.state = .advent) (h2 : s.rng.step = .kat) :
    rngTested true s = { s with rng := { s.rng with
      step := .fill, feeding := BitVec.ofNat 8 (maskOf 8 fun n => (advSources s).contains n && s.rng.passed.contains n) } } := by
  simp only [rngTested, coreUp_of_work hw, h1, h2, and_self, if_true, Bool.not_true, Bool.false_eq_true, if_false]

theorem rngTested_fail (hw : atWork s = true) (h2 : s.rng.step = .kat) :
    rngTested false s = haltRng { s with rng := { s.rng with startup := s.rng.startup ||| BitVec.ofNat 32 (2 ^ 31) } } := by
  simp only [rngTested, coreUp_of_work hw, h2, failBit, Bool.not_true, Bool.false_eq_true, if_false, ne_eq, not_true_eq_false, and_false]

theorem selfTestEnd_rng (hw : atWork s = true) (pass : Bool) : selfTestEnd .rng pass s = rngTested pass s := by
  simp only [selfTestEnd, coreUp_of_work hw, Bool.not_true, Bool.false_eq_true, if_false]

/-! ### The end of Advent -/

/-- The CTR_DRBG takes its seed, and the consumers may be served (steps 6 and 7 of R191). -/
def instantiated (s : State) : State :=
  { s with rng := { s.rng with
    reserve := s.rng.reserve.drop 48, state := .running, step := .over
    drbg := primBytes .drbgSeed [zeros 48, xorB (s.rng.reserve.take 48) (fit 48 s.bring.unitId)] 48
    calls := 0, lastNs := (s.pins.cycles - s.rng.beganAt) * refPeriod s } }

theorem askWire_eq (s : State) (w : Wire) : ∃ ws, askWire s w = { s with rng := { s.rng with wires := ws } } := by
  unfold askWire
  split
  · exact ⟨_, rfl⟩
  · exact ⟨_, rfl⟩

theorem foldl_askWire_eq {α : Type} (f : α → Wire) (l : List α) (s : State) :
    ∃ ws, l.foldl (fun s a => askWire s (f a)) s = { s with rng := { s.rng with wires := ws } } := by
  induction l generalizing s with
  | nil => exact ⟨_, rfl⟩
  | cons a l ih =>
    obtain ⟨w1, h1⟩ := askWire_eq s (f a)
    obtain ⟨w2, h2⟩ := ih (askWire s (f a))
    exact ⟨w2, by rw [List.foldl_cons, h2, h1]⟩

/-- Every ready PKA unit asks for its buffer's refill. -/
def askBuffers (s : State) : State := ((List.range 16).filter fun n => active s (unitAt .pka n)).foldl (fun s n => askWire s (.pka n)) s

theorem adventRun_eq (s : State) : ∃ ws, adventRun s = { instantiated s with rng := { (instantiated s).rng with wires := ws } } := by
  obtain ⟨w1, h1⟩ := foldl_askWire_eq Wire.gen
    ((List.range 34).filter fun g => !(getGen s g).seeded || (getGen s g).stopped || (getGen s g).watch || (getGen s g).grace) (instantiated s)
  have e : adventRun s = askBuffers (((List.range 34).filter fun g =>
    !(getGen s g).seeded || (getGen s g).stopped || (getGen s g).watch || (getGen s g).grace).foldl (fun s g => askWire s (.gen g)) (instantiated s)) := rfl
  rw [e, h1]
  exact foldl_askWire_eq Wire.pka _ _

theorem adventComplete_ready (hw : atWork s = true) (hu : s.bring.unitIdDone = true) (h1 : s.rng.state = .advent) (h2 : s.rng.step = .fill)
    (h3 : s.rng.feeding ≠ 0) (h4 : 2048 ≤ s.rng.reserve.length) : adventComplete s = bringWatch (adventRun s) := by
  have hg : (coreUp s && s.bring.unitIdDone &&
      decide (s.rng.state = .advent ∧ s.rng.step = .fill ∧ s.rng.feeding ≠ 0 ∧ 2048 ≤ s.rng.reserve.length)) = true := by
    rw [coreUp_of_work hw, hu, decide_eq_true ⟨h1, h2, h3, h4⟩]
    rfl
  exact if_pos hg

theorem adventComplete_waits (h : s.rng.state ≠ .advent ∨ s.rng.reserve.length < 2048) : adventComplete s = s := by
  refine if_neg fun hg => ?_
  simp only [Bool.and_eq_true, decide_eq_true_eq] at hg
  obtain ⟨-, h1, -, -, h4⟩ := hg
  rcases h with h | h
  · exact h h1
  · omega

/-! ### Health tests -/

theorem healthTestFailure_running (hw : atWork s = true) (adaptive : Bool) (h1 : s.rng.state = .running) (ha : active s (unitAt .ns n) = true) :
    healthTestFailure n adaptive s = haltRng (raiseSrc (markFailure s n adaptive) (nsSource n 0)) := by
  simp [healthTestFailure, coreUp_of_work hw, h1, ha]

theorem healthTestFailure_halted (hw : atWork s = true) (adaptive : Bool) (h1 : s.rng.state = .halted) :
    healthTestFailure n adaptive s = markFailure s n adaptive := by
  simp [healthTestFailure, coreUp_of_work hw, h1]

end

/-- Settles O46. -/
theorem adventRunsItsSteps : Obligations.AdventRunsItsSteps := by
  unfold Obligations.AdventRunsItsSteps
  intro n s hw
  have still : ∀ t : State, t.pins = s.pins → t.safe = s.safe → t.raised = s.raised → fin t = .next t := fun t => fin_of_work hw
  refine ⟨fun h1 h2 hp hs hn ha => ?_, fun failed h => ?_, fun h1 h2 hn => ⟨fun hk => ?_, fun hk => ?_, fun hr => ?_, fun hr => ?_⟩,
    fun h1 h2 => ?_, fun h1 h2 => ?_, fun hu h1 h2 h3 h4 => ?_, fun h => ?_, fun h => ?_, fun h1 ha hf => ?_, fun h1 ha => ⟨?_, ?_⟩,
    fun h1 => ⟨?_, ?_⟩⟩
  · exact (congrArg fin (oscillatorSettle_none hw h1 h2 hp hs hn ha)).trans (still _ rfl rfl rfl)
  · exact (congrArg fin (oscillatorSettle_idle failed h)).trans (still _ rfl rfl rfl)
  · obtain ⟨k, hk, hne, hp⟩ := hk
    have e := (startUpTest_advent hw true h1 h2).trans (startUpAdvent_pass hn)
    rw [startUpOver_waits (s := { s with rng := { s.rng with passed := addNew s.rng.passed n } }) h2 hk
      (by simp [mem_addNew_iff, hne, hp])] at e
    exact (congrArg fin e).trans (still _ rfl rfl rfl)
  · have e := (startUpTest_advent hw true h1 h2).trans (startUpAdvent_pass hn)
    rw [startUpOver_passed (s := { s with rng := { s.rng with passed := addNew s.rng.passed n } }) h2 hn
      (fun j hj => (mem_addNew_iff _ _ _).mpr (hk j hj).symm)] at e
    exact (congrArg fin e).trans (still _ rfl rfl rfl)
  · exact (congrArg fin ((startUpTest_advent hw false h1 h2).trans (startUpAdvent_first hn hr))).trans (still _ rfl rfl rfl)
  · exact congrArg fin ((startUpTest_advent hw false h1 h2).trans (startUpAdvent_second hn hr))
  · refine ⟨_, (congrArg fin ((selfTestEnd_rng hw true).trans (rngTested_pass hw h1 h2))).trans (still _ rfl rfl rfl), fun k hk => ?_⟩
    rw [BitVec.getLsbD_ofNat, testBit_maskOf 8 _ k hk, decide_eq_true hk, Bool.true_and]
  · exact congrArg fin ((selfTestEnd_rng hw false).trans (rngTested_fail hw h2))
  · obtain ⟨ws, e⟩ := adventRun_eq s
    refine ⟨congrArg fin (adventComplete_ready hw hu h1 h2 h3 h4), ?_⟩
    rw [e]
    exact ⟨rfl, rfl, rfl, rfl⟩
  · exact (congrArg fin (adventComplete_waits (.inr h))).trans (still _ rfl rfl rfl)
  · exact (congrArg fin (adventComplete_waits (.inl (by rw [h]; decide)))).trans (still _ rfl rfl rfl)
  · exact (congrArg fin (startUpTest_readmitted hw h1 ha hf)).trans (still _ rfl rfl rfl)
  · exact congrArg fin (healthTestFailure_running hw false h1 ha)
  · exact congrArg fin (healthTestFailure_running hw true h1 ha)
  · exact (congrArg fin (healthTestFailure_halted hw false h1)).trans (still _ rfl rfl rfl)
  · exact (congrArg fin (healthTestFailure_halted hw true h1)).trans (still _ rfl rfl rfl)

end Sys2Proof.Entropy
end

section
/-!
SUPPORT. Tamper alarms.
-/

namespace Sys2Proof.Tamper

open Sys2Proof Sys2Proof.Machine Sys2Proof.Safety Sys2Proof.Bring

theorem poRstLow_of_awake {s : State} (h : awake s = true) : s.pins.poRstLow = false := ((awake_spec s).1 h).1

theorem mem_addClass (l : List AlarmClass) (c : AlarmClass) : c ∈ addClass l c := by
  unfold addClass
  split
  · next h => exact List.contains_iff_mem.mp h
  · exact List.mem_append_right _ (List.mem_singleton_self c)

section
variable {s : State} {a : AlarmClass}

/-- Sources that a trip sets besides that of its class: that of the unit whose register it is (R107). -/
def registerSources : AlarmSource → List Nat
  | .register u => [unitSource u 1]
  | _ => []

/-- A trip that counts: its class's source is set, with that of the unit whose register it is. -/
theorem alarmTrip_counts {src : AlarmSource} (h : awake s = true) (ht : trips s a src = true) :
    alarmTrip a src s = tripped s a (registerSources src) := by
  simp only [alarmTrip, poRstLow_of_awake h, ht, Bool.false_eq_true, if_false, Bool.not_true]
  cases src <;> rfl

theorem alarmTrip_ignored {src : AlarmSource} (h : awake s = true) (ht : trips s a src = false) : alarmTrip a src s = s := by
  simp only [alarmTrip, poRstLow_of_awake h, ht, Bool.false_eq_true, if_false, Bool.not_false, if_true]

/-- A request that is on no hash lane has empty key registers once the keys are erased. -/
theorem zeroKeys_empty {p q : Req} (e : p.zeroKeys = q) (h : ∀ u, q.unit = some u → kindOf u ≠ .hash) :
    q.regs = [] ∧ q.regs2 = [] ∧ q.regsB = [] := by
  subst e
  unfold Req.zeroKeys at h ⊢
  cases hu : p.unit with
  | none => exact ⟨rfl, rfl, rfl⟩
  | some u =>
    rw [hu] at h
    by_cases hk : kindOf u = .hash
    · simp only [hk, if_true] at h
      exact absurd hk (h u hu)
    · simp only [hk, if_false, and_self]

/-- What an alarm erases, and what it blocks (steps 2, 3 and 5 of R109). -/
theorem tripErase_erases (s : State) (a : AlarmClass) (safe : Bool) :
    (tripErase s a safe).cache = [] ∧ (tripErase s a safe).vault.frames = [] ∧ (tripErase s a safe).alarms.blocked = true ∧
    (tripErase s a safe).alarms.holding = false ∧ a ∈ (tripErase s a safe).alarms.asserted ∧ a ∈ (tripErase s a safe).alarms.active ∧
    (tripErase s a safe).alarms.eraseCount = s.alarms.eraseCount + 1 ∧
    (∀ e ∈ (tripErase s a safe).reqs, ∀ q, e.2 = some q → (∀ u, q.unit = some u → kindOf u ≠ .hash) →
      q.regs = [] ∧ q.regs2 = [] ∧ q.regsB = []) ∧
    (∀ e ∈ (tripErase s a safe).fns, e.2.atHand = false) ∧ ∀ i, installNow (tripErase s a safe) i = tripErase s a safe := by
  refine ⟨rfl, rfl, rfl, rfl, mem_addClass _ _, mem_addClass _ _, rfl, fun e he q hq hu => ?_, fun e he => ?_, fun i => rfl⟩
  · obtain ⟨x, -, rfl⟩ := List.mem_map.mp he
    obtain ⟨p, -, hp⟩ := Option.map_eq_some_iff.mp hq
    exact zeroKeys_empty hp hu
  · obtain ⟨x, -, rfl⟩ := List.mem_map.mp he
    rfl

theorem alarmInactive_blocked (h : awake s = true) (hb : s.alarms.blocked = true) :
    alarmInactive s = { s with alarms := { s.alarms with asserted := [], holding := true } } := by
  simp only [alarmInactive, poRstLow_of_awake h, hb, alarmOver, Bool.false_eq_true, if_false, Bool.not_true, Bool.false_and]

theorem alarmHoldEnd_over (h : awake s = true) (hb : s.alarms.blocked = true) (hh : s.alarms.holding = true) (ha : s.alarms.asserted = []) :
    alarmHoldEnd s = bringWatch (pumpAll (alarmOver (beginUpd (retryResolve
      { s with alarms := { s.alarms with blocked := false, holding := false } })))) := by
  unfold alarmHoldEnd
  rw [if_neg (by simp [poRstLow_of_awake h, hb, hh, ha])]
  rfl

theorem alarmHoldEnd_waits (h : s.alarms.blocked = false ∨ s.alarms.holding = false ∨ s.alarms.asserted ≠ []) : alarmHoldEnd s = s := by
  unfold alarmHoldEnd
  refine if_pos ?_
  simp only [Bool.or_eq_true, Bool.not_eq_true', List.isEmpty_eq_false_iff, or_assoc]
  exact .inr h

end

/-- Settles O48. -/
theorem alarmsEraseAndBlock : Obligations.AlarmsEraseAndBlock := by
  unfold Obligations.AlarmsEraseAndBlock
  intro a s h srcs safe x done
  have counts : ∀ src, trips s a src = true →
      exec (.alarmTrip a src) s = .next (settle (collect (done (registerSources src)))) := fun src ht =>
    congrArg fin (alarmTrip_counts h ht)
  have ignored : ∀ src, trips s a src = false → exec (.alarmTrip a src) s = .next s := fun src ht =>
    (congrArg fin (alarmTrip_ignored h ht)).trans (fin_of_awake s h)
  refine ⟨counts .sensor rfl, fun more => tripErase_erases s a (safe more), fun hi => counts .input hi, fun hi => ignored .input hi,
    fun aon mv ha ho => counts (.supply aon mv) (by simp [trips, ha, ho]), fun aon mv ho => ignored (.supply aon mv) ?_,
    fun b ha hk => counts (.register b) (by simp [trips, ha, hk]), fun hb => ?_, fun hb hh ha => ?_, fun hn => ?_⟩
  · rcases ho with ho | ho <;> simp [trips, ho]
  · exact (congrArg fin (alarmInactive_blocked h hb)).trans (fin_of_fields h rfl rfl rfl)
  · exact congrArg fin (alarmHoldEnd_over h hb hh ha)
  · exact (congrArg fin (alarmHoldEnd_waits hn)).trans (fin_of_awake s h)

end Sys2Proof.Tamper
end

section
/-!
SUPPORT. Canonical tables: their keys, and what a fold of changes over a list of keys leaves in them.
-/

namespace Sys2Proof.Tables

open Sys2Proof Sys2Proof.Machine Sys2Proof.Safety

/-! ### Tables with one default -/

section
variable {α : Type} [DecidableEq α]

theorem lo_le_of_mem {d : α} {e : Nat × α} : ∀ {t : Tbl α} {lo : Nat}, twfFrom d lo t = true → e ∈ t → lo ≤ e.1
  | (k, v) :: t, lo, w, h => by
    simp only [twfFrom, Bool.and_eq_true, decide_eq_true_eq] at w
    obtain ⟨⟨hk, -⟩, ht⟩ := w
    rcases List.mem_cons.mp h with rfl | h
    · exact hk
    · exact Nat.le_trans hk (Nat.le_of_succ_le (lo_le_of_mem ht h))

theorem keys_nodup {d : α} : ∀ {t : Tbl α} {lo : Nat}, twfFrom d lo t = true → (t.map Prod.fst).Nodup
  | [], _, _ => List.nodup_nil
  | (k, v) :: t, lo, w => by
    simp only [twfFrom, Bool.and_eq_true, decide_eq_true_eq] at w
    refine List.nodup_cons.mpr ⟨fun h => ?_, keys_nodup w.2⟩
    obtain ⟨e, he, hk⟩ := List.mem_map.mp h
    have hle := lo_le_of_mem w.2 he
    rw [hk] at hle
    exact Nat.not_succ_le_self k hle

/-- A table whose entries under a list of keys are changed, each by its own present value. -/
def foldMod (d : α) (g : α → α) (l : List Nat) (t : Tbl α) : Tbl α := l.foldl (fun t k => tput d t k (g (tget d t k))) t

theorem foldMod_cons (d : α) (g : α → α) (k : Nat) (l : List Nat) (t : Tbl α) :
    foldMod d g (k :: l) t = foldMod d g l (tput d t k (g (tget d t k))) := rfl

theorem twf_foldMod {d : α} (g : α → α) (l : List Nat) {t : Tbl α} (w : twf d t = true) : twf d (foldMod d g l t) = true := by
  induction l generalizing t with
  | nil => exact w
  | cons k l ih => exact ih (twf_tput d t k _ w)

theorem tget_foldMod_other {d : α} (g : α → α) {k : Nat} {l : List Nat} (h : k ∉ l) (t : Tbl α) : tget d (foldMod d g l t) k = tget d t k := by
  induction l generalizing t with
  | nil => rfl
  | cons j l ih =>
    rw [List.mem_cons, not_or] at h
    exact (ih h.2 _).trans (tget_tput_other d d t j k _ h.1)

theorem tget_foldMod {d : α} (g : α → α) {k : Nat} {l : List Nat} (hn : l.Nodup) (h : k ∈ l) {t : Tbl α} (w : twf d t = true) :
    tget d (foldMod d g l t) k = g (tget d t k) := by
  induction l generalizing t with
  | nil => exact absurd h List.not_mem_nil
  | cons j l ih =>
    rw [List.nodup_cons] at hn
    rw [foldMod_cons]
    rcases List.mem_cons.mp h with rfl | hl
    · rw [tget_foldMod_other g hn.1]
      exact tget_tput d t k _ 0 w
    · have hne : k ≠ j := fun e => hn.1 (e ▸ hl)
      rw [ih hn.2 hl (twf_tput d t j _ w), tget_tput_other d d t j k _ hne]

end

/-! ### The table of functions -/

theorem tget_fns_below {f : Nat} : ∀ {t : Tbl FnRec} {lo : Nat}, fnsCanonFrom lo t = true → f < lo → tget (fnDflt f) t f = fnDflt f
  | [], _, _, _ => rfl
  | (k, v) :: t, lo, w, h => by
    simp only [fnsCanonFrom, Bool.and_eq_true, decide_eq_true_eq] at w
    obtain ⟨⟨hk, -⟩, ht⟩ := w
    have hne : k ≠ f := by omega
    simp only [tget, if_neg hne]
    exact tget_fns_below ht (by omega)

theorem tget_tput_fns {f : Nat} (v : FnRec) {t : Tbl FnRec} {lo : Nat} (w : fnsCanonFrom lo t = true) :
    tget (fnDflt f) (tput (fnDflt f) t f v) f = v := by
  by_cases hv : v = fnDflt f
  · subst hv
    induction t generalizing lo with
    | nil => simp [tput, tget]
    | cons e t ih =>
      obtain ⟨k, x⟩ := e
      simp only [fnsCanonFrom, Bool.and_eq_true, decide_eq_true_eq] at w
      obtain ⟨⟨hk, -⟩, ht⟩ := w
      by_cases h1 : f < k
      · simp only [tput, h1, if_true, tget, if_neg (show k ≠ f by omega)]
        exact tget_fns_below ht (by omega)
      · by_cases h2 : f = k
        · subst h2
          simp only [tput, h1, if_false, if_true]
          exact tget_fns_below ht (by omega)
        · simp only [tput, h1, h2, if_false, tget, if_neg (Ne.symm h2)]
          exact ih ht
  · exact tget_tput_self _ t f v hv

theorem fnsCanonFrom_mono {t : Tbl FnRec} {a b : Nat} (h : a ≤ b) (w : fnsCanonFrom b t = true) : fnsCanonFrom a t = true := by
  cases t with
  | nil => rfl
  | cons e t =>
    simp only [fnsCanonFrom, Bool.and_eq_true, decide_eq_true_eq] at w ⊢
    exact ⟨⟨Nat.le_trans h w.1.1, w.1.2⟩, w.2⟩

theorem fnsCanonFrom_tput {f : Nat} (v : FnRec) {t : Tbl FnRec} {lo : Nat} (hlo : lo ≤ f) (w : fnsCanonFrom lo t = true) :
    fnsCanonFrom lo (tput (fnDflt f) t f v) = true := by
  induction t generalizing lo with
  | nil =>
    by_cases hv : v = fnDflt f
    · simp [tput, hv, fnsCanonFrom]
    · simp [tput, hv, fnsCanonFrom, hlo]
  | cons e t ih =>
    obtain ⟨k, x⟩ := e
    have w0 := w
    simp only [fnsCanonFrom, Bool.and_eq_true, decide_eq_true_eq] at w
    obtain ⟨⟨hk, hx⟩, ht⟩ := w
    by_cases h1 : f < k
    · by_cases hv : v = fnDflt f
      · simpa only [tput, h1, if_true, hv] using w0
      · simp [tput, h1, hv, fnsCanonFrom, hlo, hx, ht]
    · by_cases h2 : f = k
      · subst h2
        by_cases hv : v = fnDflt f
        · simp only [tput, h1, if_false, if_true, hv]
          exact fnsCanonFrom_mono (by omega) ht
        · simp [tput, hv, fnsCanonFrom, hlo, ht]
      · simp only [tput, h1, h2, if_false, fnsCanonFrom, Bool.and_eq_true, decide_eq_true_eq]
        exact ⟨⟨hk, hx⟩, ih (by omega) ht⟩

/-! ### The tables of a canonical state -/

theorem canon_tables {s : State} (h : canon s = true) :
    twf ({} : UnitRec) s.units = true ∧ twf ({} : RingRec) s.rings = true ∧ twf ({} : ChanRec) s.chans = true ∧ fnsCanonFrom 0 s.fns = true ∧
    twf none s.reqs = true ∧ twf none s.chains = true ∧ twf ({} : GenRec) s.gens = true ∧ twf ({} : SlotRec) s.vault.slots = true := by
  simpa only [canon, Bool.and_eq_true, and_assoc] using h

theorem getFn_modFn {s : State} (w : fnsCanonFrom 0 s.fns = true) (f : Nat) (g : FnRec → FnRec) : getFn (modFn s f g) f = g (getFn s f) :=
  tget_tput_fns _ w

theorem fnsCanon_modFn {s : State} (w : fnsCanonFrom 0 s.fns = true) (f : Nat) (g : FnRec → FnRec) :
    fnsCanonFrom 0 (modFn s f g).fns = true :=
  fnsCanonFrom_tput _ (Nat.zero_le f) w

theorem foldl_modRing_eq (g : RingRec → RingRec) (l : List Nat) (s : State) :
    l.foldl (fun s n => modRing s n g) s = { s with rings := foldMod {} g l s.rings } := by
  induction l generalizing s with
  | nil => rfl
  | cons n l ih => exact (ih (modRing s n g)).trans rfl

theorem foldl_modChan_eq (g : ChanRec → ChanRec) (l : List Nat) (s : State) :
    l.foldl (fun s n => modChan s n g) s = { s with chans := foldMod {} g l s.chans } := by
  induction l generalizing s with
  | nil => rfl
  | cons n l ih => exact (ih (modChan s n g)).trans rfl

theorem ringsOf_nodup {s : State} (w : twf ({} : RingRec) s.rings = true) (f : Nat) : (ringsOf s f).Nodup :=
  List.Nodup.sublist (List.Sublist.map Prod.fst List.filter_sublist) (keys_nodup w)

theorem chansOf_nodup {s : State} (w : twf ({} : ChanRec) s.chans = true) (f : Nat) : (chansOf s f).Nodup :=
  List.Nodup.sublist (List.Sublist.map Prod.fst List.filter_sublist) (keys_nodup w)

/-- A listed ring has an owner. -/
theorem owner_of_mem_ringsOf {s : State} (w : twf ({} : RingRec) s.rings = true) {f n : Nat} (h : n ∈ ringsOf s f) :
    (getRing s n).owner = some f := by
  obtain ⟨e, he, rfl⟩ := List.mem_map.mp h
  obtain ⟨he, ho⟩ := List.mem_filter.mp he
  have ho := of_decide_eq_true ho
  have hd : e.2 ≠ ({} : RingRec) := fun hd => by
    rw [hd] at ho
    cases ho
  have hg : getRing s e.1 = e.2 := (Erasures.mem_iff_tget hd s.rings 0 w).mp he
  rw [hg]
  exact ho

end Sys2Proof.Tables
end

section
/-!
SUPPORT. Resets, freezes and enables of functions, and the bounds of drains.
-/

namespace Sys2Proof.Service

open Sys2Proof Sys2Proof.Machine Sys2Proof.Safety Sys2Proof.Bring Sys2Proof.Neighbours Sys2Proof.Tables

/-! ### Resets -/

section
variable {s : State} {f : Nat}

theorem functionLevelReset_begun (hw : atWork s = true) (hf : f ≤ 1024) (hd : s.life.draining = false) :
    functionLevelReset f s = pumpAll (veReset s f) := by
  simp only [functionLevelReset, coreUp_of_work hw, hd, hf, decide_true, Bool.not_false, Bool.and_self, if_true]

theorem functionLevelReset_absorbed (hd : s.life.draining = true) : functionLevelReset f s = s := by
  simp [functionLevelReset, hd]

/-- What a reset's beginning leaves of a function that has no rings and no channels. -/
theorem resetBegin_bare (hr : ringsOf s f = []) (hc : chansOf s f = []) :
    (resetBegin s f).fns = (withdrawFn (modFn s f fun r => { r with before := r.state, state := .resetting, skew := false }) f).fns := by
  have e1 : ∀ t : State, t.rings = s.rings → ringsOf t f = [] := fun t h => by simpa only [ringsOf, h] using hr
  have e2 : ∀ t : State, t.chans = s.chans → chansOf t f = [] := fun t h => by simpa only [chansOf, h] using hc
  have hw : ∀ t : State, (withdrawFn t f).rings = t.rings := by
    intro t
    unfold withdrawFn withdraw
    split <;> rfl
  have key : ∀ m : State, m.rings = s.rings → m.chans = s.chans →
      (let a := (ringsOf m f).foldl dropFetch m
       let b := (chansOf a f).foldl (fun s c => if chanEnabled (getChan s c) then stopChan s c false else s) a
       let c := endMail (clearCoal (withdrawFn b f) f) f
       (ringsOf c f).foldl (fun s n => endIncomplete s n .abortedReset) c).fns = (withdrawFn m f).fns := by
    intro m h1 h2
    have hcoal : clearCoal (withdrawFn m f) f = withdrawFn m f := by
      rw [clearCoal, e1 (withdrawFn m f) ((hw m).trans h1), List.foldl_nil]
    have hmail : (endMail (withdrawFn m f) f).rings = s.rings := (hw m).trans h1
    dsimp only
    rw [e1 m h1, List.foldl_nil, e2 m h2, List.foldl_nil, hcoal, e1 _ hmail, List.foldl_nil]
    rfl
  exact key (modFn s f fun r => { r with before := r.state, state := .resetting, skew := false }) rfl rfl

theorem fns_withdraw (s : State) (p : IrqMsg → Bool) : (withdraw s p).fns = s.fns := by
  unfold withdraw
  split <;> rfl

theorem getFn_congr {s t : State} (h : t.fns = s.fns) (f : Nat) : getFn t f = getFn s f := by
  simp only [getFn, h]

theorem getFn_withdrawFn (w : fnsCanonFrom 0 s.fns = true) : getFn (withdrawFn s f) f = { getFn s f with held := 0 } := by
  have e := fns_withdraw s fun m => decide (m.fn = f) && !m.own
  refine (getFn_modFn (by rw [e]; exact w) f _).trans ?_
  rw [getFn_congr e]

theorem getFn_withdrawFn_other {g : Nat} (h : g ≠ f) : getFn (withdrawFn s f) g = getFn s g :=
  (getFn_setFn_other _ f g _ h).trans (getFn_congr (fns_withdraw s _) g)

theorem resetBegin_fns (w : fnsCanonFrom 0 s.fns = true) (hr : ringsOf s f = []) (hc : chansOf s f = []) :
    getFn (resetBegin s f) f = { getFn s f with before := (getFn s f).state, state := .resetting, skew := false, held := 0 } ∧
    ∀ g, g ≠ f → getFn (resetBegin s f) g = getFn s g := by
  have e := resetBegin_bare hr hc
  refine ⟨?_, fun g hg => ?_⟩
  · rw [getFn_congr e, getFn_withdrawFn (fnsCanon_modFn w f _), getFn_modFn w]
  · rw [getFn_congr e, getFn_withdrawFn_other hg]
    exact getFn_setFn_other s f g _ hg

/-- A reset of a frozen function that has no rings, no channels and no action voids its image (R258). -/
theorem resetFrozen_bare (w : fnsCanonFrom 0 s.fns = true) (hs : (getFn s f).state = .frozen) (hr : ringsOf s f = []) (hc : chansOf s f = [])
    (ha : (getFn s f).act = none) :
    getFn (resetFrozen s f) f = { getFn s f with mig := .none, restart := true, resetHeld := false, image := none, held := 0 } := by
  have e1 : ∀ t : State, t.rings = s.rings → ringsOf t f = [] := fun t h => by simpa only [ringsOf, h] using hr
  have e2 : ∀ t : State, t.chans = s.chans → chansOf t f = [] := fun t h => by simpa only [chansOf, h] using hc
  have hw : ∀ t : State, (withdrawFn t f).rings = t.rings := by
    intro t
    unfold withdrawFn withdraw
    split <;> rfl
  have key : ∀ y : State, fnsCanonFrom 0 y.fns = true → y.rings = s.rings →
      getFn y f = { getFn s f with mig := .none, restart := true, resetHeld := false, image := none } →
      getFn (resetActEnd (endMail (clearCoal (withdrawFn y f) f) f) f) f =
        { getFn s f with mig := .none, restart := true, resetHeld := false, image := none, held := 0 } := by
    intro y wy hy hg
    have hcoal : clearCoal (withdrawFn y f) f = withdrawFn y f := by
      unfold clearCoal
      rw [e1 _ ((hw y).trans hy), List.foldl_nil]
    have he : getFn (endMail (withdrawFn y f) f) f = { getFn y f with held := 0 } := getFn_withdrawFn wy
    rw [hg] at he
    have hact : (getFn (endMail (withdrawFn y f) f) f).act = none := by
      rw [he]
      exact ha
    rw [hcoal, resetActEnd, hact]
    exact he
  unfold resetFrozen
  dsimp only
  rw [e2 (modFn s f _) rfl, List.foldl_nil]
  refine key _ (fnsCanon_modFn w f _) rfl ?_
  rw [getFn_modFn w]
  simp only [hs, ha, if_true, Option.map_none]

theorem veResetAbandon_resetting (hw : atWork s = true) (h : (getFn s f).state = .resetting) :
    veResetAbandon f s = pumpAll (resetOver (drainBoundFn s f) f) := by
  simp only [veResetAbandon, coreUp_of_work hw, h, Bool.not_true, Bool.false_eq_true, if_false]

theorem veResetAbandon_destroying (hw : atWork s = true) (h : (getFn s f).state = .destroying) :
    veResetAbandon f s = pumpAll (destroyAdvance (drainBoundFn s f) f) := by
  simp only [veResetAbandon, coreUp_of_work hw, h, safe_of_work hw, Bool.not_true, Bool.false_eq_true, if_false]

theorem veResetAbandon_running (h : (getFn s f).state = .running) : veResetAbandon f s = s := by
  simp only [veResetAbandon, h, ite_self]

/-! ### The host chip's enable -/

theorem enableIndication_eq (hw : atWork s = true) (hf : f ≤ 1024) (v : U32) :
    enableIndication f v s = applyEnable (modFn s f fun r => { r with hostEnable := v.getLsbD 0 }) f := by
  obtain ⟨hp, -⟩ := atWork_facts hw
  have hc : coreUp (modFn s f fun r => { r with hostEnable := v.getLsbD 0 }) = true := coreUp_of_work hw
  simp only [enableIndication, hp, hf, hc, decide_true, Bool.not_true, Bool.or_self, Bool.false_eq_true, if_false, if_true]

theorem applyEnable_off (hs : (getFn s f).state = .running) (he : (getFn s f).hostEnable = false) :
    applyEnable s f = modFn s f fun r => { r with state := .quiesced, skew := false } := by
  simp only [applyEnable, hs, he]

/-! ### Freezes -/

theorem freezeBound_channels (hw : atWork s = true) (h : (getFn s f).state = .freezing) :
    freezeBound f true s = (liveRuns s f).foldl (fun s c => stopChan s c false) s := by
  simp only [freezeBound, coreUp_of_work hw, safe_of_work hw, h, ne_eq, not_true_eq_false, decide_false, Bool.not_true, Bool.or_self,
    Bool.false_eq_true, if_false, if_true]

theorem freezeBound_requests (hw : atWork s = true) (h : (getFn s f).state = .freezing) :
    freezeBound f false s = pumpAll (freezeOver (drainBoundFn s f) f) := by
  simp only [freezeBound, coreUp_of_work hw, safe_of_work hw, h, ne_eq, not_true_eq_false, decide_false, Bool.not_true, Bool.or_self,
    Bool.false_eq_true, if_false]

theorem freezeBound_other (b : Bool) (h : (getFn s f).state ≠ .freezing) : freezeBound f b s = s := by
  simp [freezeBound, h]

theorem freezeOver_quiet (h1 : replacingSlots s f = []) (h2 : fnBusy s f = false) (h3 : freezeUpds s f = false) (h4 : erasingOf s f = false) :
    freezeOver s f = veCommand (freezeEnd s f) f := by
  have hcl : cancelLate s f = s := by
    unfold cancelLate
    rw [h1]
    rfl
  simp only [freezeOver, hcl, h2, h3, h4, Bool.or_self, Bool.false_eq_true, if_false]

/-- What step 7 of R257 keeps while it signals the function's counted entries. -/
def Signalled (s : State) (f : Nat) (t : State) : Prop :=
  twf ({} : RingRec) t.rings = true ∧ fnsCanonFrom 0 t.fns = true ∧ t.chans = s.chans ∧
    (∀ n, ∃ c, getRing t n = { getRing s n with coal := c }) ∧ (getFn t f).resetHeld = (getFn s f).resetHeld

theorem signalled_raiseFn {y : State} (g vec : Nat) (h : Signalled s f y) : Signalled s f (raiseFn y g vec) := by
  obtain ⟨w, wf, hc, hr, hf⟩ := h
  have held : ∀ v : FnRec → BitVec 16, Signalled s f (modFn y g fun r => { r with held := v r }) := by
    intro v
    refine ⟨w, fnsCanon_modFn wf g _, hc, hr, ?_⟩
    by_cases hg : f = g
    · subst hg
      rw [getFn_modFn wf]
      exact hf
    · exact (congrArg FnRec.resetHeld (getFn_setFn_other y g f _ hg)).trans hf
  have msg : Signalled s f (raiseMsg y g vec false) := by
    unfold raiseMsg
    split <;> exact ⟨w, wf, hc, hr, hf⟩
  unfold raiseFn
  split
  · exact msg
  · exact held fun r => r.held ||| BitVec.ofNat 16 (2 ^ vec)
  · exact held fun r => r.held ||| BitVec.ofNat 16 (2 ^ vec)
  · exact held fun r => r.held ||| BitVec.ofNat 16 (2 ^ vec)
  · exact held fun r => r.held ||| BitVec.ofNat 16 (2 ^ vec)
  all_goals exact ⟨w, wf, hc, hr, hf⟩

theorem signalled_signalOn {t : State} (n vec : Nat) (h : Signalled s f t) : Signalled s f (signalOn t n vec) := by
  obtain ⟨w, wf, hc, hr, hf⟩ := h
  have hm : Signalled s f (modRing t n fun r => { r with coal := 0 }) := by
    refine ⟨twf_tput _ _ _ _ w, wf, hc, fun m => ?_, hf⟩
    obtain ⟨c, e⟩ := hr m
    by_cases hmn : m = n
    · subst hmn
      refine ⟨0, (getRing_setRing t m _ w).trans ?_⟩
      rw [e]
    · exact ⟨c, (getRing_setRing_other t n m _ hmn).trans e⟩
  exact signalled_raiseFn _ vec hm

theorem signalled_foldl (l : List Nat) {t : State} (h : Signalled s f t) :
    Signalled s f (l.foldl (fun s n => if 0 < (getRing s n).coal then signalRing s n else s) t) := by
  induction l generalizing t with
  | nil => exact h
  | cons n l ih =>
    refine ih ?_
    dsimp only
    split
    · exact signalled_signalOn n _ h
    · exact h

/-- A ring that is frozen, and a channel (step 7 of R257). -/
def freezeRing (r : RingRec) : RingRec := if r.state = .disabled then r else { r with thaw := r.state, state := .frozen }
def freezeChan (r : ChanRec) : ChanRec := if r.state = .disabled ∨ r.state = .frozen then r else { r with thaw := r.state, state := .frozen }

theorem mem_ringsOf_of_signalled {t : State} (h : Signalled s f t) {n : Nat} (hn : (getRing s n).owner = some f) : n ∈ ringsOf t f := by
  obtain ⟨w, -, -, hr, -⟩ := h
  obtain ⟨c, e⟩ := hr n
  have ho : (getRing t n).owner = some f := by
    rw [e]
    exact hn
  have hd : getRing t n ≠ ({} : RingRec) := fun hd => by
    rw [hd] at ho
    cases ho
  have hm : (n, getRing t n) ∈ t.rings := (Erasures.mem_iff_tget hd t.rings 0 w).mpr rfl
  exact List.mem_map.mpr ⟨_, List.mem_filter.mpr ⟨hm, decide_eq_true ho⟩, rfl⟩

/-- The end of a freeze: function, rings and channels stand FROZEN (R257). -/
theorem freezeEnd_freezes (hcan : canon s = true) (hh : (getFn s f).resetHeld = false) :
    (getFn (freezeEnd s f) f).state = .frozen ∧
    (∀ n ∈ ringsOf s f, ∃ c, getRing (freezeEnd s f) n = freezeRing { getRing s n with coal := c }) ∧
    ∀ c ∈ chansOf s f, getChan (freezeEnd s f) c = freezeChan (getChan s c) := by
  obtain ⟨-, wr, wc, wf, -⟩ := canon_tables hcan
  have h := signalled_foldl (s := s) (f := f) (ringsOf s f) (t := s) ⟨wr, wf, rfl, fun n => ⟨_, rfl⟩, rfl⟩
  unfold freezeEnd
  generalize (ringsOf s f).foldl (fun s n => if 0 < (getRing s n).coal then signalRing s n else s) s = y at h
  dsimp only
  have e1 := foldl_modRing_eq freezeRing (ringsOf y f) y
  rw [show (ringsOf y f).foldl (fun s n => modRing s n fun r => if r.state = .disabled then r else { r with thaw := r.state, state := .frozen }) y =
    { y with rings := foldMod {} freezeRing (ringsOf y f) y.rings } from e1]
  have e2 := foldl_modChan_eq freezeChan (chansOf y f) { y with rings := foldMod {} freezeRing (ringsOf y f) y.rings }
  rw [show (chansOf { y with rings := foldMod {} freezeRing (ringsOf y f) y.rings } f).foldl (fun s c => modChan s c fun r =>
      if r.state = .disabled ∨ r.state = .frozen then r else { r with thaw := r.state, state := .frozen })
      { y with rings := foldMod {} freezeRing (ringsOf y f) y.rings } = _ from e2]
  obtain ⟨w, wfy, hc, hr, hf⟩ := id h
  have hfn : ∀ z : State, z.fns = y.fns → getFn (modFn z f fun r => { r with state := .frozen }) f = { getFn y f with state := .frozen } := by
    intro z hz
    rw [getFn_modFn (by rw [hz]; exact wfy), getFn_congr hz]
  have hfin : ∀ z : State, z.fns = y.fns → (if (getFn (modFn z f fun r => { r with state := .frozen }) f).resetHeld
      then resetFrozen (modFn z f fun r => { r with state := .frozen }) f else modFn z f fun r => { r with state := .frozen }) =
      modFn z f fun r => { r with state := .frozen } := by
    intro z hz
    have hno : (getFn (modFn z f fun r => { r with state := .frozen }) f).resetHeld = false := by
      rw [hfn z hz]
      exact hf.trans hh
    exact if_neg (by rw [hno]; exact Bool.false_ne_true)
  rw [hfin]
  case a => rfl
  refine ⟨?_, fun n hn => ?_, fun c hc' => ?_⟩
  · rw [hfn]
    case a => rfl
  · obtain ⟨c, e⟩ := hr n
    refine ⟨c, ?_⟩
    rw [← e]
    exact tget_foldMod freezeRing (ringsOf_nodup w f) (mem_ringsOf_of_signalled h (owner_of_mem_ringsOf wr hn)) w
  · have hm : c ∈ chansOf y f := by
      simpa only [chansOf, hc] using hc'
    have hg : getChan s c = getChan y c := by simp only [getChan, hc]
    rw [hg]
    exact tget_foldMod freezeChan (chansOf_nodup (by rw [hc]; exact wc) f) hm (by rw [hc]; exact wc)

/-! ### The bounds of drains -/

theorem ringDrainBound_drains (hw : atWork s = true) (h : ringDrains s f = true) :
    ringDrainBound f s = pumpAll (ringSettle (killRing s f .abortedReset) f) := by
  simp only [ringDrainBound, coreUp_of_work hw, h, Bool.and_self, if_true]

theorem ringDrainBound_other (h : ringDrains s f = false) : ringDrainBound f s = s := by
  simp [ringDrainBound, h]

theorem channelDisableBound_eq (hw : atWork s = true) : channelDisableBound f s = pumpAll (chanBound s f) := by
  simp only [channelDisableBound, coreUp_of_work hw, safe_of_work hw, Bool.not_false, Bool.and_self, if_true]

end

/-- Settles O49. -/
theorem functionsAndDrains : Obligations.FunctionsAndDrains := by
  unfold Obligations.FunctionsAndDrains
  refine ⟨fun f s hw hf => ?_, fun f s => ⟨freezeOver_quiet, fun hcan hh => ?_⟩, fun n s hw => ?_⟩
  · have still : ∀ {t : State}, t = s → fin t = .next s := fun {t} h => by
      rw [h]
      exact fin_of_work hw rfl rfl rfl
    refine ⟨fun hd => ⟨fun hs => ?_, fun hcan hs hr hc => ?_, fun hs => ?_, fun hs => ?_, fun hcan hs hc hr ha => ?_⟩, fun hd => ?_, fun hs => ?_,
      fun hs => ?_, fun hs => ?_, fun v hcan hs hv => ?_, fun v hs hv => ?_, fun hs => ⟨?_, ?_⟩, fun b hs => ?_⟩
    · have e : veReset s f = resetBegin s f := by
        rcases hs with hs | hs <;> simp only [veReset, hs]
      exact congrArg fin ((functionLevelReset_begun hw hf hd).trans (congrArg pumpAll e))
    · obtain ⟨-, -, -, wf, -⟩ := canon_tables hcan
      obtain ⟨e, other⟩ := resetBegin_fns wf hr hc
      rw [e]
      exact ⟨rfl, rfl, rfl, other⟩
    · have e : veReset s f = modFn s f fun r => { r with resetHeld := true } := by
        rcases hs with hs | hs <;> simp only [veReset, hs]
      exact congrArg fin ((functionLevelReset_begun hw hf hd).trans (congrArg pumpAll e))
    · have e : veReset s f = resetFrozen s f := by simp only [veReset, hs]
      exact congrArg fin ((functionLevelReset_begun hw hf hd).trans (congrArg pumpAll e))
    · obtain ⟨-, -, -, wf, -⟩ := canon_tables hcan
      rw [resetFrozen_bare wf hs hr hc ha]
      exact ⟨hs, rfl, rfl, rfl⟩
    · exact still (functionLevelReset_absorbed hd)
    · exact congrArg fin (veResetAbandon_resetting hw hs)
    · exact congrArg fin (veResetAbandon_destroying hw hs)
    · exact still (veResetAbandon_running hs)
    · obtain ⟨-, -, -, wf, -⟩ := canon_tables hcan
      have hg := getFn_modFn wf f fun r => { r with hostEnable := v.getLsbD 0 }
      have e := (enableIndication_eq hw hf v).trans (applyEnable_off (by rw [hg]; exact hs) (by rw [hg]; exact hv))
      refine ⟨_, (congrArg fin e).trans (fin_of_work hw rfl rfl rfl), ?_, ?_, fun g hg => ?_, rfl⟩
      · rw [getFn_modFn (fnsCanon_modFn wf f _)]
      · rw [getFn_modFn (fnsCanon_modFn wf f _), hg]
        exact hv
      · exact (getFn_setFn_other _ f g _ hg).trans (getFn_setFn_other s f g _ hg)
    · refine congrArg fin ((enableIndication_eq hw hf v).trans ?_)
      rw [hv]
      rfl
    · exact congrArg fin (freezeBound_channels hw hs)
    · exact congrArg fin (freezeBound_requests hw hs)
    · exact still (freezeBound_other b hs)
  · obtain ⟨h1, h2, h3⟩ := freezeEnd_freezes hcan hh
    intro t
    refine ⟨h1, fun n hn => ?_, h3⟩
    obtain ⟨c, e⟩ := h2 n hn
    refine ⟨fun hs => ?_, fun hs => ?_⟩
    · rw [show getRing t n = _ from e, freezeRing, if_pos hs]
      exact hs
    · rw [show getRing t n = _ from e, freezeRing, if_neg hs]
      exact ⟨rfl, rfl⟩
  · have still : ∀ {t : State}, t = s → fin t = .next s := fun {t} h => by
      rw [h]
      exact fin_of_work hw rfl rfl rfl
    obtain ⟨hc, hsafe⟩ : coreUp s = true ∧ s.safe = false := ⟨coreUp_of_work hw, safe_of_work hw⟩
    refine ⟨fun h => ?_, fun h1 h2 => ?_, fun h => ?_, fun x h hx => ?_, fun h => ?_, fun h => ?_, fun h => ?_, fun h => ?_⟩
    · exact congrArg fin (ringDrainBound_drains hw (decide_eq_true h))
    · refine still (ringDrainBound_other (decide_eq_false ?_))
      rintro (h | ⟨ha, hb⟩)
      · exact h1 h
      · exact h2.elim (fun h => h ha) fun h => h hb
    · have e : chanBound s n = retireTimedOut s (ownChan n) := by simp only [chanBound, h]
      exact congrArg fin ((channelDisableBound_eq hw).trans (congrArg pumpAll e))
    · have e : chanBound s n = if x.stop then retireTimedOut s (ownChan n) else s := by simp only [chanBound, h, hx]
      exact congrArg fin ((channelDisableBound_eq hw).trans (congrArg pumpAll e))
    · have e : drainBound (.unit n) s = bringWatch (pumpAll (unitOut (abortOn s n) n)) := by
        simp only [drainBound, unitDrainBound, hc, hsafe, h, Bool.not_false, Bool.and_self, if_true]
      exact congrArg fin e
    · have e : drainBound (.unit n) s = s := by simp [drainBound, unitDrainBound, h]
      exact still e
    · have e : drainBound (.ringEcho n) s = pumpAll (modRing (abortChains s (chainsOf s n)) n fun r => { r with echoWait := false }) := by
        simp only [drainBound, echoDrainBound, hc, hsafe, h, Bool.not_false, Bool.and_self, if_true]
      exact congrArg fin e
    · have e : drainBound (.ringEcho n) s = s := by simp [drainBound, echoDrainBound, h]
      exact still e

end Sys2Proof.Service
end

section
/-!
SUPPORT. The Almanac's rows: refusals, and what the requests that read answer.
-/

namespace Sys2Proof.Almanac

open Sys2Proof Sys2Proof.Machine Sys2Proof.Safety Sys2Proof.Bring Sys2Proof.Neighbours

/-! ### An answer leaves -/

theorem route_eq (s : State) (m : AapMsg) (b : Bytes) : ∃ g, route s m b = { s with mgmt := g } := by
  unfold route
  split
  · exact ⟨s.mgmt, rfl⟩
  · dsimp only
    split
    · split
      · exact ⟨_, rfl⟩
      · exact ⟨_, rfl⟩
    all_goals exact ⟨_, rfl⟩

/-- An answer changes nothing but the paths of the requests (R284). -/
theorem answerAt_eq (s : State) (m : AapMsg) (ver : Nat) (st : AapCode) (i k : Nat) (v : Bytes) :
    ∃ g, answerAt s m ver st i k v = { s with mgmt := g } := by
  obtain ⟨g, h⟩ := route_eq { s with mgmt := { s.mgmt with
    last := some { prin := m.prin, ver := ver, op := m.op, status := st, seq := m.seq, index := i, sub := k, value := v } } } m
    (respBytes { prin := m.prin, ver := ver, op := m.op, status := st, seq := m.seq, index := i, sub := k, value := v })
  exact ⟨g, h⟩

section
variable {s t : State} {m : AapMsg} {e : Entry}

/-- An answer from a state that stands as the block's: the command ends with it. -/
theorem fin_answerAt (hw : atWork s = true) (hp : t.pins = s.pins) (hs : t.safe = s.safe) (hr : t.raised = s.raised) (ver : Nat) (st : AapCode)
    (i k : Nat) (v : Bytes) : fin (answerAt t m ver st i k v) = .next (answerAt t m ver st i k v) := by
  obtain ⟨g, h⟩ := answerAt_eq t m ver st i k v
  rw [h]
  exact fin_of_work hw hp hs hr

/-- A row whose request is answered in one step. -/
theorem exec_answers {c : Instr} {x : State} (hw : atWork s = true) (hx : exec c s = fin x) {ver : Nat} {st : AapCode} {i k : Nat} {v : Bytes}
    (e : x = answerAt t m ver st i k v) (hp : t.pins = s.pins) (hs : t.safe = s.safe) (hr : t.raised = s.raised) :
    exec c s = .next (answerAt t m ver st i k v) := by
  rw [hx, e]
  exact fin_answerAt hw hp hs hr ver st i k v

/-- Every row of the Almanac serves the requests of its kind (R282). -/
theorem exec_aapRow (s : State) (m : AapMsg) : ∀ x ∈ aapRows s m, exec x.1 s = fin (serveIf x.2 m s) := by
  simp only [aapRows, List.forall_mem_cons]
  and_intros
  any_goals rfl
  exact List.forall_mem_nil _

theorem exec_row {c : Instr} {p : Bool} (h : (c, p) ∈ aapRows s m) : exec c s = fin (serveIf p m s) := exec_aapRow s m (c, p) h

/-! ### The service -/

theorem serve_closed (h : servable s m = false) : serve m s = s := by
  simp [serve, h]

theorem serve_of_refused {a : AapCode} (h : servable s m = true) (ho : m.op ≠ 0) (hr : refused s m = some a) : serve m s = answer s m a [] := by
  simp only [serve, h, ho, hr, Bool.not_true, Bool.false_eq_true, if_false]

theorem serve_versions (h : servable s m = true) (ho : m.op = 0) : serve m s = answerVersions s m := by
  simp only [serve, h, ho, Bool.not_true, Bool.false_eq_true, if_false, if_true]

/-- A request that has passed the checks is performed. -/
theorem serve_served (h : Served s m) (ho : m.op ≠ 0) : serve m s = perform s m := by
  obtain ⟨-, hs, hr⟩ := h
  simp only [serve, hs, ho, hr, Bool.not_true, Bool.false_eq_true, if_false]

/-- Checks 1 to 6, each reached past the ones before it. -/
theorem refused_of_early {a : AapCode} (h : refusedEarly s m = some a) : refused s m = some a := by
  rw [refused, h]

theorem refused_busy (h : refusedEarly s m = none) (hb : classBusy s m = true) : refused s m = some .busy := by
  rw [refused, h, hb]
  rfl

theorem refusedEarly_eq (s : State) (m : AapMsg) : refusedEarly s m =
    if headBad m then some .version
    else if noEntry s m then some .noEntry
    else if noAccess s m then some .access
    else if lcRefused s m then some .lifecycle
    else (lengthBad m).or (if rangeBad m then some .range else none) := by
  unfold refusedEarly
  cases lengthBad m <;> rfl

end

/-- Settles O50. -/
theorem almanacAnswersTheFirstRefusal : Obligations.AlmanacAnswersTheFirstRefusal := by
  unfold Obligations.AlmanacAnswersTheFirstRefusal
  intro c p m s hw hrow
  have hx := exec_row hrow
  have still : serveIf p m s = s → exec c s = .next s := fun h => by
    rw [hx, h]
    exact fin_of_work hw rfl rfl rfl
  refine ⟨fun hp => still ?_, fun hs => still ?_, fun hp hs ho => ?_⟩
  · rw [hp]
    rfl
  · rw [serveIf, serve_closed hs, ite_self]
  · subst hp
    have refuses : ∀ a, refused s m = some a → exec c s = .next (answer s m a []) := fun a ha =>
      exec_answers hw hx (serve_of_refused hs ho ha) rfl rfl rfl
    have early : ∀ a, refusedEarly s m = some a → exec c s = .next (answer s m a []) := fun a ha => refuses a (refused_of_early ha)
    have e := refusedEarly_eq s m
    refine ⟨fun h1 => early _ ?_, fun h1 h2 => early _ ?_, fun h1 h2 h3 => early _ ?_, fun h1 h2 h3 h4 => early _ ?_,
      fun h1 h2 h3 h4 a h5 => early _ ?_, fun h1 h2 h3 h4 h5 h6 => early _ ?_, fun h1 h2 => refuses _ (refused_busy h1 h2)⟩
    · rw [e, h1]
      rfl
    · rw [e, h1, h2]
      rfl
    · rw [e, h1, h2, h3]
      rfl
    · rw [e, h1, h2, h3, h4]
      rfl
    · rw [e, h1, h2, h3, h4, h5]
      rfl
    · rw [e, h1, h2, h3, h4, h5, h6]
      rfl

/-! ### Requests that read -/

section
variable {s : State} {m : AapMsg} {e : Entry}

theorem perform_read (ho : m.op = 1) (he : entryAt m.index m.sub = some e) : perform s m = readEntry s m e := by
  simp only [perform, ho, he]

theorem perform_readPend (ho : m.op = 5) (he : entryAt m.index m.sub = some e) : perform s m = readPend s m e := by
  simp only [perform, ho, he]

theorem perform_describe (ho : m.op = 6) (he : entryAt m.index m.sub = some e) : perform s m = answer s m .ok (describeBytes s m e) := by
  simp only [perform, ho, he]

theorem perform_next (ho : m.op = 7) : perform s m = answerNext s m := by
  simp only [perform, ho]

theorem readEntry_plain (h1 : isInterval m.index m.sub = false) (h2 : isChallenge m.index m.sub = false)
    (h3 : ¬(m.index = 0x8000 ∧ m.sub = 0x0D)) :
    readEntry s m e = if e.acc = .ro ∧ e.ty.isOct = true ∧ 1024 < e.ty.len then readLong s m e
      else answer s m .ok (segment m e (entryValue s m.index m.sub)) := by
  simp only [readEntry, h1, h2, h3, Bool.false_eq_true, if_false]

theorem readEntry_interval (h : isInterval m.index m.sub = true) : readEntry s m e = readInterval s m := by
  simp only [readEntry, h, if_true]

theorem readEntry_challenge (h1 : isInterval m.index m.sub = false) (h2 : isChallenge m.index m.sub = true) :
    readEntry s m e = readChallenge s m e := by
  simp only [readEntry, h1, h2, Bool.false_eq_true, if_false, if_true]

theorem readEntry_random (h1 : m.index = 0x8000) (h2 : m.sub = 0x0D) : readEntry s m e = readRandom s m e := by
  simp only [readEntry, isInterval, isChallenge, h1, h2]
  simp

theorem isRead_spec {i k : Nat} (h : isRead m i k = true) : m.op = 1 ∧ m.index = i ∧ m.sub = k := of_decide_eq_true h

/-- A served request of the row's kind is performed. -/
theorem exec_served {c : Instr} {p : Bool} (h : Served s m) (ho : m.op ≠ 0) (hx : exec c s = fin (serveIf p m s)) (hp : p = true) :
    exec c s = fin (perform s m) := by
  subst hp
  exact hx.trans (congrArg fin (serve_served h ho))

theorem exec_served_read {c : Instr} {p : Bool} (h : Served s m) (ho : m.op = 1) (he : entryAt m.index m.sub = some e)
    (hx : exec c s = fin (serveIf p m s)) (hp : p = true) : exec c s = fin (readEntry s m e) :=
  (exec_served h (by rw [ho]; decide) hx hp).trans (congrArg fin (perform_read ho he))

/-- A reseed that is due is taken from the reserve; nothing else of the block changes (R190). -/
theorem drbgReady_eq {t : State} (h : drbgReady s = some t) : ∃ g, t = { s with rng := g } := by
  unfold drbgReady drbgNext takeNow at h
  split at h
  · cases h
    exact ⟨s.rng, rfl⟩
  · split at h
    · cases h
      exact ⟨_, rfl⟩
    · cases h

theorem readChallenge_stopped (h : s.rng.state ≠ .running ∨ drbgUp s = false) : readChallenge s m e = answer s m .busy [] := if_pos h

theorem readChallenge_drawn {t : State} (h1 : s.rng.state = .running) (h2 : drbgUp s = true) (h3 : drbgReady s = some t) :
    readChallenge s m e = answer (drawChallenge t (decide (m.index = 0x9001))).2 m .ok (segment m e (drawChallenge t (decide (m.index = 0x9001))).1) := by
  unfold readChallenge
  rw [if_neg (by simp [h1, h2]), h3]

theorem drbgStop_none (h1 : rngStop s = none) (h2 : drbgUp s = true) : drbgStop s = none := by
  simp [drbgStop, h1, h2]

theorem readRandom_drawn {t : State} (h1 : drbgStop s = none) (h3 : drbgReady s = some t) :
    readRandom s m e = answer (drbgCall t [] 32).2 m .ok (segment m e (le 2 0 ++ (drbgCall t [] 32).1)) := by
  unfold readRandom
  rw [h1, h3]

theorem readRandom_stopped {st : Status} (h : drbgStop s = some st) :
    readRandom s m e = answer s m .ok (segment m e (le 2 st.code ++ zeros 32)) := by
  unfold readRandom
  rw [h]

theorem readPend_held {g : Nat} {p : Pending} {v : Bytes} (hg : groupOfEntry m.index m.sub = some g) (hp : findPend s g = some p)
    (hh : p.holder = m.prin) (hv : pendVal p m.index m.sub = some v) : readPend s m e = answer s m .ok (segment m e v) := by
  simp only [readPend, hg, hp, hh, hv, if_true, Option.getD_some]

theorem readPend_committed {g : Nat} (hg : groupOfEntry m.index m.sub = some g) (hp : ∀ p, findPend s g = some p → p.holder ≠ m.prin) :
    readPend s m e = answer s m .ok (segment m e (entryValue s m.index m.sub)) := by
  cases h : findPend s g with
  | none => simp only [readPend, hg, h]
  | some p => simp only [readPend, hg, h, hp p h, if_false]

theorem length_describeBytes (s : State) (m : AapMsg) (e : Entry) : (describeBytes s m e).length = 24 := by
  simp only [describeBytes, List.length_append, RequestRings.length_le]

end

/-- Settles O51. -/
theorem almanacReadsAnswerTheirValue : Obligations.AlmanacReadsAnswerTheirValue := by
  unfold Obligations.AlmanacReadsAnswerTheirValue
  refine ⟨fun m s hw hs ho => ?_, fun m i k s h ho hn => ?_, fun m e s h he => ?_⟩
  · have hx : exec (.versions m) s = fin (serveIf (m.op == 0) m s) := rfl
    have e : serveIf (m.op == 0) m s = answerVersions s m := by
      rw [serveIf, ho]
      exact serve_versions hs ho
    exact exec_answers hw hx e rfl rfl rfl
  · have hx := exec_served (c := .next m) h (by rw [ho]; decide) rfl (by rw [ho]; rfl)
    have e : perform s m = answerAt s m m.ver .ok i k [] := by
      rw [perform_next ho, answerNext, hn]
    exact exec_answers h.1 hx e rfl rfl rfl
  · intro now
    obtain ⟨hw, -⟩ := id h
    have reads : m.op = 1 → exec (.read m) s = fin (readEntry s m e) := fun ho => exec_served_read h ho he rfl (by rw [ho]; rfl)
    refine ⟨fun ho h1 h2 h3 h4 => ?_, fun ho h1 h2 h3 h4 => ?_, fun ho ht hk => ?_, fun ho ht hk => ?_, fun hr => ⟨fun hc => ?_, fun hc => ?_⟩,
      fun t h1 h2 h3 => ?_, fun hc => ?_, fun hc => ?_, fun g p v ho hg hp hh hv => ?_, fun g ho hg hp => ?_, fun g p ho hg hp hh => ?_, fun ho => ?_⟩
    · exact exec_answers hw (reads ho) ((readEntry_plain h1 h2 h3).trans (if_neg h4)) rfl rfl rfl
    · have hl := (readEntry_plain (s := s) h1 h2 h3).trans (if_pos h4)
      intro mine
      refine ⟨fun h0 => ?_, fun x h0 hx => ?_, fun h0 hx => ?_⟩
      · exact exec_answers hw (reads ho) (hl.trans (if_pos h0)) rfl rfl rfl
      · refine exec_answers hw (reads ho) (hl.trans ((if_neg h0).trans ?_)) rfl rfl rfl
        rw [show s.mgmt.snaps.find? _ = some x from hx]
        rfl
      · refine exec_answers hw (reads ho) (hl.trans ((if_neg h0).trans ?_)) rfl rfl rfl
        rw [show s.mgmt.snaps.find? _ = none from hx]
        rfl
    · have e1 : readEntry s m e = answer (modStat s (m.index - 0xC100) fun r => { r with intReq := 0 }) m .ok now := by
        have hi : isInterval m.index m.sub = true := decide_eq_true ⟨(of_decide_eq_true ht).1, (of_decide_eq_true ht).2, .inl hk⟩
        rw [readEntry_interval hi, readInterval]
        simp only [hk, if_true]
        rw [← hk]
      have hx : exec (.fnIntervalReq m) s = fin (readEntry s m e) := exec_served_read h ho he rfl (by simp [ho, hk, ht])
      exact ⟨exec_answers hw hx e1 rfl rfl rfl, exec_answers hw (reads ho) e1 rfl rfl rfl⟩
    · have e1 : readEntry s m e = answer (modStat s (m.index - 0xC100) fun r => { r with intUnits := 0 }) m .ok now := by
        have hi : isInterval m.index m.sub = true := decide_eq_true ⟨(of_decide_eq_true ht).1, (of_decide_eq_true ht).2, .inr hk⟩
        have hne : ¬ 7 = 6 := by decide
        rw [readEntry_interval hi, readInterval]
        simp only [hk, hne, if_false]
        rw [← hk]
      have hx : exec (.fnIntervalUnits m) s = fin (readEntry s m e) := exec_served_read h ho he rfl (by simp [ho, hk, ht])
      exact ⟨exec_answers hw hx e1 rfl rfl rfl, exec_answers hw (reads ho) e1 rfl rfl rfl⟩
    · obtain ⟨ho, hi, hk⟩ := isRead_spec hc
      have hx : exec (.lcChallenge m) s = fin (readEntry s m e) := exec_served_read h ho he rfl hc
      refine exec_answers hw hx ((readEntry_challenge ?_ ?_).trans (readChallenge_stopped hr)) rfl rfl rfl <;> rw [hi, hk] <;> rfl
    · obtain ⟨ho, hi, hk⟩ := isRead_spec hc
      have hx : exec (.debugChallenge m) s = fin (readEntry s m e) := exec_served_read h ho he rfl hc
      refine exec_answers hw hx ((readEntry_challenge ?_ ?_).trans (readChallenge_stopped hr)) rfl rfl rfl <;> rw [hi, hk] <;> rfl
    · obtain ⟨g, rfl⟩ := drbgReady_eq h3
      intro d
      refine ⟨fun hc => ?_, fun hc => ?_⟩
      · obtain ⟨ho, hi, hk⟩ := isRead_spec hc
        have hx : exec (.lcChallenge m) s = fin (readEntry s m e) := exec_served_read h ho he rfl hc
        have e1 : readEntry s m e = answer { d.2 with life := { d.2.life with challenge := some d.1 } } m .ok (segment m e d.1) := by
          refine (readEntry_challenge ?_ ?_).trans ((readChallenge_drawn h1 h2 h3).trans ?_)
          · rw [hi, hk]
            rfl
          · rw [hi, hk]
            rfl
          · rw [decide_eq_false (by rw [hi]; decide)]
            rfl
        exact exec_answers hw hx e1 rfl rfl rfl
      · obtain ⟨ho, hi, hk⟩ := isRead_spec hc
        have hx : exec (.debugChallenge m) s = fin (readEntry s m e) := exec_served_read h ho he rfl hc
        have e1 : readEntry s m e = answer { d.2 with life := { d.2.life with dbgChal := some d.1 } } m .ok (segment m e d.1) := by
          refine (readEntry_challenge ?_ ?_).trans ((readChallenge_drawn h1 h2 h3).trans ?_)
          · rw [hi, hk]
            rfl
          · rw [hi, hk]
            rfl
          · rw [decide_eq_true hi]
            rfl
        exact exec_answers hw hx e1 rfl rfl rfl
    · obtain ⟨ho, hi, hk⟩ := isRead_spec hc
      have hx : exec (.randomEntryRead m) s = fin (readEntry s m e) := exec_served_read h ho he rfl hc
      refine ⟨fun t h1 h2 h3 => ?_, fun st hs => ?_⟩
      · obtain ⟨g, rfl⟩ := drbgReady_eq h3
        intro d
        exact exec_answers hw hx ((readEntry_random hi hk).trans (readRandom_drawn (drbgStop_none h1 h2) h3)) rfl rfl
          rfl
      · exact exec_answers hw hx ((readEntry_random hi hk).trans (readRandom_stopped hs)) rfl rfl rfl
    · simp [drbgReady, drbgNext, hc]
    · have hx := exec_served (c := .readPending m) h (by rw [ho]; decide) rfl (by rw [ho]; rfl)
      exact exec_answers hw hx ((perform_readPend ho he).trans (readPend_held hg hp hh hv)) rfl rfl rfl
    · have hx := exec_served (c := .readPending m) h (by rw [ho]; decide) rfl (by rw [ho]; rfl)
      refine exec_answers hw hx ((perform_readPend ho he).trans (readPend_committed hg fun p hp' => ?_)) rfl rfl rfl
      rw [hp] at hp'
      cases hp'
    · have hx := exec_served (c := .readPending m) h (by rw [ho]; decide) rfl (by rw [ho]; rfl)
      refine exec_answers hw hx ((perform_readPend ho he).trans (readPend_committed hg fun p' hp' => ?_)) rfl rfl rfl
      rw [hp] at hp'
      cases hp'
      exact hh
    · have hx := exec_served (c := .describe m) h (by rw [ho]; decide) rfl (by rw [ho]; rfl)
      exact ⟨length_describeBytes s m e, exec_answers hw hx (perform_describe ho he) rfl rfl rfl⟩

end Sys2Proof.Almanac
end

section
/-!
SUPPORT. Warm reset.
-/

namespace Sys2Proof.Warm

open Sys2Proof Sys2Proof.Machine Sys2Proof.Safety Sys2Proof.Bring Sys2Proof.Tables

/-! ### Tables -/

/-- The tables of rings, channels and functions are canonical. -/
def TablesOk (s : State) : Prop :=
  twf ({} : RingRec) s.rings = true ∧ twf ({} : ChanRec) s.chans = true ∧ fnsCanonFrom 0 s.fns = true

theorem tablesOk_of_fields {s t : State} (h : TablesOk s) (hr : t.rings = s.rings) (hc : t.chans = s.chans) (hf : t.fns = s.fns) : TablesOk t := by
  simpa only [TablesOk, hr, hc, hf] using h

theorem tablesOk_modFn {s : State} (h : TablesOk s) (f : Nat) (g : FnRec → FnRec) : TablesOk (modFn s f g) :=
  ⟨h.1, h.2.1, fnsCanon_modFn h.2.2 f g⟩

theorem tablesOk_foldl {α : Type} {g : State → α → State} (hg : ∀ s a, TablesOk s → TablesOk (g s a)) (l : List α) {s : State} (h : TablesOk s) :
    TablesOk (l.foldl g s) := by
  induction l generalizing s with
  | nil => exact h
  | cons a l ih => exact ih (hg s a h)

theorem tablesOk_releaseRing {s : State} (h : TablesOk s) (n : Nat) : TablesOk (releaseRing s n) :=
  ⟨twf_tput _ _ _ _ h.1, h.2.1, h.2.2⟩

theorem tablesOk_releaseChan {s : State} (h : TablesOk s) (c : Nat) : TablesOk (releaseChan s c) :=
  ⟨h.1, twf_tput _ _ _ _ h.2.1, h.2.2⟩

theorem foldl_cfgSet_eq (i v : Nat) (l : List Nat) (s : State) : ∃ c, l.foldl (fun s k => cfgSet s i k v) s = { s with cfg := c } := by
  induction l generalizing s with
  | nil => exact ⟨s.cfg, rfl⟩
  | cons k l ih => exact ih (cfgSet s i k v)

/-- The rings and channels of a function go back to the pools (R243). -/
def released (s : State) (f : Nat) : State :=
  (chansOf ((ringsOf s f).foldl releaseRing s) f).foldl releaseChan ((ringsOf s f).foldl releaseRing s)

/-- A function becomes absent: beside its rings and channels that touches values, statistics, pending copies, damaged slots and its record. -/
theorem makeAbsent_eq (s : State) (f : Nat) (b : Bool) : ∃ c st mg sl n1 n2 n3 r, makeAbsent s f b =
    setFn { released s f with
      cfg := c, fstat := st, mgmt := mg
      vault := { (released s f).vault with slots := sl, lostSlots := n1, lostLarge := n2, lostShad := n3 } } f r := by
  have key : ∀ x : State, ∃ c st mg sl, buryDamaged (dropPend (clearStat (cfgSet ([1, 3, 5, 7].foldl (fun s k => cfgSet s (0xB000 + f) k 0)
      ([4, 5, 6, 7, 8].foldl (fun s k => cfgSet s (0x4000 + f) k 0) x)) (0x4000 + f) 1 0) f) (0x4000 + f)) f =
      { x with cfg := c, fstat := st, mgmt := mg, vault := { x.vault with slots := sl } } := by
    intro x
    obtain ⟨c1, h1⟩ := foldl_cfgSet_eq (0x4000 + f) 0 [4, 5, 6, 7, 8] x
    obtain ⟨c2, h2⟩ := foldl_cfgSet_eq (0xB000 + f) 0 [1, 3, 5, 7] { x with cfg := c1 }
    rw [h1, h2]
    exact ⟨_, _, _, _, rfl⟩
  obtain ⟨c, st, mg, sl, h⟩ := key (released s f)
  unfold released at h ⊢
  unfold makeAbsent
  dsimp only
  rw [h]
  exact ⟨_, _, _, _, _, _, _, _, rfl⟩

theorem tablesOk_released {s : State} (h : TablesOk s) (f : Nat) : TablesOk (released s f) :=
  tablesOk_foldl (fun _ n h => tablesOk_releaseChan h n) _ (tablesOk_foldl (fun _ n h => tablesOk_releaseRing h n) _ h)

theorem tablesOk_makeAbsent {s : State} (h : TablesOk s) (f : Nat) (b : Bool) : TablesOk (makeAbsent s f b) := by
  obtain ⟨c, st, mg, sl, n1, n2, n3, r, e⟩ := makeAbsent_eq s f b
  obtain ⟨h1, h2, h3⟩ := tablesOk_released h f
  rw [e]
  exact ⟨h1, h2, fnsCanonFrom_tput _ (Nat.zero_le f) h3⟩

theorem putBackCfg_eq (s : State) (f : Nat) (l : List (Nat × Nat)) : ∃ c, putBackCfg s f l = { s with cfg := c } := by
  have key : ∀ t : State, ∃ c, l.foldl (fun s e => cfgSet s (e.1 / 256) (e.1 % 256) e.2) t = { t with cfg := c } := by
    induction l with
    | nil => exact fun t => ⟨t.cfg, rfl⟩
    | cons e l ih => exact fun t => ih (cfgSet t (e.1 / 256) (e.1 % 256) e.2)
  obtain ⟨c, h⟩ := key (clearCfg (clearCfg s (0x4000 + f)) (0xB000 + f))
  exact ⟨c, h⟩

theorem tablesOk_cfg {s : State} (h : TablesOk s) (c : Tbl Nat) : TablesOk { s with cfg := c } := h

theorem tablesOk_unrestoreFn {s : State} (h : TablesOk s) (f : Nat) (r : Restoral) : TablesOk (unrestoreFn s f r) := by
  obtain ⟨c, e⟩ := putBackCfg_eq (makeAbsent s f false) f r.cfg
  unfold unrestoreFn
  rw [e]
  exact tablesOk_modFn (tablesOk_cfg (tablesOk_makeAbsent h f false) c) f _

/-! ### What the end of updates leaves alone -/

/-- What a warm reset keeps or takes over whatever the updates that it cuts are. -/
def carried (s : State) : Tbl UnitRec × BitVec 768 × Tbl Nat × Tbl Nat × Nat × List (Nat × Nat × Bytes) × Tbl NvRec × Pins :=
  (s.units, s.sticky, s.ledgerR, s.ledgerC, s.vault.inc, s.vault.writeBack, s.nv.recs, s.pins)

theorem carried_releaseRing (s : State) (n : Nat) : carried (releaseRing s n) = carried s := by
  obtain ⟨r, c, g, e⟩ : ∃ r c g, releaseRing s n = { s with rings := r, cfg := c, mgmt := g } := ⟨_, _, _, rfl⟩
  rw [e]
  rfl

theorem carried_releaseChan (s : State) (n : Nat) : carried (releaseChan s n) = carried s := by
  obtain ⟨r, c, g, e⟩ : ∃ r c g, releaseChan s n = { s with chans := r, cfg := c, mgmt := g } := ⟨_, _, _, rfl⟩
  rw [e]
  rfl

theorem carried_released (s : State) (f : Nat) : carried (released s f) = carried s :=
  (foldl_field carried releaseChan carried_releaseChan _ _).trans (foldl_field carried releaseRing carried_releaseRing _ _)

theorem carried_makeAbsent (s : State) (f : Nat) (b : Bool) : carried (makeAbsent s f b) = carried s := by
  obtain ⟨c, st, mg, sl, n1, n2, n3, r, e⟩ := makeAbsent_eq s f b
  rw [e]
  exact carried_released s f

theorem carried_unrestoreFn (s : State) (f : Nat) (r : Restoral) : carried (unrestoreFn s f r) = carried s := by
  obtain ⟨c, e⟩ := putBackCfg_eq (makeAbsent s f false) f r.cfg
  have hm := carried_makeAbsent s f false
  unfold unrestoreFn
  rw [e]
  generalize makeAbsent s f false = x at hm ⊢
  exact hm

theorem unpickSlot_eq (s : State) (i : Nat) : ∃ a b, unpickSlot s i = { s with vault := { s.vault with unused := a, freeList := b } } := by
  unfold unpickSlot
  split
  · exact ⟨_, _, rfl⟩
  · split <;> exact ⟨_, _, rfl⟩

theorem unpickAll_eq (s : State) (p : VUpd → Bool) : ∃ a b, unpickAll s p = { s with vault := { s.vault with unused := a, freeList := b } } := by
  unfold unpickAll
  induction puttingSlots s p generalizing s with
  | nil => exact ⟨_, _, rfl⟩
  | cons i l ih =>
    obtain ⟨a, b, h⟩ := unpickSlot_eq s i
    obtain ⟨a', b', h'⟩ := ih (unpickSlot s i)
    exact ⟨a', b', by rw [List.foldl_cons, h', h]⟩

/-- An update that is cut gives back what its RESTOREs held (R259). -/
theorem unassign_keeps (s : State) (u : VUpd) : carried (unassign s u) = carried s ∧ (TablesOk s → TablesOk (unassign s u)) := by
  refine ⟨foldl_field carried _ (fun s o => ?_) u.ops s, fun h => tablesOk_foldl (fun s o h => ?_) u.ops h⟩
  · split
    · exact carried_unrestoreFn s _ _
    · rfl
  · split
    · exact tablesOk_unrestoreFn h _ _
    · exact h

theorem dropUpds_keeps (s : State) (p : VUpd → Bool) : carried (dropUpds s p) = carried s ∧ (TablesOk s → TablesOk (dropUpds s p)) := by
  obtain ⟨a, b, e⟩ := unpickAll_eq s p
  refine ⟨?_, fun h => tablesOk_foldl (fun s u h => (unassign_keeps s u).2 h) _ ?_⟩
  · refine (foldl_field carried unassign (fun s u => (unassign_keeps s u).1) _ _).trans ?_
    rw [e]
    rfl
  · rw [e]
    exact h

/-- Updates without a RESTORE give back their slots alone. -/
theorem unassign_of_noRestore {u : VUpd} (h : (u.ops.all fun o => match o with | .restore _ _ => false | _ => true) = true) (s : State) :
    unassign s u = s := by
  unfold unassign
  generalize u.ops = l at h
  induction l with
  | nil => rfl
  | cons o l ih =>
    simp only [List.all_cons, Bool.and_eq_true] at h
    rw [List.foldl_cons]
    cases o with
    | restore f r => exact Bool.noConfusion h.1
    | _ => exact ih h.2

theorem dropUpds_of_noRestoral {s : State} (h : noRestoral s = true) (p : VUpd → Bool) : dropUpds s p = unpickAll s p := by
  have hall : ∀ u ∈ s.vault.updates.filter p, ∀ t, unassign t u = t := fun u hu t =>
    unassign_of_noRestore ((List.all_eq_true.mp h) u (List.mem_filter.mp hu).1) t
  unfold dropUpds
  generalize s.vault.updates.filter p = l at hall
  generalize unpickAll s p = x
  induction l with
  | nil => rfl
  | cons u l ih => rw [List.foldl_cons, hall u List.mem_cons_self, ih fun v hv => hall v (List.mem_cons_of_mem u hv)]

/-! ### Folds over functions -/

theorem foldl_modFn_eq (g : FnRec → FnRec) (l : List Nat) (s : State) : ∃ t, l.foldl (fun s f => modFn s f g) s = { s with fns := t } := by
  induction l generalizing s with
  | nil => exact ⟨_, rfl⟩
  | cons f l ih =>
    obtain ⟨t, h⟩ := ih (modFn s f g)
    exact ⟨t, h⟩

theorem getFn_foldl_modFn (g : FnRec → FnRec) {l : List Nat} (hn : l.Nodup) {s : State} (w : fnsCanonFrom 0 s.fns = true) (f : Nat) :
    fnsCanonFrom 0 (l.foldl (fun s f => modFn s f g) s).fns = true ∧
    getFn (l.foldl (fun s f => modFn s f g) s) f = if f ∈ l then g (getFn s f) else getFn s f := by
  induction l generalizing s with
  | nil => exact ⟨w, rfl⟩
  | cons k l ih =>
    rw [List.nodup_cons] at hn
    obtain ⟨hw, hg⟩ := ih hn.2 (fnsCanon_modFn w k g)
    refine ⟨hw, hg.trans ?_⟩
    by_cases hk : f = k
    · subst hk
      rw [if_neg hn.1, if_pos List.mem_cons_self]
      exact getFn_modFn w f g
    · have e : getFn (modFn s k g) f = getFn s f := getFn_setFn_other s k f _ hk
      rw [e]
      simp only [List.mem_cons, hk, false_or]

theorem fns_keys_nodup : ∀ {t : Tbl FnRec} {lo : Nat}, fnsCanonFrom lo t = true → (t.map Prod.fst).Nodup ∧ ∀ k ∈ t.map Prod.fst, lo ≤ k
  | [], _, _ => ⟨List.nodup_nil, fun _ h => absurd h List.not_mem_nil⟩
  | (k, v) :: t, lo, w => by
    simp only [fnsCanonFrom, Bool.and_eq_true, decide_eq_true_eq] at w
    obtain ⟨⟨hlo, -⟩, ht⟩ := w
    obtain ⟨hn, hle⟩ := fns_keys_nodup ht
    refine ⟨List.nodup_cons.mpr ⟨fun h => Nat.not_succ_le_self k (hle k h), hn⟩, fun j hj => ?_⟩
    rcases List.mem_cons.mp hj with rfl | hj
    · exact hlo
    · exact Nat.le_trans hlo (Nat.le_of_succ_le (hle j hj))

theorem tget_of_not_key {α : Type} (d : α) {t : Tbl α} {k : Nat} (h : k ∉ t.map Prod.fst) : tget d t k = d := by
  induction t with
  | nil => rfl
  | cons e t ih =>
    obtain ⟨j, v⟩ := e
    simp only [List.map_cons, List.mem_cons, not_or] at h
    simp only [tget, if_neg (Ne.symm h.1)]
    exact ih h.2

/-! ### Rings, channels and units -/

theorem warmRing_eq (s : State) (n : Nat) : ∃ r, warmRing s n = { s with rings := r } := ⟨_, rfl⟩

theorem getRing_warmRing {s : State} (w : twf ({} : RingRec) s.rings = true) (n m : Nat) :
    twf ({} : RingRec) (warmRing s n).rings = true ∧
    (m = n ∨ (getRing s m).state = .disabled → (getRing (warmRing s n) m).state = .disabled) := by
  have w1 : twf ({} : RingRec) (ringOff s n).rings = true := twf_tput _ _ _ _ w
  refine ⟨twf_tput _ _ _ _ w1, fun h => ?_⟩
  by_cases hm : m = n
  · subst hm
    have e1 := getRing_setRing (ringOff s m) m
      { getRing (ringOff s m) m with open_ := 0, ffOpen := 0, coal := 0, thaw := .disabled } w1
    have e2 := getRing_setRing s m { getRing s m with
      state := .disabled, version := 0, prev := 0, eligible := 0, fetchCnt := 0, complCnt := 0, nextEnt := 0
      waiting := [], fenced := false, dead := false, fetching := false, echoWait := false, skew := false } w
    refine (congrArg RingRec.state e1).trans (congrArg RingRec.state e2)
  · have h := h.resolve_left hm
    have e1 : getRing (warmRing s n) m = getRing (ringOff s n) m := getRing_setRing_other _ n m _ hm
    have e2 : getRing (ringOff s n) m = getRing s m := getRing_setRing_other s n m _ hm
    rw [e1, e2]
    exact h

theorem foldl_warmRing_eq (l : List Nat) (s : State) : ∃ r, l.foldl warmRing s = { s with rings := r } := by
  induction l generalizing s with
  | nil => exact ⟨_, rfl⟩
  | cons n l ih =>
    obtain ⟨r, h⟩ := ih (warmRing s n)
    exact ⟨r, h⟩

theorem foldl_warmRing_disabled {l : List Nat} {s : State} (w : twf ({} : RingRec) s.rings = true) (m : Nat)
    (h : m ∈ l ∨ (getRing s m).state = .disabled) : (getRing (l.foldl warmRing s) m).state = .disabled := by
  induction l generalizing s with
  | nil => exact h.resolve_left List.not_mem_nil
  | cons n l ih =>
    obtain ⟨w', hd⟩ := getRing_warmRing w n m
    refine ih w' ?_
    rw [List.mem_cons, or_assoc] at h
    rcases h with h | h | h
    · exact .inr (hd (.inl h))
    · exact .inl h
    · exact .inr (hd (.inr h))

theorem foldl_modUnit_foldMod (g : UnitRec → UnitRec) (l : List Nat) (s : State) :
    l.foldl (fun s u => modUnit s u g) s = { s with units := foldMod {} g l s.units } := by
  induction l generalizing s with
  | nil => rfl
  | cons u l ih => exact (ih (modUnit s u g)).trans rfl

/-! ### Channels that change their mover -/

/-- Units stand as before but for their clock gates. -/
def GatedOnly (s t : State) : Prop :=
  twf ({} : UnitRec) t.units = true ∧ ∀ u, ∃ b, getUnit t u = { getUnit s u with gated := b }

theorem gatedOnly_refl {s : State} (w : twf ({} : UnitRec) s.units = true) : GatedOnly s s := ⟨w, fun _ => ⟨_, rfl⟩⟩

theorem gatedOnly_modUnit {s t : State} (h : GatedOnly s t) (u : Nat) (b : Bool) : GatedOnly s (modUnit t u fun r => { r with gated := b }) := by
  obtain ⟨w, hu⟩ := h
  refine ⟨twf_tput _ _ _ _ w, fun v => ?_⟩
  obtain ⟨c, e⟩ := hu v
  by_cases hv : v = u
  · subst hv
    refine ⟨b, (getUnit_setUnit t v _ w).trans ?_⟩
    rw [e]
  · exact ⟨c, (getUnit_setUnit_other t u v _ hv).trans e⟩

/-- A mover's channels go elsewhere: nothing but channels and clock gates changes. -/
theorem rehomeChans_keeps (s : State) (m : Nat) :
    (∃ u c, rehomeChans s m = { s with units := u, chans := c }) ∧ ∀ x, GatedOnly x s → GatedOnly x (rehomeChans s m) := by
  unfold rehomeChans
  dsimp only
  generalize (if m % 2 = 0 then m + 1 else m - 1) = o
  generalize (List.range 256).filter _ = l
  induction l generalizing s with
  | nil => exact ⟨⟨_, _, rfl⟩, fun _ h => h⟩
  | cons c l ih =>
    rw [List.foldl_cons]
    cases (if movOpen s o = true then some o else leastBy (chansOfMover s) ((movChoice s).filter (· ≠ m))) with
    | none => exact ih s
    | some k =>
      obtain ⟨⟨u, ch, e⟩, hg⟩ := ih (modChan (modUnit s (unitAt .mov k) fun u => { u with gated := false }) c fun r =>
        { r with moved := if k = c / 32 then none else some k })
      exact ⟨⟨u, ch, e⟩, fun x h => hg x (gatedOnly_modUnit h _ false)⟩

theorem rehomeIdle_keeps (s : State) :
    (∃ u c, rehomeIdle s = { s with units := u, chans := c }) ∧ ∀ x, GatedOnly x s → GatedOnly x (rehomeIdle s) := by
  unfold rehomeIdle
  generalize (List.range 8).filter _ = l
  induction l generalizing s with
  | nil => exact ⟨⟨_, _, rfl⟩, fun _ h => h⟩
  | cons m l ih =>
    obtain ⟨⟨u, c, e⟩, hg⟩ := rehomeChans_keeps s m
    obtain ⟨⟨u', c', e'⟩, hg'⟩ := ih (rehomeChans s m)
    refine ⟨⟨u', c', ?_⟩, fun x h => hg' x (hg x h)⟩
    rw [List.foldl_cons, e', e]

/-! ### The end of work -/

theorem withdraw_eq (s : State) (p : IrqMsg → Bool) : ∃ q, withdraw s p = { s with irq := q } := by
  unfold withdraw
  split <;> exact ⟨_, rfl⟩

/-- Interrupts are withdrawn: beside the queue, the functions' held bits go. -/
theorem withdrawAll_eq (s : State) : ∃ q t, withdrawAll s = { s with irq := q, fns := t } := by
  obtain ⟨q, h⟩ := withdraw_eq s fun _ => true
  unfold withdrawAll
  rw [h]
  obtain ⟨t, ht⟩ := foldl_modFn_eq (fun r => { r with held := 0 }) ({ s with irq := q }.fns.map Prod.fst) { s with irq := q }
  exact ⟨q, t, ht⟩

theorem getFn_withdrawAll {s : State} (w : fnsCanonFrom 0 s.fns = true) (f : Nat) :
    fnsCanonFrom 0 (withdrawAll s).fns = true ∧ ∃ h, getFn (withdrawAll s) f = { getFn s f with held := h } := by
  obtain ⟨q, e⟩ := withdraw_eq s fun _ => true
  unfold withdrawAll
  rw [e]
  obtain ⟨hw, hg⟩ := getFn_foldl_modFn (fun r => { r with held := 0 }) (s := { s with irq := q }) (fns_keys_nodup w).1 w f
  refine ⟨hw, ?_⟩
  rw [hg]
  split
  · exact ⟨0, rfl⟩
  · exact ⟨(getFn s f).held, rfl⟩

/-- Work ends at a warm reset: answers are cut, updates that have not begun are dropped, interrupts are withdrawn (R302). -/
def ended (s : State) : State :=
  withdrawAll (disown (dropUpds (noteUnnamed { s with txns := s.txns.map fun t => match t.own with | .vupd | .vupdR _ => t | _ => { t with cut := true } })
    fun u => !u.begun) fun o => match o with | .vupd | .vupdR _ => false | _ => true)

theorem ended_keeps {s : State} (h : TablesOk s) : carried (ended s) = carried s ∧ TablesOk (ended s) := by
  unfold ended
  generalize hx : noteUnnamed { s with txns := s.txns.map fun t => match t.own with | .vupd | .vupdR _ => t | _ => { t with cut := true } } = x
  have hc : carried x = carried s := by rw [← hx]; rfl
  have ht : TablesOk x := by rw [← hx]; exact h
  obtain ⟨hd, hk⟩ := dropUpds_keeps x fun u => !u.begun
  have hk := hk ht
  generalize dropUpds x _ = y at hd hk ⊢
  generalize hz : disown y _ = z
  have hcz : carried z = carried s := by rw [← hz]; exact hd.trans hc
  have htz : TablesOk z := by rw [← hz]; exact hk
  obtain ⟨q, t, e⟩ := withdrawAll_eq z
  have hf := (getFn_withdrawAll htz.2.2 0).1
  rw [e] at hf ⊢
  exact ⟨hcz, htz.1, htz.2.1, hf⟩

/-- Without a RESTORE among the updates, slots, values and functions are left as they were. -/
theorem ended_of_noRestoral {s : State} (h : TablesOk s) (hn : noRestoral s = true) :
    (ended s).vault.slots = s.vault.slots ∧ (ended s).cfg = s.cfg ∧ ∀ f, ∃ b, getFn (ended s) f = { getFn s f with held := b } := by
  unfold ended
  generalize hx : noteUnnamed { s with txns := s.txns.map fun t => match t.own with | .vupd | .vupdR _ => t | _ => { t with cut := true } } = x
  have h1 : x.vault.slots = s.vault.slots ∧ x.cfg = s.cfg ∧ x.fns = s.fns ∧ noRestoral x = true := by
    rw [← hx]
    exact ⟨rfl, rfl, rfl, hn⟩
  obtain ⟨hs, hc, hf, hr⟩ := h1
  obtain ⟨a, b, e⟩ := unpickAll_eq x fun u => !u.begun
  rw [dropUpds_of_noRestoral hr, e]
  generalize hz : disown { x with vault := { x.vault with unused := a, freeList := b } } _ = z
  have h2 : z.vault.slots = s.vault.slots ∧ z.cfg = s.cfg ∧ z.fns = s.fns := by
    rw [← hz]
    exact ⟨hs, hc, hf⟩
  obtain ⟨hs, hc, hf⟩ := h2
  have wz : fnsCanonFrom 0 z.fns = true := by
    rw [hf]
    exact h.2.2
  obtain ⟨q, t, e2⟩ := withdrawAll_eq z
  refine ⟨by rw [e2]; exact hs, by rw [e2]; exact hc, fun f => ?_⟩
  obtain ⟨b, e3⟩ := (getFn_withdrawAll wz f).2
  exact ⟨b, by rw [e3, Service.getFn_congr hf]⟩

/-! ### The state of the core domains -/

/-- Units, functions, rings and channels over a warm reset. -/
def restored (w : State) : State :=
  let a := allUnits.foldl (fun s u => modUnit s u warmUnit) w
  let b := (a.fns.map Prod.fst).foldl (fun s f => modFn s f warmFn) a
  let c := (b.rings.map Prod.fst).foldl warmRing b
  (c.chans.map Prod.fst).foldl warmChan c

theorem warmReset_eq (s : State) : warmReset s = alarmOver (holdWarm (rehomeIdle (restored (warmCore (ended s))))) := rfl

theorem foldl_warmChan_eq (l : List Nat) (s : State) : ∃ c, l.foldl warmChan s = { s with chans := c } := by
  induction l generalizing s with
  | nil => exact ⟨_, rfl⟩
  | cons n l ih =>
    obtain ⟨c, h⟩ := ih (warmChan s n)
    exact ⟨c, h⟩

/-- A function's record over a warm reset keeps its migration, and its state as R303 says. -/
theorem warmFn_of_default (f : Nat) : (warmFn (fnDflt f)).mig = (fnDflt f).mig ∧ (warmFn (fnDflt f)).state = (fnDflt f).state := by
  unfold fnDflt
  split <;> exact ⟨rfl, rfl⟩

theorem restored_eq {w : State} (h : TablesOk w) : ∃ f r c,
    restored w = { w with units := foldMod {} warmUnit allUnits w.units, fns := f, rings := r, chans := c } ∧
    (∀ n, (getRing (restored w) n).state = .disabled) ∧
    ∀ k, (getFn (restored w) k).mig = (warmFn (getFn w k)).mig ∧ (getFn (restored w) k).state = (warmFn (getFn w k)).state := by
  obtain ⟨hr, -, hf⟩ := h
  unfold restored
  dsimp only
  rw [foldl_modUnit_foldMod]
  generalize hu : ({ w with units := foldMod {} warmUnit allUnits w.units } : State) = a
  have haf : a.fns = w.fns := by rw [← hu]
  have har : a.rings = w.rings := by rw [← hu]
  obtain ⟨f, e1⟩ := foldl_modFn_eq warmFn (a.fns.map Prod.fst) a
  have hfn : ∀ k, (getFn ((a.fns.map Prod.fst).foldl (fun s f => modFn s f warmFn) a) k).mig = (warmFn (getFn w k)).mig ∧
      (getFn ((a.fns.map Prod.fst).foldl (fun s f => modFn s f warmFn) a) k).state = (warmFn (getFn w k)).state := by
    intro k
    have wa : fnsCanonFrom 0 a.fns = true := by rw [haf]; exact hf
    rw [(getFn_foldl_modFn warmFn (fns_keys_nodup wa).1 wa k).2, Service.getFn_congr haf]
    split
    · exact ⟨rfl, rfl⟩
    · next hk =>
      have hd : getFn w k = fnDflt k := tget_of_not_key _ (by rw [← haf]; exact hk)
      rw [hd]
      exact ⟨(warmFn_of_default k).1.symm, (warmFn_of_default k).2.symm⟩
  rw [e1] at hfn ⊢
  generalize hb : ({ a with fns := f } : State) = b at hfn ⊢
  have hbr : b.rings = w.rings := by rw [← hb]; exact har
  have hring : ∀ n, (getRing ((b.rings.map Prod.fst).foldl warmRing b) n).state = .disabled := by
    intro n
    refine foldl_warmRing_disabled (by rw [hbr]; exact hr) n ?_
    by_cases hk : n ∈ b.rings.map Prod.fst
    · exact .inl hk
    · exact .inr (congrArg RingRec.state (tget_of_not_key ({} : RingRec) hk))
  obtain ⟨r, e2⟩ := foldl_warmRing_eq (b.rings.map Prod.fst) b
  rw [e2] at hring ⊢
  generalize hc : ({ b with rings := r } : State) = c at hring ⊢
  obtain ⟨ch, e3⟩ := foldl_warmChan_eq (c.chans.map Prod.fst) c
  rw [e3]
  refine ⟨f, r, ch, ?_, hring, ?_⟩
  · rw [← hc, ← hb, ← hu]
  · rw [← hc]
    exact hfn

/-! ### The obligation -/

theorem alarmOver_eq (s : State) : ∃ a, alarmOver s = { s with alarms := a } := by
  unfold alarmOver
  split <;> exact ⟨_, rfl⟩

theorem blkAssert_takes {s : State} (hp : s.pins.poRstLow = false) (hb : s.pins.blkRstLow = false) :
    blkAssert s = { warmReset s with pins := { (warmReset s).pins with blkRstLow := true } } := by
  simp only [blkAssert, hp, hb, Bool.false_eq_true, if_false]

/-- The block while BLK_RST_N is low: the pins follow, and what a warm reset holds stays held. -/
theorem settle_blkLow {s : State} (hp : s.pins.poRstLow = false) (hb : s.pins.blkRstLow = true) (hs : s.safe = false) :
    settle s = holdWarm (drivePins s) := by
  unfold settle
  rw [if_neg (by rw [hp]; exact Bool.false_ne_true)]
  dsimp only
  rw [if_pos (show (drivePins s).pins.blkRstLow = true from hb)]
  exact if_neg (by rw [show (holdWarm (drivePins s)).safe = s.safe from rfl, hs]; exact Bool.false_ne_true)

/-- Settles O8. -/
theorem warmResetTakesHold : Obligations.WarmResetTakesHold := by
  unfold Obligations.WarmResetTakesHold
  intro s hcan hp hb
  obtain ⟨wu, wr, wc, wf, -⟩ := canon_tables hcan
  have hok : TablesOk s := ⟨wr, wc, wf⟩
  obtain ⟨hcar, hokx⟩ := ended_keeps hok
  have hfree := ended_of_noRestoral hok
  have hw := warmReset_eq s
  generalize ended s = x at hcar hokx hfree hw
  obtain ⟨hcu, hst, hlr, hlc, hinc, hwb, hnv, hpin⟩ : x.units = s.units ∧ x.sticky = s.sticky ∧ x.ledgerR = s.ledgerR ∧
      x.ledgerC = s.ledgerC ∧ x.vault.inc = s.vault.inc ∧ x.vault.writeBack = s.vault.writeBack ∧ x.nv.recs = s.nv.recs ∧ x.pins = s.pins := by
    simpa only [carried, Prod.mk.injEq] using hcar
  have hokw : TablesOk (warmCore x) := hokx
  obtain ⟨f, r, c, ey, hring, hfn⟩ := restored_eq hokw
  generalize restored (warmCore x) = y at ey hring hfn hw
  obtain ⟨ys, yr, yc, yf, yb, yst, ylr, ylc, yv, yn, ycfg, yp⟩ : y.safe = false ∧ y.raised = [] ∧ y.cnt = {} ∧ y.fstat = [] ∧
      y.bring = {} ∧ y.sticky = x.sticky ∧ y.ledgerR = x.ledgerR ∧ y.ledgerC = x.ledgerC ∧ y.vault = (warmCore x).vault ∧
      y.nv.recs = x.nv.recs ∧ y.cfg = x.cfg.filter (fun e => !warmDrops e.1) ∧ y.pins = (warmCore x).pins := by
    rw [ey]
    exact ⟨rfl, rfl, rfl, rfl, rfl, rfl, rfl, rfl, rfl, rfl, rfl, rfl⟩
  have yu : y.units = foldMod {} warmUnit allUnits (warmCore x).units := by rw [ey]
  rw [show (warmCore x).units = x.units from rfl] at yu
  have wx : twf ({} : UnitRec) x.units = true := by
    rw [hcu]
    exact wu
  have wy : twf ({} : UnitRec) y.units = true := by
    rw [yu]
    exact twf_foldMod warmUnit allUnits wx
  obtain ⟨⟨u, c', e1⟩, hgate⟩ := rehomeIdle_keeps y
  have hgate := hgate y (gatedOnly_refl wy)
  rw [e1] at hw hgate
  obtain ⟨a, e2⟩ := alarmOver_eq (holdWarm { y with units := u, chans := c' })
  rw [e2] at hw
  have hx := blkAssert_takes hp hb
  rw [hw] at hx
  generalize hz : ({ { holdWarm { y with units := u, chans := c' } with alarms := a } with
    pins := { ({ holdWarm { y with units := u, chans := c' } with alarms := a } : State).pins with blkRstLow := true } } : State) = z at hx
  have hlow : z.pins.poRstLow = false ∧ z.pins.blkRstLow = true ∧ z.safe = false ∧ z.raised = [] := by
    rw [← hz]
    refine ⟨?_, rfl, ys, yr⟩
    show y.pins.poRstLow = false
    rw [yp]
    show x.pins.poRstLow = false
    rw [hpin, hp]
  obtain ⟨z1, z2, z3, z4⟩ := hlow
  refine ⟨holdWarm (drivePins z), ?_, ?_⟩
  · exact (congrArg fin hx).trans ((fin_of_quiet z z4).trans (congrArg _ (settle_blkLow z1 z2 z3)))
  · have hkept : ∀ k, noRestoral s = true → (getFn y k).mig = (getFn s k).mig ∧ (getFn y k).state = (warmFn (getFn s k)).state := by
      intro k hn
      obtain ⟨-, -, hg⟩ := hfree hn
      obtain ⟨b, e⟩ := hg k
      obtain ⟨h1, h2⟩ := hfn k
      have e' : getFn (warmCore x) k = { getFn s k with held := b } := e
      rw [e'] at h1 h2
      exact ⟨h1, h2⟩
    have hslots : noRestoral s = true → y.vault.slots = s.vault.slots ∧ y.cfg = s.cfg.filter fun e => !warmDrops e.1 := by
      intro hn
      obtain ⟨h1, h2, -⟩ := hfree hn
      refine ⟨?_, by rw [ycfg, h2]⟩
      rw [yv]
      exact h1
    have hunits : ∀ v < unitCount, (getUnit { y with units := u, chans := c' } v).jubilee = (getUnit s v).jubilee ∧
        (getUnit { y with units := u, chans := c' } v).state = (warmUnit (getUnit s v)).state := by
      intro v hv
      obtain ⟨b, e⟩ := hgate.2 v
      have e' : getUnit y v = warmUnit (getUnit s v) := by
        have h1 := tget_foldMod warmUnit (List.nodup_range (n := unitCount)) (List.mem_range.mpr hv) wx
        unfold getUnit
        rw [yu, ← hcu]
        exact h1
      rw [e, e']
      exact ⟨rfl, rfl⟩
    rw [← hz]
    have hbursts : ∀ b ∈ (y.bursts.filter Burst.isUpd).filter Burst.isUpd, b.isUpd = true := fun b hb => (List.mem_filter.mp hb).2
    refine ⟨rfl, rfl, rfl, rfl, rfl, rfl, rfl, rfl, hbursts, ys, ys, ys, yc, yf, yb, yst.trans hst, ylr.trans hlr, ylc.trans hlc, ?_, ?_, yn.trans hnv,
      hslots, hunits, hring, hkept⟩
    · show y.vault.inc = s.vault.inc
      rw [yv]
      exact hinc
    · show y.vault.writeBack = s.vault.writeBack
      rw [yv]
      exact hwb

end Sys2Proof.Warm
end

section
/-!
SUPPORT. The two step lemmas on tables and severities do not hold in every state: an alarm can leave a function's record at its default in
the table, and a RESTORE that is cut puts back whatever values it holds.
-/

namespace Sys2Proof.Canonical

open Sys2Proof Sys2Proof.Machine Sys2Proof.Safety

/-- All that the record of function 1 shows is that the walker has it at hand; an alarm trips. -/
def atHandOnly : State :=
  { Tests.work with fns := [(1, { atHand := true })], pending := [.alarmTrip .clock .sensor] }

/-- Refutes O59: the alarm takes the record from the walker's hands (step 3 of R109), and what is left of it is the default, which stays
listed. No command brings that record about, but the statement speaks of every canonical state. -/
theorem not_tablesStayCanonical : ¬ Obligations.TablesStayCanonical := by
  unfold Obligations.TablesStayCanonical
  rintro ⟨-, h⟩
  obtain ⟨t, ht⟩ : ∃ t, step atHandOnly = .next t := ⟨_, rfl⟩
  have hc := h atHandOnly t (by decide +kernel) ht
  have hne : canon (match step atHandOnly with | .next t => t | _ => atHandOnly) = false := by decide +kernel
  rw [ht, hc] at hne
  exact Bool.noConfusion hne

/-- A RESTORE waits that holds severity 0 for source 513, which is locked to SAFE, and the core supply is lost. -/
def unlocking : State :=
  { Tests.work with
    vault := { Tests.work.vault with updates := [{ ops := [.restore 1 {
      key := [], res := 0, held := 0, ses := ⟨[], [], [], [], []⟩, was := ⟨[], [], [], [], []⟩, cfg := [(256 * 0x3102 + 1, 0)], slots := [] }] }] }
    pending := [.coreSupplyLost] }

theorem locked_unlocking : Locked unlocking := by
  refine ⟨fun x h => ?_, by decide +kernel⟩
  have hx : x < 521 := by
    simp [sevLocked] at h
    omega
  exact (by decide +kernel : ∀ x < 521, sevLocked x = true → severity unlocking x = 3) x hx h

/-- Refutes O60: the safe state cuts the RESTORE, and the severity that it held is put back (R259, R316). No command queues such an update,
but the statement speaks of every state. -/
theorem not_lockedSeveritiesStaySafe : ¬ Obligations.LockedSeveritiesStaySafe := by
  unfold Obligations.LockedSeveritiesStaySafe
  rintro ⟨-, h⟩
  obtain ⟨t, ht⟩ : ∃ t, step unlocking = .next t := ⟨_, rfl⟩
  obtain ⟨hsev, -⟩ := h unlocking t locked_unlocking ht
  have h3 := hsev 513 (by decide)
  have hne : severity (match step unlocking with | .next t => t | _ => unlocking) 513 ≠ 3 := by decide +kernel
  rw [ht] at hne
  exact hne h3

end Sys2Proof.Canonical
end

section
/-!
SUPPORT. The paths of the Almanac's requests: mailboxes, MCTP packets and control messages.
-/

namespace Sys2Proof.Paths

open Sys2Proof Sys2Proof.Machine Sys2Proof.Safety Sys2Proof.Bring Sys2Proof.Neighbours

section
variable {s : State}

/-- Bit 0 of MB_STATUS is BUSY, once the Almanac answers. -/
theorem mbStatus_busy (hup : s.bring.almanacUp = true) (f : Nat) : (mbStatus s f).testBit 0 = (getMail s f).busy := by
  have e : mbStatus s f = 2 * (ofBool (getMail s f).done + 2 * ofBool (getMail s f).ovr + 32768 * ((getMail s f).resp.length % 2048)) +
      ofBool (getMail s f).busy := by
    simp only [mbStatus, hup, Bool.not_true, Bool.or_false]
    omega
  rw [e, Nat.testBit_zero]
  cases (getMail s f).busy <;> simp [ofBool]

/-- A word without its GO bit asks nothing. -/
theorem mbReq_idle {w : U32} (h : w.getLsbD 31 = false) (f : Nat) (b : Bytes) : mbReq f w b s = s := by
  simp only [mbReq, h, Bool.not_false, Bool.or_true, ↓reduceIte]

variable {f : Nat} {w : U32} (hw : atWork s = true) (hup : s.bring.almanacUp = true) (hf : f ≤ 1024) (ha : (getFn s f).state ≠ .absent)
  (hgo : w.getLsbD 31 = true) (b : Bytes)

include hw hup hf ha hgo in
/-- A mailbox takes a request of a legal length while it is free. -/
theorem mbReq_taken (hb : (getMail s f).busy = false) (hlo : 16 ≤ w.toNat % 2048) (hhi : w.toNat % 2048 ≤ 1040) :
    mbReq f w b s = arrive (setMail s f { getMail s f with
      busy := true, done := false, ovr := false, req := some (parseMsg (mailPrin f) (fit (w.toNat % 2048) b)) }) (mailPrin f) := by
  have hlen : ¬(w.toNat % 2048 < 16 ∨ 1040 < w.toNat % 2048) := by omega
  simp [mbReq, coreUp_of_work hw, mbStatus_busy hup, hb, ha, hgo, Nat.not_lt.mpr hf, hlen]

include hw hup hf ha hgo in
/-- It reports an overrun otherwise. -/
theorem mbReq_overrun (h : (getMail s f).busy = true ∨ w.toNat % 2048 < 16 ∨ 1040 < w.toNat % 2048) :
    mbReq f w b s = setMail s f { getMail s f with ovr := true } := by
  have hbad : ((mbStatus s f).testBit 0 || decide (w.toNat % 2048 < 16 ∨ 1040 < w.toNat % 2048)) = true := by
    rw [mbStatus_busy hup]
    simpa using h
  have hhere : (!coreUp s || decide (1024 < f ∨ (getFn s f).state = .absent) || !w.getLsbD 31) = false := by
    simp [coreUp_of_work hw, ha, hgo, hf]
  unfold mbReq
  simp only [hhere, hbad, Bool.false_eq_true, ↓reduceIte]

end

/-! ### MCTP packets -/

section
variable {s : State} {p : Bytes} (hw : atWork s = true) (hup : s.bring.almanacUp = true)

include hw hup in
theorem mctpPacket_malformed (h : p.length < 5 ∨ 68 < p.length ∨ fld p 0 1 ≠ 1) : mctpPacket p s = raiseSrc s 519 := by
  simp only [mctpPacket, coreUp_of_work hw, hup, Bool.not_true, Bool.or_self, Bool.false_eq_true, ↓reduceIte, h, decide_true, badPacket]

variable (hlo : 5 ≤ p.length) (hhi : p.length ≤ 68) (hver : fld p 0 1 = 1)

include hw hup hlo hhi hver in
/-- A packet within a message that none has begun is discarded. -/
theorem mctpPacket_breaks (hsom : (fld p 3 1).testBit 7 = false) (hnone : findReasm s (fld p 2 1) (fld p 3 1 % 16) = none) :
    mctpPacket p s = raiseSrc (dropReasm s (fld p 2 1) (fld p 3 1 % 16)) 519 := by
  have hok : ¬(p.length < 5 ∨ 68 < p.length ∨ fld p 0 1 ≠ 1) := by omega
  simp only [mctpPacket, coreUp_of_work hw, hup, Bool.not_true, Bool.or_self, Bool.false_eq_true, ↓reduceIte, hok, decide_false, hsom, hnone,
    badPacket]

include hw hup hlo hhi hver in
/-- The first packet of a message goes on by the flags of its end and its owner. -/
theorem mctpPacket_first (hsom : (fld p 3 1).testBit 7 = true) :
    mctpPacket p s =
      let x := dropReasm s (fld p 2 1) (fld p 3 1 % 16)
      if (fld p 3 1).testBit 6 then
        (if (fld p 3 1).testBit 3 then oobMessage x (fld p 2 1) (fld p 3 1 % 16 % 8) (p.drop 4) else x)
      else { x with mgmt := { x.mgmt with
        reasm := x.mgmt.reasm ++ [{ eid := fld p 2 1, tag := fld p 3 1 % 16, seq := fld p 3 1 / 16 % 4, body := p.drop 4 }] } } := by
  have hok : ¬(p.length < 5 ∨ 68 < p.length ∨ fld p 0 1 ≠ 1) := by omega
  have hlen : ¬1045 < (p.drop 4).length := by rw [List.length_drop]; omega
  simp only [mctpPacket, coreUp_of_work hw, hup, Bool.not_true, Bool.or_self, Bool.false_eq_true, ↓reduceIte, hok, decide_false, hsom, hlen]

end

/-- A vendor's message joins the open exchanges while fewer than four are open. -/
theorem oobMessage_opens {s : State} {body : Bytes} (eid tag : Nat) (hv : body.take 5 = vendorHead) (hroom : s.mgmt.oob.length < 4) :
    oobMessage s eid tag body =
      arrive { s with mgmt := { s.mgmt with oob := s.mgmt.oob ++ [{ eid := eid, tag := tag, msg := parseMsg .oob (body.drop 5) }] } } .oob := by
  simp only [oobMessage, hv, ne_eq, not_true_eq_false, ↓reduceIte, hroom]

/-! ### Control messages -/

section
variable {s : State} {m : CtrlMsg}

theorem ctrlUp_of_work (hw : atWork s = true) (hup : s.bring.almanacUp = true) (t : State) : ctrlUp s t = t := by
  simp [ctrlUp, coreUp_of_work hw, hup]

/-- A control answer, from a state that stands as the block's, ends its command. -/
theorem fin_ctrlAnswer {t : State} (hw : atWork s = true) (hp : t.pins = s.pins) (hs : t.safe = s.safe) (hr : t.raised = s.raised)
    (cmd cc : Nat) (d : Bytes) : fin (ctrlAnswer t m cmd cc d) = .next (ctrlAnswer t m cmd cc d) := fin_of_work hw hp hs hr

end

/-- Settles O55, path by path: what each request finds on arrival. -/
theorem mailboxesAndPacketsBringRequests : Obligations.MailboxesAndPacketsBringRequests := by
  intro s hw hup
  refine ⟨fun f w b hf ha => ?_, fun p h => ?_, fun p hlo hhi hver => ?_, fun m => ?_⟩
  · refine ⟨fun h => ?_, fun hgo hb hl hh => ?_, fun hgo h => ?_⟩
    · exact (congrArg fin (mbReq_idle h f b)).trans (fin_of_work hw rfl rfl rfl)
    · exact (congrArg fin (mbReq_taken hw hup hf ha hgo b hb hl hh)).trans (fin_of_work hw rfl rfl rfl)
    · exact (congrArg fin (mbReq_overrun hw hup hf ha hgo b h)).trans (fin_of_work hw rfl rfl rfl)
  · exact congrArg fin (mctpPacket_malformed hw hup h)
  · refine ⟨fun hsom heom => ?_, fun hsom heom hto hv hroom => ?_, fun hsom hnone => ?_⟩
    · have e := mctpPacket_first hw hup hlo hhi hver hsom
      simp only [heom, Bool.false_eq_true, ↓reduceIte] at e
      exact (congrArg fin e).trans (fin_of_work hw rfl rfl rfl)
    · have e := mctpPacket_first hw hup hlo hhi hver hsom
      have ho : oobMessage (dropReasm s (fld p 2 1) (fld p 3 1 % 16)) (fld p 2 1) (fld p 3 1 % 16 % 8) (p.drop 4) = _ :=
        oobMessage_opens _ _ hv hroom
      simp only [heom, hto, ↓reduceIte, ho, List.drop_drop] at e
      exact (congrArg fin e).trans (fin_of_work hw rfl rfl rfl)
    · exact congrArg fin (mctpPacket_breaks hw hup hlo hhi hver hsom hnone)
  · have up := ctrlUp_of_work hw hup
    refine ⟨fun hl hop hlo hhi => ?_, fun hl => ?_, ?_, fun hl ht => ?_, ?_, fun hl ht => ?_, fun cmd => ?_⟩
    · have e : setEndpointId m s = _ := up _
      simp only [hl, ne_eq, not_true_eq_false, hop, hlo, hhi, and_self, ↓reduceIte] at e
      exact (congrArg fin e).trans (fin_ctrlAnswer (t := { s with mgmt := { s.mgmt with eid := fld m.data 2 1 } }) hw rfl rfl rfl _ _ _)
    · have e : setEndpointId m s = _ := up _
      simp only [hl, ne_eq, not_false_eq_true, ↓reduceIte] at e
      exact (congrArg fin e).trans (fin_ctrlAnswer (t := s) hw rfl rfl rfl _ _ _)
    · exact (congrArg fin (up _)).trans (fin_ctrlAnswer hw rfl rfl rfl _ _ _)
    · have e : getVersionSupport m s = _ := up _
      simp only [hl, ne_eq, not_true_eq_false, ht.symm, ↓reduceIte] at e
      exact (congrArg fin e).trans (fin_ctrlAnswer (t := useFree s 4) hw rfl rfl rfl _ _ _)
    · exact (congrArg fin (up _)).trans (fin_ctrlAnswer hw rfl rfl rfl _ _ _)
    · have e : getVendorSupport m s = _ := up _
      simp only [hl, ne_eq, not_true_eq_false, ht, ↓reduceIte] at e
      exact (congrArg fin e).trans (fin_ctrlAnswer (t := useFree s 2) hw rfl rfl rfl _ _ _)
    · exact (congrArg fin (up _)).trans (fin_ctrlAnswer hw rfl rfl rfl _ _ _)

end Sys2Proof.Paths
end

section
/-!
SUPPORT. The test access port: its instructions and the scans of its registers.
-/

namespace Sys2Proof.TestAccess

open Sys2Proof Sys2Proof.Machine Sys2Proof.Safety Sys2Proof.Bring Sys2Proof.Neighbours

/-! ### DEBUG_READ -/

/-- The number that bytes begin with: its low half is that of the first four of them. -/
theorem ofLe_append_four (a b : Bytes) (h : a.length = 4) : ofLe (a ++ b) % 2 ^ 32 = ofLe a % 2 ^ 32 := by
  match a, h with
  | [p, q, r, t], _ =>
    simp only [List.cons_append, List.nil_append, ofLe]
    omega

/-- A DEBUG_READ captures the word in its low half. -/
theorem capture_low (a b : Bytes) (h : a.length = 4) : (BitVec.ofNat 64 (ofLe (a ++ b))).toNat % 2 ^ 32 = ofLe a % 2 ^ 32 := by
  rw [BitVec.toNat_ofNat, Nat.mod_mod_of_dvd _ (by decide), ofLe_append_four a b h]

section
variable {s : State} (sel : BitVec 64)

/-- While internal debug is not enabled the word is zero (R400). -/
theorem debugReadScan_shut (h : debugEnabled s % 2 = 0) : ∃ n d, debugReadScan sel s =
    { s with free := n, tap := { s.tap with ir := .debugRead, irOut := 1, tdo := none, sel := sel, dr := d } } ∧ d.toNat % 2 ^ 32 = 0 := by
  refine ⟨_, _, rfl, ?_⟩
  simp only [h, Nat.zero_ne_one, ↓reduceIte]
  rw [capture_low _ _ (by decide)]
  decide

/-- With it the word is the one that the selector in force names, where the model holds it. -/
theorem debugReadScan_open (h : debugEnabled s % 2 = 1) : ∃ n d, debugReadScan sel s =
    { s with free := n, tap := { s.tap with ir := .debugRead, irOut := 1, tdo := none, sel := sel, dr := d } } ∧
    ∀ w, seqWord s s.tap.sel = some w → d.toNat % 2 ^ 32 = w % 2 ^ 32 := by
  refine ⟨_, _, rfl, fun w hw => ?_⟩
  simp only [h, ↓reduceIte, hw]
  rw [capture_low _ _ (by simp), RequestRings.ofLe_le, Nat.mod_mod_of_dvd _ (by decide)]

end

/-! ### WRAPPER -/

section
variable {s : State} (b : Bool)

theorem wrapperSelect_shut (h : debugEnabled s < 2) : wrapperSelect b s =
    { s with free := s.free + 1, tap := { s.tap with ir := .wrapper, irOut := 1, tdo := none, wrapper := false, wso := false } } := by
  have hd : decide (2 ≤ debugEnabled (tapSelect s .wrapper)) = false := decide_eq_false (Nat.not_le.mpr h)
  unfold wrapperSelect
  simp only [hd, Bool.false_and, Bool.false_eq_true, ↓reduceIte]
  rfl

/-- The wrapper is open, and its output a bit of the test that runs. -/
def wrapperOpen (s : State) : State :=
  { s with free := s.free + 1, tap := { s.tap with ir := .wrapper, irOut := 1, tdo := none, wrapper := true
                                                   wso := decide (ofLe (freeBytes s 1) % 2 = 1) } }

theorem wrapperSelect_open (h : 2 ≤ debugEnabled s) :
    wrapperSelect b s = if b && !s.tap.factory then factoryTest (wrapperOpen s) else wrapperOpen s := by
  have hd : decide (2 ≤ debugEnabled (tapSelect s .wrapper)) = true := decide_eq_true h
  unfold wrapperSelect
  simp only [hd, Bool.true_and]
  rfl

end

/-! ### The ALMANAC register -/

section
variable {s : State}

/-- A request that is not complete yet waits for its further words. -/
theorem dbgComplete_short (h : s.mgmt.dbgIn.length < 16 ∨ s.mgmt.dbgIn.length < dbgLength s.mgmt.dbgIn) : dbgComplete s = s := by
  have hd : decide (16 ≤ s.mgmt.dbgIn.length ∧ dbgLength s.mgmt.dbgIn ≤ s.mgmt.dbgIn.length) = false := decide_eq_false (by omega)
  simp only [dbgComplete, hd, Bool.and_false, Bool.false_eq_true, ↓reduceIte]

theorem dbgComplete_whole (hl : 16 ≤ s.mgmt.dbgIn.length) (hn : dbgLength s.mgmt.dbgIn ≤ s.mgmt.dbgIn.length) (hd : s.mgmt.dbg = none) :
    dbgComplete s = arrive { s with mgmt := { s.mgmt with
      dbgIn := [], dbg := some (parseMsg .dbg (s.mgmt.dbgIn.take (dbgLength s.mgmt.dbgIn))) } } .dbg := by
  simp only [dbgComplete, hd, Option.isNone_none, Bool.true_and, hl, hn, and_self, decide_true, ↓reduceIte]

variable (word : BitVec 33) (hw : atWork s = true) (hup : s.bring.almanacUp = true)

/-- One scan of the register: what it captures, and then the word that it takes. -/
def scanned (s : State) : State := dbgCapture (tapSelect s .almanac)

include hw hup in
theorem almanacScan_reads (h : word.getLsbD 32 = false) : almanacScan word s = dbgComplete (scanned s) := by
  have hc : coreUp (tapSelect s .almanac) = true := coreUp_of_work hw
  have hu : (tapSelect s .almanac).bring.almanacUp = true := hup
  simp only [almanacScan, hc, hu, Bool.not_true, Bool.or_self, Bool.false_eq_true, ↓reduceIte, h, scanned]

include hw hup in
theorem almanacScan_writes (h : word.getLsbD 32 = true) :
    almanacScan word s = dbgComplete (dbgWord (scanned s) (word.toNat % 2 ^ 32)) := by
  have hc : coreUp (tapSelect s .almanac) = true := coreUp_of_work hw
  have hu : (tapSelect s .almanac).bring.almanacUp = true := hup
  simp only [almanacScan, hc, hu, Bool.not_true, Bool.or_self, Bool.false_eq_true, ↓reduceIte, h, scanned]

/-- What a scan captures stands as the statement has it. -/
theorem scanned_eq : scanned s = { s with
    tap := { s.tap with ir := .almanac, irOut := 1, tdo := none
                        dr := if s.mgmt.dbgOut = [] then 0 else BitVec.ofNat 64 (2 ^ 32 + fld (fit 4 s.mgmt.dbgOut) 0 4) }
    mgmt := { s.mgmt with dbgOut := s.mgmt.dbgOut.drop 4 } } := by
  unfold scanned dbgCapture
  cases hb : s.mgmt.dbgOut <;> simp [tapSelect, hb]

theorem dbgWord_scanned (w : Nat) : dbgWord (scanned s) w = { s with
    tap := { s.tap with ir := .almanac, irOut := 1, tdo := none
                        dr := if s.mgmt.dbgOut = [] then 0 else BitVec.ofNat 64 (2 ^ 32 + fld (fit 4 s.mgmt.dbgOut) 0 4) }
    mgmt := { s.mgmt with dbgIn := s.mgmt.dbgIn ++ le 4 w, dbgOut := if s.mgmt.dbgIn = [] then [] else s.mgmt.dbgOut.drop 4 } } := by
  rw [scanned_eq]
  cases hb : s.mgmt.dbgIn <;> simp [dbgWord, hb]

end

/-- Settles O58, instruction by instruction. -/
theorem tapInstructionsAndScans : Obligations.TapInstructionsAndScans := by
  constructor
  · intro s ha
    have quiet {t : State} : t.pins = s.pins → t.safe = s.safe → t.raised = s.raised → fin t = .next t := fin_of_fields ha
    refine ⟨quiet rfl rfl rfl, quiet rfl rfl rfl, quiet rfl rfl rfl, fun code hc => ?_, fun sel => ?_, fun b hb => ?_, fun b hb => ?_⟩
    · have hcode : tapCodes.contains code.toNat = false := by simpa [tapCodes] using hc
      have e : bypass code s = tapSelect s .bypass := by simp only [bypass, hcode, Bool.false_eq_true, ↓reduceIte]
      exact (congrArg fin e).trans (quiet rfl rfl rfl)
    · rcases Nat.mod_two_eq_zero_or_one (debugEnabled s) with h | h
      · obtain ⟨n, d, e, hd⟩ := debugReadScan_shut sel h
        exact ⟨n, d, (congrArg fin e).trans (quiet rfl rfl rfl), fun _ => hd, fun w h1 => by omega⟩
      · obtain ⟨n, d, e, hd⟩ := debugReadScan_open sel h
        exact ⟨n, d, (congrArg fin e).trans (quiet rfl rfl rfl), fun h0 => by omega, fun w _ => hd w⟩
    · exact ⟨_, (congrArg fin (wrapperSelect_shut b hb)).trans (quiet rfl rfl rfl)⟩
    · refine ⟨s.free + 1, decide (ofLe (freeBytes s 1) % 2 = 1), fun h => ?_, fun h => ?_⟩
      · have hn : (b && !s.tap.factory) = false := by rcases h with h | h <;> simp [h]
        have e := wrapperSelect_open b hb
        simp only [hn, Bool.false_eq_true, ↓reduceIte] at e
        exact (congrArg fin e).trans (quiet rfl rfl rfl)
      · have e := wrapperSelect_open true hb
        simp only [h, Bool.not_false, Bool.and_self, ↓reduceIte] at e
        exact congrArg fin e
  · intro word s hw hup
    refine ⟨fun h hin => ?_, fun h hin => ?_, fun h hl hn hd => ?_⟩
    · have e := (almanacScan_reads word hw hup h).trans (dbgComplete_short (s := scanned s) (Or.inl hin))
      rw [scanned_eq] at e
      exact (congrArg fin e).trans (fin_of_work hw rfl rfl rfl)
    · have e := (almanacScan_writes word hw hup h).trans (dbgComplete_short (s := dbgWord (scanned s) _) hin)
      rw [dbgWord_scanned] at e
      exact (congrArg fin e).trans (fin_of_work hw rfl rfl rfl)
    · have e := (almanacScan_writes word hw hup h).trans (dbgComplete_whole (s := dbgWord (scanned s) _) hl hn hd)
      rw [dbgWord_scanned] at e
      exact (congrArg fin e).trans (fin_of_work hw rfl rfl rfl)

end Sys2Proof.TestAccess
end

section
/-!
SUPPORT. The persistent store: the commands of a record's read and write.
-/

namespace Sys2Proof.Store

open Sys2Proof Sys2Proof.Machine Sys2Proof.Safety Sys2Proof.Bring Sys2Proof.Neighbours

/-! ### The command in progress has ended -/

section
variable {s x : State} {j : NvJob} {rest : List NvJob} {w : Bytes} (hw : atWork s = true)

include hw in
theorem nvEnd_idle (h : s.nv.jobs = []) (e : Bool) : nvEnd s w e = s := by
  simp only [nvEnd, coreUp_of_work hw, safe_of_work hw, Bool.not_true, Bool.false_eq_true, ↓reduceIte, nvAnswer, h]

variable (hj : s.nv.jobs = j :: rest) (hr : j.recId ≠ surveyRec)

include hw hj hr in
/-- The job goes on with its next command. -/
theorem nvEnd_goes {e : Bool} {k : NvJob} (h : recordStep (if e then raiseSrc s 507 else s) j w e = (x, .go k)) :
    nvEnd s w e = { x with nv := { x.nv with jobs := k :: rest, progAt := x.pins.cycles } } := by
  simp only [nvEnd, coreUp_of_work hw, safe_of_work hw, Bool.not_true, Bool.false_eq_true, ↓reduceIte, nvAnswer, hj, hr, h]

include hw hj hr in
/-- The job is over, and the port takes up the next one. -/
theorem nvEnd_over {e ok : Bool} (h : recordStep (if e then raiseSrc s 507 else s) j w e = (x, .ended ok)) :
    nvEnd s w e = bringWatch (nvBegin (jobOver { x with nv := { x.nv with jobs := rest } } j ok)) := by
  simp only [nvEnd, coreUp_of_work hw, safe_of_work hw, Bool.not_true, Bool.false_eq_true, ↓reduceIte, nvAnswer, hj, hr, h]

include hw hj hr in
/-- A job that goes on leaves the rest of the block alone. -/
theorem commandEnd_goes {k : NvJob} (h : recordStep s j w false = (s, .go k)) :
    exec (.nvCommandEnd w false) s = .next { s with nv := { s.nv with jobs := k :: rest, progAt := s.pins.cycles } } :=
  (congrArg fin (nvEnd_goes hw hj hr h)).trans (fin_of_work hw rfl rfl rfl)

end

/-! ### What follows a command of a record's job -/

section
variable {s : State} {j : NvJob} {k p : Nat} (w : Bytes)

theorem recordStep_readNext (h : j.step = .readPage k p) (hp : p + 1 < bankPages j.recId) :
    recordStep s j w false = (s, .go { j with step := .readPage k (p + 1), got := j.got ++ fit 256 w }) := by
  simp only [recordStep, h, hp, Bool.false_eq_true, ↓reduceIte]

theorem recordStep_readOther (h : j.step = .readPage 0 p) (hp : bankPages j.recId ≤ p + 1) :
    recordStep s j w false = (s, .go { j with step := .readPage 1 0, got := j.got ++ fit 256 w }) := by
  simp only [recordStep, h, Nat.not_lt.mpr hp, Bool.false_eq_true, ↓reduceIte]

theorem recordStep_readLast (h : j.step = .readPage k p) (hk : k ≠ 0) (hp : bankPages j.recId ≤ p + 1) :
    recordStep s j w false =
      let n := readRecord s j.recId (j.got ++ fit 256 w)
      (if n.failed then raiseSrc (setNvRec s j.recId n) (recSource j.recId) else setNvRec s j.recId n, .ended n.valid) := by
  simp only [recordStep, h, Nat.not_lt.mpr hp, hk, Bool.false_eq_true, ↓reduceIte]

theorem recordStep_eraseNext (h : j.step = .erase k) (hk : k + 1 < bankSectors j.recId) :
    recordStep s j w false = (s, .go { j with step := .erase (k + 1) }) := by
  simp only [recordStep, h, hk, Bool.false_eq_true, ↓reduceIte]

theorem recordStep_eraseLast (h : j.step = .erase k) (hk : bankSectors j.recId ≤ k + 1) :
    recordStep s j w false = (eraseBank s j.recId j.bank, .go { j with slot := 0, step := .program 0 }) := by
  simp only [recordStep, h, Nat.not_lt.mpr hk, Bool.false_eq_true, ↓reduceIte]

theorem recordStep_programNext (h : j.step = .program p) (hp : p + 1 < framePages s j) :
    recordStep s j w false = (s, .go { j with step := .program (p + 1) }) := by
  simp only [recordStep, h, hp, Bool.false_eq_true, ↓reduceIte]

theorem recordStep_programLast (h : j.step = .program p) (hp : framePages s j ≤ p + 1) :
    recordStep s j w false = (s, .go { j with step := .verify 0, got := [] }) := by
  simp only [recordStep, h, Nat.not_lt.mpr hp, Bool.false_eq_true, ↓reduceIte]

theorem recordStep_verifyNext (h : j.step = .verify p) (hp : p + 1 < framePages s j) :
    recordStep s j w false = (s, .go { j with step := .verify (p + 1), got := j.got ++ fit 256 w }) := by
  simp only [recordStep, h, Bool.false_eq_true, ↓reduceIte]
  exact if_pos hp

theorem recordStep_verifyLast (h : j.step = .verify p) (hp : framePages s j ≤ p + 1) :
    recordStep s j w false = checkCopy s { j with got := j.got ++ fit 256 w } (j.got ++ fit 256 w) := by
  simp only [recordStep, h, Bool.false_eq_true, ↓reduceIte]
  exact (if_neg (Nat.not_lt.mpr hp)).trans (by rw [← h])

/-- A PROGRAM or an ERASE that reports an error has failed its copy. -/
theorem recordStep_error (h : ∃ p, j.step = .program p ∨ j.step = .erase p) : recordStep s j w true = retryCopy s j := by
  obtain ⟨p, h | h⟩ := h <;> simp only [recordStep, h, ↓reduceIte]

end

/-! ### Copies -/

/-- The copy reads back as it was written (R350, step 4). -/
def CopyGood (s : State) (j : NvJob) (b : Bytes) : Prop :=
  copyOk s j.recId b = true ∧ copySeq b = jobSeq s j ∧ b.take (jobFrame s j).length = jobFrame s j ∧
    (b.drop (jobFrame s j).length).all (fun x => decide (x = 0xFF)) = true

section
variable {s : State} {j : NvJob} {b : Bytes}

theorem checkCopy_good (h : CopyGood s j b) (g : Bytes) : checkCopy s { j with got := g } b =
    let x := markSlot s j.recId j.bank j.slot (.valid (jobSeq s j))
    (setNvRec x j.recId { getNvRec x j.recId with seq := jobSeq s j, payload := j.write.getD [], valid := true, failed := false },
      .ended true) := by
  have hc : (copyOk s j.recId b && decide (copySeq b = jobSeq s { j with got := g }) &&
      decide (b.take (jobFrame s { j with got := g }).length = jobFrame s { j with got := g }) &&
      (b.drop (jobFrame s { j with got := g }).length).all (fun x => decide (x = 0xFF))) = true := by
    simp only [Bool.and_eq_true, decide_eq_true_eq, and_assoc]
    exact h
  unfold checkCopy
  exact if_pos hc

theorem checkCopy_bad (h : ¬CopyGood s j b) (g : Bytes) : checkCopy s { j with got := g } b = retryCopy s { j with got := g } := by
  have hc : ¬(copyOk s j.recId b && decide (copySeq b = jobSeq s { j with got := g }) &&
      decide (b.take (jobFrame s { j with got := g }).length = jobFrame s { j with got := g }) &&
      (b.drop (jobFrame s { j with got := g }).length).all (fun x => decide (x = 0xFF))) = true := by
    simp only [Bool.and_eq_true, decide_eq_true_eq, and_assoc]
    exact h
  unfold checkCopy
  exact if_neg hc

theorem retryCopy_first (h : j.tryNo = 0) (g : Bytes) : retryCopy s { j with got := g } =
    let x := markSlot s j.recId j.bank j.slot .bad
    (x, .go { placeCopy x j j.bank with tryNo := 1 }) := by
  unfold retryCopy
  exact if_pos h

theorem retryCopy_second (h : j.tryNo ≠ 0) (g : Bytes) : retryCopy s { j with got := g } =
    (raiseSrc (markSlot s j.recId j.bank j.slot .bad) (recSource j.recId), .ended false) := by
  simp only [retryCopy, h, ↓reduceIte]

end

/-- A mark on a slot leaves what the records hold. -/
theorem getNvRec_markSlot {s : State} (h : twf ({} : NvRec) s.nv.recs = true) (k b i : Nat) (v : NvSlot) (r : Nat) :
    getNvRec (markSlot s k b i v) r = getNvRec s r ∨
      ((getNvRec (markSlot s k b i v) r).seq = (getNvRec s r).seq ∧
        (getNvRec (markSlot s k b i v) r).payload = (getNvRec s r).payload ∧
        (getNvRec (markSlot s k b i v) r).valid = (getNvRec s r).valid) := by
  unfold markSlot
  by_cases hr : r = k
  · subst hr
    have hget (z : NvRec) : getNvRec (setNvRec s r z) r = z := tget_tput _ _ _ _ _ h
    right
    rw [hget]
    split <;> exact ⟨rfl, rfl, rfl⟩
  · exact .inl (tget_tput_other _ _ _ _ _ _ hr)

/-- Settles O57, by the steps of a record's job. -/
theorem nvCommandsFollowTheirProcedure : Obligations.NvCommandsFollowTheirProcedure := by
  refine ⟨fun s => rfl, fun w j rest s hw => ⟨fun h => ?_, fun hj hr => ?_⟩⟩
  · exact (congrArg fin (nvEnd_idle hw h false)).trans (fin_of_work hw rfl rfl rfl)
  have ends {x : State} {ok : Bool} (h : recordStep s j w false = (x, .ended ok)) : exec (.nvCommandEnd w false) s =
      .next (settle (collect (bringWatch (nvBegin (jobOver { x with nv := { x.nv with jobs := rest } } j ok))))) :=
    congrArg fin (nvEnd_over hw hj hr h)
  refine ⟨fun k p h hp => ?_, fun p h hp => ?_, fun k p h hk hp => ?_, fun k h hk => ?_, fun k h hk => ?_, fun p h hp => ?_, fun p h hp => ?_,
    fun p h hp => ?_, fun p h hp => ?_, fun h => ?_, fun ht k v r => ?_⟩
  · exact commandEnd_goes hw hj hr (recordStep_readNext w h hp)
  · exact commandEnd_goes hw hj hr (recordStep_readOther w h hp)
  · exact ends (recordStep_readLast w h hk hp)
  · exact commandEnd_goes hw hj hr (recordStep_eraseNext w h hk)
  · exact (congrArg fin (nvEnd_goes hw hj hr (e := false) (recordStep_eraseLast w h hk))).trans (fin_of_work hw rfl rfl rfl)
  · exact commandEnd_goes hw hj hr (recordStep_programNext w h hp)
  · exact commandEnd_goes hw hj hr (recordStep_programLast w h hp)
  · exact commandEnd_goes hw hj hr (recordStep_verifyNext w h hp)
  · have hv := recordStep_verifyLast w h hp
    refine ⟨fun hg => ends (hv.trans (checkCopy_good hg _)), fun hg ht => ?_, fun hg ht => ?_⟩
    · have e := (hv.trans (checkCopy_bad hg _)).trans (retryCopy_first ht _)
      exact (congrArg fin (nvEnd_goes hw hj hr (e := false) e)).trans (fin_of_work hw rfl rfl rfl)
    · exact ends ((hv.trans (checkCopy_bad hg _)).trans (retryCopy_second ht _))
  · have he := recordStep_error (s := raiseSrc s 507) [] h
    refine ⟨fun ht => ?_, fun ht => ?_⟩
    · exact congrArg fin (nvEnd_goes hw hj hr (e := true) (he.trans (retryCopy_first ht j.got)))
    · exact congrArg fin (nvEnd_over hw hj hr (e := true) (he.trans (retryCopy_second ht j.got)))
  · exact getNvRec_markSlot ht k j.bank j.slot v r

end Sys2Proof.Store
end

section
/-!
SUPPORT. The life cycle: its requests, debug tokens and attestation nonces, and the end of a transition's drain.
-/

namespace Sys2Proof.Transition

open Sys2Proof Sys2Proof.Machine Sys2Proof.Safety Sys2Proof.Bring Sys2Proof.Neighbours Sys2Proof.Entropy Sys2Proof.Almanac Sys2Proof.Tables Sys2Proof.Warm

/-! ### The COMMIT of a group of the life cycle -/

section
variable {s x : State} {m : AapMsg} {c : Instr}

theorem perform_commit (ho : m.op = 3) : perform s m = commitGroup s m := by
  simp [perform, ho]

/-- A served COMMIT of group 9000 is the transition's request. -/
theorem exec_commitRequest (hs : Served s m) (ho : m.op = 3) (hc : c ∈ [Instr.commit m, .lifecycleTransition m]) (hi : m.index = 0x9000) :
    exec c s = fin (commitRequest s m) := by
  have hg : commitGroup s m = commitRequest s m := by simp [commitGroup, hi]
  have hp : perform s m = commitRequest s m := (perform_commit ho).trans hg
  have h0 : m.op ≠ 0 := by omega
  rcases List.mem_pair.mp hc with rfl | rfl
  · exact (exec_served hs h0 (p := m.op == 3) rfl (by simp [ho])).trans (congrArg fin hp)
  · exact (exec_served hs h0 (p := m.op == 3 && inTable m 0x9000 0x9000) rfl (by simp [ho, inTable, hi])).trans (congrArg fin hp)

theorem exec_commitToken (hs : Served s m) (ho : m.op = 3) (hc : c ∈ [Instr.commit m, .debugToken m]) (hi : m.index = 0x9001) :
    exec c s = fin (commitToken s m) := by
  have hg : commitGroup s m = commitToken s m := by simp [commitGroup, hi]
  have hp : perform s m = commitToken s m := (perform_commit ho).trans hg
  have h0 : m.op ≠ 0 := by omega
  rcases List.mem_pair.mp hc with rfl | rfl
  · exact (exec_served hs h0 (p := m.op == 3) rfl (by simp [ho])).trans (congrArg fin hp)
  · exact (exec_served hs h0 (p := m.op == 3 && inTable m 0x9001 0x9001) rfl (by simp [ho, inTable, hi])).trans (congrArg fin hp)

theorem exec_commitNonce (hs : Served s m) (ho : m.op = 3) (hc : c ∈ [Instr.commit m, .attestNonce m]) (hi : m.index = 0x9002) :
    exec c s = fin (commitNonce s m) := by
  have hg : commitGroup s m = commitNonce s m := by simp [commitGroup, hi]
  have hp : perform s m = commitNonce s m := (perform_commit ho).trans hg
  have h0 : m.op ≠ 0 := by omega
  rcases List.mem_pair.mp hc with rfl | rfl
  · exact (exec_served hs h0 (p := m.op == 3) rfl (by simp [ho])).trans (congrArg fin hp)
  · exact (exec_served hs h0 (p := m.op == 3 && inTable m 0x9002 0x9002) rfl (by simp [ho, inTable, hi])).trans (congrArg fin hp)

/-- An answer, from a state that stands as the block's, ends its command. -/
theorem fin_answer {t : State} (hw : atWork s = true) (hp : t.pins = s.pins) (hs : t.safe = s.safe) (hr : t.raised = s.raised) (st : AapCode)
    (v : Bytes) : fin (answer t m st v) = .next (answer t m st v) := fin_answerAt hw hp hs hr _ st _ _ v

/-! ### The request and the token -/

/-- The challenge is void, and the signatures are counted where they were checked. -/
theorem countSigned_eq (bad : Option Nat) :
    countSigned x bad = if bad = none ∨ bad = some 0x16 then { x with cnt := { x.cnt with pkaOps := u64 (x.cnt.pkaOps + 1) } } else x := rfl

theorem commitRequest_busy (h : readyBit s none 3 = false ∨ lcIdle s = false) : commitRequest s m = answer s m .busy [] := by
  rcases h with h | h <;> simp only [commitRequest, h, Bool.not_false, Bool.true_or, Bool.or_true, ↓reduceIte]

/-- The state in which a request is tested: its challenge is void. -/
def voided (s : State) : State := { s with life := { s.life with challenge := none } }

variable (hr : readyBit s none 3 = true) (hi : lcIdle s = true)

include hr hi in
theorem commitRequest_refused {e : Nat} (hb : requestBad (voided s) false s.life.challenge (submitted s 0x9000 5) = some e) :
    commitRequest s m = answer (setResult (countSigned (voided s) (some e)) e) m .lifecycle [] := by
  unfold voided at hb ⊢
  simp only [commitRequest, hr, hi, Bool.not_true, Bool.or_self, Bool.false_eq_true, ↓reduceIte, hb]

variable (hb : requestBad (voided s) false s.life.challenge (submitted s 0x9000 5) = none)

include hr hi hb in
theorem commitRequest_overBudget (hu : budgetOk s (fld (submitted s 0x9000 5) 4 1) = false) :
    commitRequest s m = answer (setResult (countPka (voided s)) 0x19) m .lifecycle [] := by
  have hu' : budgetOk (countPka (voided s)) (fld (submitted s 0x9000 5) 4 1) = false := hu
  unfold voided at hb hu' ⊢
  simp only [commitRequest, hr, hi, Bool.not_true, Bool.or_self, Bool.false_eq_true, ↓reduceIte, hb, countSigned, true_or, hu', Bool.not_false]

include hr hi hb in
theorem commitRequest_begins (hu : budgetOk s (fld (submitted s 0x9000 5) 4 1) = true) :
    commitRequest s m =
      let b := submitted s 0x9000 5
      lcWrite { countPka (voided s) with life := { (voided s).life with busy := true }, mgmt := { s.mgmt with waiting := some m } } 1
        (lifePayload s.life.state (fld b 4 1) 1 s.life.count s.life.mask (slice b 96 48) (sha384 (b.take 144))) (.phase .verified) := by
  have hu' : budgetOk (countPka (voided s)) (fld (submitted s 0x9000 5) 4 1) = true := hu
  unfold voided at hb hu' ⊢
  simp only [commitRequest, hr, hi, Bool.not_true, Bool.or_self, Bool.false_eq_true, ↓reduceIte, hb, countSigned, true_or, hu']
  rfl

end

section
variable {s : State} {m : AapMsg}

theorem commitToken_busy (h : readyBit s none 3 = false ∨ s.life.busy = true) : commitToken s m = answer s m .busy [] := by
  rcases h with h | h <;> simp only [commitToken, h, Bool.not_false, Bool.true_or, Bool.or_true, ↓reduceIte]

/-- The state in which a token is tested: its challenge is void. -/
def voidedToken (s : State) : State := { s with life := { s.life with dbgChal := none } }

variable (hr : readyBit s none 3 = true) (hi : s.life.busy = false)

include hr hi in
theorem commitToken_refused {e : Nat} (hb : requestBad (voidedToken s) true s.life.dbgChal (submitted s 0x9001 1) = some e) :
    commitToken s m = answer (setResult (countSigned (voidedToken s) (some e)) e) m .lifecycle [] := by
  have hgo : ¬(!readyBit s none 3 || s.life.busy) = true := by simp [hr, hi]
  unfold commitToken voidedToken at *
  rw [if_neg hgo]
  simp only [hb]

include hr hi in
theorem commitToken_granted (hb : requestBad (voidedToken s) true s.life.dbgChal (submitted s 0x9001 1) = none) :
    commitToken s m = answer (committed { countPka (voidedToken s) with life := { (voidedToken s).life with
      debugEn := s.life.debugEn ||| BitVec.ofNat 2 (fld (submitted s 0x9001 1) 4 1), result := 1 } } 0x9001) m .ok [] := by
  have hgo : ¬(!readyBit s none 3 || s.life.busy) = true := by simp [hr, hi]
  unfold commitToken voidedToken at *
  rw [if_neg hgo]
  simp only [hb, countSigned, true_or, ↓reduceIte]
  rfl

/-! ### The nonce -/

theorem commitNonce_busy (h : s.rng.state ≠ .running ∨ s.bring.identity = false ∨ readyBit s none 3 = false) :
    commitNonce s m = answer s m .busy [] := by
  simp only [commitNonce, h, ↓reduceIte]

variable (hg : s.rng.state = .running) (hk : s.bring.identity = true) (hp : readyBit s none 3 = true)

include hg hk hp in
theorem serves_nonce : ¬(s.rng.state ≠ .running ∨ s.bring.identity = false ∨ readyBit s none 3 = false) := by
  simp [hg, hk, hp]

include hg hk hp in
theorem commitNonce_zero (hz : allZero (submitted s 0x9002 1) = true) : commitNonce s m = answer s m .inconsistent [] := by
  simp only [commitNonce, serves_nonce hg hk hp, hz, ↓reduceIte]

include hg hk hp in
theorem commitNonce_waits (hz : allZero (submitted s 0x9002 1) = false) (hn : pkaSupply s 64 = none) : commitNonce s m = awaitSupply s := by
  simp only [commitNonce, serves_nonce hg hk hp, hz, hn, Option.isNone_none, Bool.false_eq_true, ↓reduceIte]

/-- What a draw from a unit's buffer changes. -/
theorem pkaRandom_eq (s : State) (n : Nat) : ∃ g, (pkaRandom s n).2 = { s with rng := g } := by
  unfold pkaRandom
  split
  · obtain ⟨ws, h⟩ := askWire_eq { s with rng := { s.rng with pkaBuf := tput [] s.rng.pkaBuf ‹Nat› ((tget [] s.rng.pkaBuf ‹Nat›).drop n) } }
      (.pka ‹Nat›)
    exact ⟨_, h⟩
  · exact ⟨s.rng, rfl⟩

/-- A statement on a nonce: signed with what the buffer gives, and counted. -/
def stated (s : State) : State :=
  { countPka (pkaRandom s 64).2 with life := { s.life with
    statement := coseSign s none (blockPayload s (submitted s 0x9002 1)) false (pkaRandom s 64).1
    serial := s.life.serial + 1 } }

include hg hk hp in
theorem commitNonce_states (hz : allZero (submitted s 0x9002 1) = false) (hn : pkaSupply s 64 ≠ none) :
    commitNonce s m = answer (committed (stated s) 0x9002) m .ok [] := by
  have hsome : (pkaSupply s 64).isNone = false := Option.isNone_eq_false_iff.mpr (Option.isSome_iff_ne_none.mpr hn)
  obtain ⟨g, h⟩ := pkaRandom_eq s 64
  simp only [commitNonce, serves_nonce hg hk hp, hz, hsome, Bool.false_eq_true, ↓reduceIte, stated, h]
  rfl

end

/-! ### The end of the drain, and the retry of a write -/

section
variable {s : State} (hw : atWork s = true)

theorem transitionWorkAbandon_early (h : lcDrained s = false) : transitionWorkAbandon s = s := by
  simp only [transitionWorkAbandon, h, Bool.not_false, Bool.or_true, ↓reduceIte]

include hw in
theorem transitionWorkAbandon_bare (h : lcDrained s = true) (hr : s.rings = []) (hc : s.chans = []) :
    transitionWorkAbandon s = lcDestroy s := by
  simp only [transitionWorkAbandon, coreUp_of_work hw, safe_of_work hw, h, hr, hc, Bool.not_true, Bool.or_self, Bool.false_eq_true, ↓reduceIte,
    List.map_nil, List.filter_nil, List.foldl_nil]

theorem nvWriteRetry_none (h : s.nv.retry = none) : nvWriteRetry s = s := by
  simp only [nvWriteRetry, h, ite_self]

include hw in
theorem nvWriteRetry_some {j : NvJob} (h : s.nv.retry = some j) :
    nvWriteRetry s = nvSubmit { s with nv := { s.nv with retry := none } } { j with again := true } := by
  simp only [nvWriteRetry, coreUp_of_work hw, safe_of_work hw, h, Bool.not_true, Bool.or_self, Bool.false_eq_true, ↓reduceIte]

end

/-! ### The destruction of the keys -/

/-- The vault, the key cache, and the records of the functions. -/
def keyStore (s : State) : Vault × List CacheEnt × Tbl FnRec := (s.vault, s.cache, s.fns)

theorem keyStore_modReq (s : State) (r : Nat) (g : Req → Req) : keyStore (modReq s r g) = keyStore s := by
  unfold modReq
  split <;> rfl

theorem keyStore_noteWrite (s : State) (o : Own) : keyStore (noteWrite s o) = keyStore s := by
  unfold noteWrite
  split
  · exact keyStore_modReq _ _ _
  · exact keyStore_modReq _ _ _
  · rfl
  · rfl
  · rfl

theorem keyStore_issueOn (s : State) (b : Burst) (p k : Nat) : keyStore (issueOn s b p k) = keyStore s := keyStore_noteWrite s b.own

theorem keyStore_submit (s : State) (b : Burst) : keyStore (submit s b) = keyStore s := by
  unfold submit tryIssue
  split
  · rfl
  · split
    · next t h =>
      split at h
      · split at h
        · exact absurd h (Option.some_ne_none _).symm
        · split at h
          · exact absurd h (Option.some_ne_none _).symm
          · rw [← Option.some.inj h]
            exact keyStore_issueOn s b _ _
      · exact absurd h (Option.some_ne_none _).symm
    · rfl

theorem keyStore_ringSettle (s : State) (n : Nat) : keyStore (ringSettle s n) = keyStore s := by
  unfold ringSettle
  dsimp only
  split <;> split <;> rfl

theorem keyStore_entryDone (s : State) (n c : Nat) : keyStore (entryDone s n c) = keyStore s := by
  unfold entryDone
  refine (keyStore_ringSettle _ n).trans ?_
  split
  · rfl
  · split
    · rfl
    · dsimp only
      split <;> rfl

theorem keyStore_putEntry (s : State) (n c : Nat) (st : Status) (ff cd ao : Bool) (v : Nat) (w : Bool) (e : Nat → Bool → Bytes) :
    keyStore (putEntry s n c st ff cd ao v w e) = keyStore s := by
  unfold putEntry
  dsimp only
  split
  · split
    · rfl
    · exact keyStore_entryDone s n c
  · exact keyStore_submit _ _

theorem keyStore_abandonToken (s : State) (k : Nat) : keyStore (abandonToken s k) = keyStore s := by
  unfold abandonToken sendPeer
  split
  · split <;> rfl
  · rfl

theorem keyStore_chargePka (s : State) (q : Req) : keyStore (chargePka s q) = keyStore s := by
  unfold chargePka
  split <;> rfl

/-- Nothing is cached, and nothing of the vault is under way. -/
def Emptied (s : State) : Prop := s.cache = [] ∧ s.vault.updates = [] ∧ s.vault.fetches = [] ∧ s.vault.erasing = []

section
variable {s t : State}

theorem emptied_congr (h : keyStore t = keyStore s) (hs : Emptied s) : Emptied t := by
  have hv : t.vault = s.vault := congrArg Prod.fst h
  have hc : t.cache = s.cache := congrArg (fun k => k.2.1) h
  unfold Emptied
  rw [hv, hc]
  exact hs

/-- A sequence of steps each of which leaves emptied keys alone. -/
theorem keyStore_foldl {α : Type} {g : State → α → State} (hg : ∀ s a, Emptied s → keyStore (g s a) = keyStore s) (l : List α) (hs : Emptied s) :
    keyStore (l.foldl g s) = keyStore s := by
  induction l generalizing s with
  | nil => rfl
  | cons a l ih => exact (ih (emptied_congr (hg s a hs) hs)).trans (hg s a hs)

theorem keyStore_eraseAdvance (hs : Emptied s) (i : Nat) : keyStore (eraseAdvance s i) = keyStore s := by
  obtain ⟨-, -, -, he⟩ := hs
  simp only [eraseAdvance, he, List.contains_nil, Bool.false_and, Bool.false_eq_true, ↓reduceIte]

theorem keyStore_dropRef (hs : Emptied s) (i : Option Nat) (g : Nat) : keyStore (dropRef s i g) = keyStore s := by
  cases i with
  | none => rfl
  | some i =>
    have hr : keyStore (releaseRef s i g) = keyStore s := by
      simp only [keyStore, releaseRef, cacheMod, hs.1, List.map_nil, List.filter_nil]
    exact (keyStore_eraseAdvance (emptied_congr hr hs) i).trans hr

theorem keyStore_dropFetches (hs : Emptied s) (r : Nat) : keyStore (dropFetches s r) = keyStore s := by
  obtain ⟨-, hu, hf, -⟩ := hs
  obtain ⟨y, hy⟩ : ∃ y, y = dropFetches s r := ⟨_, rfl⟩
  rw [← hy]
  unfold dropFetches beginUpd at hy
  dsimp only [disown] at hy
  have hlen : s.vault.updates.length = 0 := congrArg List.length hu
  rw [hlen, beginFrom] at hy
  have hfil : s.vault.fetches.filter (fun f => decide (f.req ≠ r)) = s.vault.fetches := by rw [hf]; rfl
  rw [hfil] at hy
  subst hy
  rfl

/-- The fetches of a request go, and the transactions that bring it data. -/
theorem keyStore_leaves (hs : Emptied s) (h : keyStore t = keyStore s) (r : Nat) (p : Own → Bool) :
    keyStore (disown (dropFetches t r) p) = keyStore s := (keyStore_dropFetches (emptied_congr h hs) r).trans h

theorem keyStore_retireReq (hs : Emptied s) (r : Nat) (q : Req) : keyStore (retireReq s r q) = keyStore s := by
  have h1 : keyStore (chargePka (setReq s r none) q) = keyStore s := keyStore_chargePka _ q
  unfold retireReq
  dsimp only
  generalize chargePka (setReq s r none) q = a at *
  have h2 : keyStore (if q.refHeld = true then dropRef (dropRef a q.slot q.gen) q.slot2 q.gen2 else a) = keyStore s := by
    split
    · have h := (keyStore_dropRef (emptied_congr h1 hs) q.slot q.gen).trans h1
      exact (keyStore_dropRef (emptied_congr h hs) _ _).trans h
    · exact h1
  generalize (if q.refHeld = true then dropRef (dropRef a q.slot q.gen) q.slot2 q.gen2 else a) = b at *
  refine keyStore_leaves hs ?_ r _
  cases q.token with
  | none => exact h2
  | some k => exact (keyStore_abandonToken _ k).trans h2

theorem keyStore_endReq (hs : Emptied s) (r : Nat) (st : Status) (res : Nat) (n : Bool) : keyStore (endReq s r st res n) = keyStore s := by
  unfold endReq
  split
  · rfl
  · exact (keyStore_putEntry _ _ _ _ _ _ _ _ _ _).trans (keyStore_retireReq hs r _)

theorem keyStore_modChain (s : State) (c : Nat) (g : Chain → Chain) : keyStore (modChain s c g) = keyStore s := by
  unfold modChain
  split <;> rfl

theorem keyStore_endFailed (hs : Emptied s) (r : Nat) (st : Status) (res : Nat) : keyStore (endFailed s r st res) = keyStore s := by
  unfold endFailed
  split
  · rfl
  · split
    · exact keyStore_endReq hs r st res false
    · have h1 := keyStore_modChain s ‹Req›.chain fun c => { c with inter := [] }
      have h2 := (keyStore_endReq (emptied_congr h1 hs) r st res false).trans h1
      exact (keyStore_foldl (fun s x h => keyStore_endReq h x st 0 true) _ (emptied_congr h2 hs)).trans h2

theorem keyStore_dropQueued (hs : Emptied s) (r : Nat) : keyStore (dropQueued s r) = keyStore s := by
  have hfil : s.vault.updates.filter (fun u => u.begun || decide (u.req ≠ some r)) = s.vault.updates := by rw [hs.2.1]; rfl
  unfold dropQueued
  rw [hfil]

/-- A step that has made no slot fails. -/
theorem keyStore_failStep (hs : Emptied s) {r : Nat} (hn : ∀ q, getReq s r = some q → q.newSlot = none) (st : Status) (res : Nat) :
    keyStore (failStep s r st res) = keyStore s := by
  unfold failStep
  split
  · rfl
  · next q hq =>
    split
    · rfl
    · split
      · have hd := keyStore_dropQueued hs r
        exact (keyStore_endFailed (emptied_congr hd hs) r st res).trans hd
      · next i hi => exact absurd ((hn q hq).symm.trans hi).symm (Option.some_ne_none i)

theorem keyStore_killStep (hs : Emptied s) {r : Nat} (hn : ∀ q, getReq s r = some q → q.newSlot = none) (st : Status) :
    keyStore (killStep s r st) = keyStore s := by
  have counted (b : Bool) :
      keyStore (failStep (if b then { s with cnt := { s.cnt with pkaAband := s.cnt.pkaAband + 1 } } else s) r st 0) = keyStore s := by
    cases b with
    | false => exact keyStore_failStep hs hn st 0
    | true => exact keyStore_failStep (s := { s with cnt := { s.cnt with pkaAband := s.cnt.pkaAband + 1 } }) hs hn st 0
  exact counted _

/-- A request that is cut short touches neither the emptied vault nor a function's record. -/
theorem keyStore_cutShort (hs : Emptied s) (r : Nat) : keyStore (cutShort s r) = keyStore s := by
  unfold cutShort
  split
  · rfl
  · next q _ =>
    dsimp only
    have hg : getReq (setReq s r (some { q with newSlot := none, resSlot := false, resLarge := false, resShad := false })) r = some _ :=
      tget_tput_self _ _ _ _ (Option.some_ne_none _)
    have hk : keyStore (setReq s r (some { q with newSlot := none, resSlot := false, resLarge := false, resShad := false })) = keyStore s := rfl
    generalize setReq s r _ = y at *
    split
    · exact (keyStore_endFailed (emptied_congr hk hs) r _ _).trans hk
    · refine (keyStore_killStep (emptied_congr hk hs) (fun q' h => ?_) _).trans hk
      rw [← Option.some.inj (hg.symm.trans h)]

end

/-! ### Tables whose keys rise -/

/-- The keys of a table rise. -/
def Rising {α : Type} (t : Tbl α) : Prop := (t.map Prod.fst).Pairwise (· < ·)

theorem mem_keys_tput {α : Type} [DecidableEq α] (d : α) (t : Tbl α) (k : Nat) (v : α) {j : Nat} (h : j ∈ (tput d t k v).map Prod.fst) :
    j = k ∨ j ∈ t.map Prod.fst := by
  induction t with
  | nil =>
    unfold tput at h
    split at h
    · exact absurd h List.not_mem_nil
    · exact .inl (List.mem_singleton.mp h)
  | cons e t ih =>
    unfold tput at h
    grind

theorem rising_tput {α : Type} [DecidableEq α] (d : α) {t : Tbl α} (k : Nat) (v : α) (h : Rising t) : Rising (tput d t k v) := by
  induction t with
  | nil =>
    unfold tput
    split
    · exact .nil
    · exact List.pairwise_singleton _ _
  | cons e t ih =>
    obtain ⟨hlt, ht⟩ := List.pairwise_cons.mp h
    unfold tput
    split
    · next hk =>
      split
      · exact h
      · refine List.pairwise_cons.mpr ⟨fun j hj => ?_, h⟩
        rcases List.mem_cons.mp hj with rfl | hj
        · exact hk
        · exact lt_trans hk (hlt j hj)
    · next hk =>
      split
      · next he =>
        split
        · exact ht
        · exact List.pairwise_cons.mpr ⟨fun j hj => by rw [he]; exact hlt j hj, ht⟩
      · next hne =>
        refine List.pairwise_cons.mpr ⟨fun j hj => ?_, ih ht⟩
        rcases mem_keys_tput d t k v hj with rfl | hj
        · show e.1 < j
          omega
        · exact hlt j hj

theorem tget_tput_rising {α : Type} [DecidableEq α] (d : α) {t : Tbl α} (k : Nat) (v : α) (h : Rising t) : tget d (tput d t k v) k = v := by
  by_cases hv : v = d
  · subst hv
    refine tget_of_not_key v fun hk => ?_
    induction t with
    | nil => simp [tput] at hk
    | cons e t ih =>
      obtain ⟨hlt, ht⟩ := List.pairwise_cons.mp h
      have hni : k ≤ e.1 → k ∉ t.map Prod.fst := fun hle hm => absurd (hlt k hm) (by omega)
      have hrest := ih ht
      unfold tput at hk
      grind
  · exact tget_tput_self d t k v hv

/-! ### Functions whose records rise -/

section
variable {s : State}

theorem fns_released (s : State) (f : Nat) : (released s f).fns = s.fns ∧ (released s f).reqs = s.reqs := by
  unfold released
  exact ⟨(foldl_field State.fns releaseChan (fun _ _ => rfl) _ _).trans (foldl_field State.fns releaseRing (fun _ _ => rfl) _ _),
    (foldl_field State.reqs releaseChan (fun _ _ => rfl) _ _).trans (foldl_field State.reqs releaseRing (fun _ _ => rfl) _ _)⟩

/-- What a cut RESTORE gives back keeps the records' order and touches no request. -/
theorem unrestoreFn_keeps (f : Nat) (r : Restoral) :
    (Rising s.fns → Rising (unrestoreFn s f r).fns) ∧ (unrestoreFn s f r).reqs = s.reqs := by
  obtain ⟨c, st, mg, sl, n1, n2, n3, x, e⟩ := makeAbsent_eq s f false
  obtain ⟨c', e'⟩ := putBackCfg_eq (makeAbsent s f false) f r.cfg
  obtain ⟨hf, hr⟩ := fns_released s f
  have hset (y : State) (v : FnRec) (hy : y.fns = s.fns) (h : Rising s.fns) : Rising (setFn y f v).fns := rising_tput _ _ _ (hy ▸ h)
  have h1 (h : Rising s.fns) : Rising (makeAbsent s f false).fns := by
    rw [e]
    exact hset _ x hf h
  have h2 : (makeAbsent s f false).reqs = s.reqs := by
    rw [e]
    exact hr
  unfold unrestoreFn
  rw [e']
  generalize makeAbsent s f false = z at h1 h2
  exact ⟨fun h => rising_tput _ _ _ (h1 h), h2⟩

theorem unassign_keepsOrder (s : State) (u : VUpd) : (Rising s.fns → Rising (unassign s u).fns) ∧ (unassign s u).reqs = s.reqs := by
  unfold unassign
  generalize u.ops = l
  induction l generalizing s with
  | nil => exact ⟨id, rfl⟩
  | cons o l ih =>
    rw [List.foldl_cons]
    split
    · obtain ⟨h1, h2⟩ := unrestoreFn_keeps (s := s) ‹_› ‹_›
      exact ⟨fun h => (ih _).1 (h1 h), (ih _).2.trans h2⟩
    · exact ih s

theorem rising_foldl_unassign (h : Rising s.fns) (l : List VUpd) : Rising (l.foldl unassign s).fns := by
  induction l generalizing s with
  | nil => exact h
  | cons u l ih => exact ih ((unassign_keepsOrder s u).1 h)

theorem rising_foldl_modFn (h : Rising s.fns) (g : FnRec → FnRec) (l : List Nat) : Rising (l.foldl (fun s f => modFn s f g) s).fns := by
  induction l generalizing s with
  | nil => exact h
  | cons f l ih => exact ih (rising_tput _ _ _ h)

/-- A change of every record reaches a record that it names. -/
theorem getFn_foldl_rising (h : Rising s.fns) (g : FnRec → FnRec) {p : FnRec → Prop} (hg : ∀ x, p (g x)) {l : List Nat} {f : Nat}
    (hf : f ∈ l ∨ p (getFn s f)) : p (getFn (l.foldl (fun s f => modFn s f g) s) f) := by
  induction l generalizing s with
  | nil => exact hf.resolve_left List.not_mem_nil
  | cons k l ih =>
    refine ih (rising_tput _ _ _ h) ?_
    by_cases hk : f = k
    · subst hk
      right
      have e : getFn (modFn s f g) f = g (getFn s f) := tget_tput_rising _ _ _ h
      rw [e]
      exact hg _
    · have e : getFn (modFn s k g) f = getFn s f := tget_tput_other _ _ _ _ _ _ hk
      rw [e]
      exact hf.imp_left fun hm => (List.mem_cons.mp hm).resolve_left hk

end

/-! ### The keys are destroyed -/

section
variable {s : State}

theorem emptyVault_empties (s : State) : Emptied (emptyVault s) ∧ (emptyVault s).vault.slots = [] ∧ (emptyVault s).vault.frames = [] := by
  have hv (g : FnRec → FnRec) (l : List Nat) (y : State) : (l.foldl (fun s f => modFn s f g) y).vault = y.vault :=
    foldl_field State.vault (fun s f => modFn s f g) (fun _ _ => rfl) l y
  have hc (g : FnRec → FnRec) (l : List Nat) (y : State) : (l.foldl (fun s f => modFn s f g) y).cache = y.cache :=
    foldl_field State.cache (fun s f => modFn s f g) (fun _ _ => rfl) l y
  unfold Emptied emptyVault
  rw [hv, hc]
  exact ⟨⟨rfl, rfl, rfl, rfl⟩, rfl, rfl⟩

theorem emptyVault_rising (h : Rising s.fns) : Rising (emptyVault s).fns := by
  have h1 := rising_foldl_unassign h s.vault.updates
  have hm (g : FnRec → FnRec) (l : List Nat) (y : State) (hy : Rising y.fns) : Rising (l.foldl (fun s f => modFn s f g) y).fns :=
    rising_foldl_modFn hy g l
  unfold emptyVault
  exact hm _ _ _ h1

theorem reqs_emptyVault (s : State) : (emptyVault s).reqs = s.reqs := by
  have hm (g : FnRec → FnRec) (l : List Nat) (y : State) : (l.foldl (fun s f => modFn s f g) y).reqs = y.reqs :=
    foldl_field State.reqs (fun s f => modFn s f g) (fun _ _ => rfl) l y
  unfold emptyVault
  rw [hm]
  exact foldl_field State.reqs unassign (fun s u => (unassign_keepsOrder s u).2) _ _

theorem rising_eraseKeys (h : Rising s.fns) : Rising (eraseKeys s).fns := by
  have e : (eraseKeys s).fns.map Prod.fst = s.fns.map Prod.fst := by simp [eraseKeys, Function.comp_def]
  unfold Rising
  rw [e]
  exact h

theorem rising_of_fnsCanon : ∀ {t : Tbl FnRec} {lo : Nat}, fnsCanonFrom lo t = true → Rising t
  | [], _, _ => .nil
  | (k, v) :: t, lo, w => by
    simp only [fnsCanonFrom, Bool.and_eq_true, decide_eq_true_eq] at w
    exact List.pairwise_cons.mpr ⟨fun j hj => (fns_keys_nodup w.2).2 j hj, rising_of_fnsCanon w.2⟩

theorem rising_of_canon (h : canon s = true) : Rising s.fns := by
  obtain ⟨-, -, -, w, -⟩ := canon_tables h
  exact rising_of_fnsCanon w

/-- The block once its vault is emptied and the requests that used it are cut short. -/
def cleared (s : State) : State := (vaultUsers s).foldl cutShort (emptyVault (eraseKeys s))

theorem keyStore_cleared (s : State) : keyStore (cleared s) = keyStore (emptyVault (eraseKeys s)) :=
  keyStore_foldl (fun _ r hs => keyStore_cutShort hs r) _ (emptyVault_empties _).1

/-- The context keys go with the former root. -/
def keyless (s : State) : State :=
  ((cleared s).fns.map Prod.fst).foldl (fun s f => modFn s f fun r => { r with ctxKey := [], ctxCtr := 0, ctxRes := 0 }) (cleared s)

theorem keyless_eq (s : State) : ∃ t, keyless s = { cleared s with fns := t } := foldl_modFn_eq _ _ _

theorem destroyKeys_eq (s : State) : ∃ ws, destroyKeys s =
    { keyless s with bring := { (keyless s).bring with vaultDone := false }, rng := { (keyless s).rng with wires := ws, pkaBuf := [] } } :=
  ⟨_, rfl⟩

/-- Nothing of the vault and no copy of a key is left (R346). -/
theorem destroyKeys_empties (s : State) : (destroyKeys s).cache = [] ∧ (destroyKeys s).vault.slots = [] ∧ (destroyKeys s).vault.frames = [] ∧
    (destroyKeys s).rng.pkaBuf = [] := by
  obtain ⟨he, hs, hf⟩ := emptyVault_empties (eraseKeys s)
  have hk := keyStore_cleared s
  have hv : (cleared s).vault = (emptyVault (eraseKeys s)).vault := congrArg Prod.fst hk
  have hc : (cleared s).cache = (emptyVault (eraseKeys s)).cache := congrArg (fun k => k.2.1) hk
  obtain ⟨ws, e⟩ := destroyKeys_eq s
  obtain ⟨t, e'⟩ := keyless_eq s
  rw [e, e']
  exact ⟨hc.trans he.1, (congrArg Vault.slots hv).trans hs, (congrArg Vault.frames hv).trans hf, rfl⟩

/-- No function has a context key (R346). -/
theorem destroyKeys_ctxKey (h : canon s = true) (f : Nat) : (getFn (destroyKeys s) f).ctxKey = [] := by
  have hk : (cleared s).fns = (emptyVault (eraseKeys s)).fns := congrArg (fun k => k.2.2) (keyStore_cleared s)
  have hr : Rising (cleared s).fns := hk ▸ emptyVault_rising (rising_eraseKeys (rising_of_canon h))
  obtain ⟨ws, e⟩ := destroyKeys_eq s
  rw [e]
  refine getFn_foldl_rising (p := fun x => x.ctxKey = []) hr _ (fun _ => rfl) ?_
  by_cases hm : f ∈ (cleared s).fns.map Prod.fst
  · exact .inl hm
  · right
    have hd : getFn (cleared s) f = fnDflt f := tget_of_not_key _ hm
    rw [hd, fnDflt]
    split <;> rfl

theorem destroyKeys_reqs (hr : s.reqs = []) : (destroyKeys s).reqs = [] := by
  have hu : vaultUsers s = [] := by simp [vaultUsers, reqsWith, hr]
  have hc : cleared s = emptyVault (eraseKeys s) := by rw [cleared, hu]; rfl
  obtain ⟨ws, e⟩ := destroyKeys_eq s
  obtain ⟨t, e'⟩ := keyless_eq s
  rw [e, e']
  show (cleared s).reqs = []
  rw [hc, reqs_emptyVault]
  simp [eraseKeys, hr]

end

/-! ### The commands -/

section
variable {s : State} {m : AapMsg} {c : Instr} (hs : Served s m) (ho : m.op = 3)

include hs in
/-- A refusal records its code. -/
theorem fin_refusal {z : State} (hp : z.pins = s.pins) (hq : z.safe = s.safe) (hr : z.raised = s.raised) (e : Nat) :
    fin (answer (setResult z e) m .lifecycle []) = .next (answer { z with life := { z.life with result := e } } m .lifecycle []) :=
  fin_answer (t := setResult z e) hs.1 hp hq hr _ _

theorem countSigned_unsigned {e : Nat} (h : e ≠ 0x16) (z : State) : countSigned z (some e) = z := by
  simp [countSigned, h]

theorem countSigned_signed (z : State) : countSigned z (some 0x16) = countPka z := rfl

section
variable (hc : c ∈ [Instr.commit m, .lifecycleTransition m]) (hi : m.index = 0x9000) (hr : readyBit s none 3 = true) (hl : lcIdle s = true)

include hs ho hc hi hr hl in
theorem request_refused {e : Nat} (hb : requestBad (voided s) false s.life.challenge (submitted s 0x9000 5) = some e) :
    exec c s = fin (answer (setResult (countSigned (voided s) (some e)) e) m .lifecycle []) :=
  (exec_commitRequest hs ho hc hi).trans (congrArg fin (commitRequest_refused hr hl hb))

include hs ho hc hi hr hl in
theorem request_overBudget (hb : requestBad (voided s) false s.life.challenge (submitted s 0x9000 5) = none)
    (hu : budgetOk s (fld (submitted s 0x9000 5) 4 1) = false) :
    exec c s = fin (answer (setResult (countPka (voided s)) 0x19) m .lifecycle []) :=
  (exec_commitRequest hs ho hc hi).trans (congrArg fin (commitRequest_overBudget hr hl hb hu))

end

section
variable (hc : c ∈ [Instr.commit m, .debugToken m]) (hi : m.index = 0x9001) (hr : readyBit s none 3 = true) (hl : s.life.busy = false)

include hs ho hc hi hr hl in
theorem token_refused {e : Nat} (hb : requestBad (voidedToken s) true s.life.dbgChal (submitted s 0x9001 1) = some e) :
    exec c s = fin (answer (setResult (countSigned (voidedToken s) (some e)) e) m .lifecycle []) :=
  (exec_commitToken hs ho hc hi).trans (congrArg fin (commitToken_refused hr hl hb))

include hs ho hc hi hr hl in
theorem token_granted (hb : requestBad (voidedToken s) true s.life.dbgChal (submitted s 0x9001 1) = none) :
    exec c s = .next (answer (committed { countPka (voidedToken s) with life := { (voidedToken s).life with
      debugEn := s.life.debugEn ||| BitVec.ofNat 2 (fld (submitted s 0x9001 1) 4 1), result := 1 } } 0x9001) m .ok []) :=
  ((exec_commitToken hs ho hc hi).trans (congrArg fin (commitToken_granted hr hl hb))).trans (fin_answer (s := s)
    (t := committed { countPka (voidedToken s) with life := { (voidedToken s).life with
      debugEn := s.life.debugEn ||| BitVec.ofNat 2 (fld (submitted s 0x9001 1) 4 1), result := 1 } } 0x9001) hs.1 rfl rfl rfl _ _)

end

section
variable (hc : c ∈ [Instr.commit m, .attestNonce m]) (hi : m.index = 0x9002) (hg : s.rng.state = .running) (hk : s.bring.identity = true)
  (hp : readyBit s none 3 = true) (hz : allZero (submitted s 0x9002 1) = false)

include hs ho hc hi hg hk hp hz in
theorem nonce_waits (hn : pkaSupply s 64 = none) : exec c s = .next (awaitSupply s) := by
  obtain ⟨ws, hx⟩ := foldl_askWire_eq Wire.pka ((List.range 16).filter fun i => unitReady s (unitAt .pka i)) s
  refine ((exec_commitNonce hs ho hc hi).trans (congrArg fin (commitNonce_waits hg hk hp hz hn))).trans ?_
  unfold awaitSupply
  rw [hx]
  exact fin_of_work hs.1 rfl rfl rfl

include hs ho hc hi hg hk hp hz in
theorem nonce_states (hn : pkaSupply s 64 ≠ none) : exec c s = .next (answer (committed (stated s) 0x9002) m .ok []) := by
  obtain ⟨g, hx⟩ := pkaRandom_eq s 64
  refine ((exec_commitNonce hs ho hc hi).trans (congrArg fin (commitNonce_states hg hk hp hz hn))).trans ?_
  unfold stated
  generalize pkaRandom s 64 = y at hx ⊢
  obtain ⟨d, y⟩ := y
  dsimp only at hx
  subst hx
  generalize coseSign _ _ _ _ _ = b
  exact fin_answer (s := s) (t := committed { countPka { s with rng := g } with life := { s.life with
    statement := b, serial := s.life.serial + 1 } } 0x9002) hs.1 rfl rfl rfl _ _

end

end

/-- Settles O56: the COMMITs of the three groups, the end of the drain and the retry. -/
theorem lifeCycleFollowsItsRequests : Obligations.LifeCycleFollowsItsRequests := by
  refine ⟨fun m s hs ho => ⟨fun c hc hi => ?_, fun c hc hi => ?_, fun c hc hi => ?_⟩, fun s hw => ⟨fun h => ?_, fun h hr hc => ?_, fun h => ?_,
    fun j h => ?_⟩⟩
  · refine ⟨fun h => ?_, fun e hr hl hb => ?_, fun hr hl hb hu => ?_, fun hr hl hb hu => ?_⟩
    · exact ((exec_commitRequest hs ho hc hi).trans (congrArg fin (commitRequest_busy h))).trans (fin_answer (t := s) hs.1 rfl rfl rfl _ _)
    · have hx := request_refused hs ho hc hi hr hl hb
      refine ⟨fun hne => ?_, fun heq => ?_⟩
      · rw [countSigned_unsigned hne] at hx
        exact hx.trans (fin_refusal (z := voided s) hs rfl rfl rfl e)
      · subst heq
        rw [countSigned_signed] at hx
        exact hx.trans (fin_refusal (z := countPka (voided s)) hs rfl rfl rfl 0x16)
    · exact (request_overBudget hs ho hc hi hr hl hb hu).trans (fin_refusal (z := countPka (voided s)) hs rfl rfl rfl 0x19)
    · exact (exec_commitRequest hs ho hc hi).trans (congrArg fin (commitRequest_begins hr hl hb hu))
  · refine ⟨fun h => ?_, fun e hr hl hb => ?_, fun hr hl hb => ?_⟩
    · exact ((exec_commitToken hs ho hc hi).trans (congrArg fin (commitToken_busy h))).trans (fin_answer (t := s) hs.1 rfl rfl rfl _ _)
    · have hx := token_refused hs ho hc hi hr hl hb
      refine ⟨fun hne => ?_, fun heq => ?_⟩
      · rw [countSigned_unsigned hne] at hx
        exact hx.trans (fin_refusal (z := voidedToken s) hs rfl rfl rfl e)
      · subst heq
        rw [countSigned_signed] at hx
        exact hx.trans (fin_refusal (z := countPka (voidedToken s)) hs rfl rfl rfl 0x16)
    · exact token_granted hs ho hc hi hr hl hb
  · refine ⟨fun h => ?_, fun hg hk hp => ⟨fun hz => ?_, fun hz hn => ?_, fun hz hn => ?_⟩⟩
    · exact ((exec_commitNonce hs ho hc hi).trans (congrArg fin (commitNonce_busy h))).trans (fin_answer (t := s) hs.1 rfl rfl rfl _ _)
    · exact ((exec_commitNonce hs ho hc hi).trans (congrArg fin (commitNonce_zero hg hk hp hz))).trans
        (fin_answer (t := s) hs.1 rfl rfl rfl _ _)
    · exact nonce_waits hs ho hc hi hg hk hp hz hn
    · exact nonce_states hs ho hc hi hg hk hp hz hn
  · exact (congrArg fin (transitionWorkAbandon_early h)).trans (fin_of_work hw rfl rfl rfl)
  · obtain ⟨h1, h2, h3, h4⟩ := destroyKeys_empties s
    exact ⟨congrArg fin (transitionWorkAbandon_bare hw h hr hc), destroyKeys_reqs, h1, h2, h3, h4, destroyKeys_ctxKey⟩
  · exact (congrArg fin (nvWriteRetry_none h)).trans (fin_of_work hw rfl rfl rfl)
  · exact congrArg fin (nvWriteRetry_some hw h)

end Sys2Proof.Transition
end

section
/-!
SUPPORT. VE actions: their beginning, and what completes them.
-/

namespace Sys2Proof.Actions

open Sys2Proof Sys2Proof.Machine Sys2Proof.Safety Sys2Proof.Bring Sys2Proof.Neighbours Sys2Proof.Almanac Sys2Proof.Tables

/-! ### The write of VE_ACTION -/

section
variable {s : State} {m : AapMsg} {n : Nat} {k : ActKind}

theorem isAction_spec (h : isAction m n = true) : m.op = 2 ∧ m.sub = 0x0D ∧ ofLe m.value = n ∧ 0x4000 ≤ m.index ∧ m.index ≤ 0x4400 := by
  simpa [isAction, inTable, and_assoc] using h

/-- VE_ACTION is an entry that is written as a command. -/
theorem entryAt_action {i : Nat} (hlo : 0x4000 ≤ i) (hhi : i ≤ 0x4400) : (entryAt i 0x0D).map Entry.acc = some .wo := by
  have he : entriesAt i = dict4000 := by
    unfold entriesAt
    repeat rw [if_neg (by omega)]
    rw [if_pos ⟨hlo, hhi⟩]
  have hn : ¬(i ≠ 0x4000 ∧ 0x4000 ≤ i ∧ i ≤ 0x4400 ∧ (0x0D : Nat) = 0x19) := by omega
  have hm : ¬(i = 0x4000 ∧ (0x0D : Nat) = 1) := by omega
  unfold entryAt
  rw [if_neg hn, he]
  simp only [hm, ↓reduceIte]
  decide

/-- A served write of VE_ACTION answers the refusal of its function's state, or begins the action. -/
theorem perform_action (h : isAction m n = true) (hk : codeAct n = some k) : perform s m =
    match actRefusal s (m.index - 0x4000) k with
    | some e => answer s m e []
    | none => actStart (answer s m .ok []) (m.index - 0x4000) k := by
  obtain ⟨ho, hsub, hv, hlo, hhi⟩ := isAction_spec h
  obtain ⟨e, he, ha⟩ := Option.map_eq_some_iff.mp (entryAt_action hlo hhi)
  have hw : writeEntry s m e = writeAction s m := by
    simp only [writeEntry, ha, writeCommand]
    repeat rw [if_neg (by omega)]
    rw [if_pos (by omega)]
  unfold perform
  rw [ho, hsub, he]
  simp only [hw, writeAction, hv, hk] <;> rfl

/-- Every command of the action's code runs it. -/
theorem exec_action {c : Instr} (hs : Served s m) (h : isAction m n = true)
    (hc : c = .write m ∨ (n, c) ∈ [(1, Instr.veResetAction m), (2, .save m), (3, .restore m), (4, .release m), (5, .migrationCommit m),
      (6, .abandon m), (7, .openAction m), (8, .receipt m), (9, .renewContextKey m)]) : exec c s = fin (perform s m) := by
  obtain ⟨ho, -⟩ := isAction_spec h
  have h0 : m.op ≠ 0 := by omega
  rcases hc with rfl | hc
  · exact exec_served hs h0 (p := m.op == 2) rfl (by simp [ho])
  · have hrow : (c, isAction m n) ∈ aapRows s m := by
      simp only [List.mem_cons, List.not_mem_nil, or_false, Prod.mk.injEq] at hc
      rcases hc with ⟨rfl, rfl⟩ | ⟨rfl, rfl⟩ | ⟨rfl, rfl⟩ | ⟨rfl, rfl⟩ | ⟨rfl, rfl⟩ | ⟨rfl, rfl⟩ | ⟨rfl, rfl⟩ | ⟨rfl, rfl⟩ | ⟨rfl, rfl⟩ <;>
        simp [aapRows]
    exact exec_served hs h0 (exec_row hrow) h

end

/-! ### The beginning of an action -/

/-- An action without input is recorded with the places of its objects as they are then (log 169). -/
theorem getFn_actBegin {s : State} (hc : canon s = true) {m : AapMsg} {f : Nat} {k : ActKind}
    (hk : k = .open ∨ k = .abandon ∨ k = .receipt ∨ k = .renew ∨ k = .reset) :
    (getFn (actBegin (answer s m .ok []) f k) f).actStatus = 1 ∧
    (getFn (actBegin (answer s m .ok []) f k) f).act =
      some { kind := k, outAddr := fnCfg s f 0x13, outCap := fnCfg s f 0x14, pasid := fnCfg s f 0x10 } := by
  obtain ⟨-, -, -, w, -⟩ := canon_tables hc
  obtain ⟨g, hg⟩ := answerAt_eq s m (if m.ver = 1 ∨ m.ver = 2 then m.ver else 2) .ok m.index m.sub []
  have e : actBegin (answer s m .ok []) f k = modFn { s with mgmt := g } f fun r => { r with
      actStatus := 1, act := some { kind := k, outAddr := fnCfg s f 0x13, outCap := fnCfg s f 0x14, pasid := fnCfg s f 0x10 } } := by
    unfold answer
    rw [hg]
    rcases hk with rfl | rfl | rfl | rfl | rfl <;> rfl
  have hget : getFn (actBegin (answer s m .ok []) f k) f = _ := e ▸ getFn_modFn (s := { s with mgmt := g }) w f _
  rw [hget]
  exact ⟨rfl, rfl⟩

/-! ### The completion -/

section
variable {s : State} {f : Nat}

/-- An action of no function is not completed. -/
theorem actionCompletion_none (h : (getFn s f).act = none) : actionCompletion f s = s := by
  simp only [actionCompletion, h, ite_self]

variable {a : ActJob} (hw : atWork s = true) (ha : (getFn s f).act = some a) (hr : a.reading = false) (ho : a.outst = 0) (hc : a.code = none)

include hw ha hr ho hc in
/-- With its input in hand an action fails, waits, or is carried out. -/
theorem actionCompletion_goes : actionCompletion f s =
    if a.err.isSome then actEnd s f 0x17 else if actWaits s a.kind then awaitSupply s else actRun s f a := by
  simp only [actionCompletion, coreUp_of_work hw, safe_of_work hw, ha, hr, ho, hc, Nat.lt_irrefl, decide_false, Bool.not_true, Bool.or_self,
    Bool.false_eq_true, ↓reduceIte]
  cases a.err <;> rfl

include hw ha hr ho hc in
theorem actionCompletion_runs (he : a.err = none) (hq : actWaits s a.kind = false) : actionCompletion f s = actRun s f a := by
  rw [actionCompletion_goes hw ha hr ho hc]
  simp only [he, hq, Option.isSome_none, Bool.false_eq_true, ↓reduceIte]

end

/-! ### What each action's first test that fails ends with -/

section
variable {s : State} {f : Nat} {b : Bytes}

/-- The count of a checked signature changes nothing that a test reads. -/
theorem countChecked_eq (s : State) (b : Bytes) (k : Nat) : ∃ c, countChecked s b k = { s with cnt := c } := by
  unfold countChecked
  split
  · exact ⟨s.cnt, rfl⟩
  · exact ⟨_, rfl⟩

theorem actSave_refused {e : Nat} (h : saveBad s f b = some e) : actSave s f b = actEnd (countChecked s b 1760) f e := by
  obtain ⟨c, hc⟩ := countChecked_eq s b 1760
  have h' : saveBad { s with cnt := c } f b = some e := h
  unfold actSave
  rw [hc]
  dsimp only
  rw [h']

theorem actSave_thawed (h : saveBad s f b = none) (hf : (getFn s f).state ≠ .frozen) :
    actSave s f b = actEnd (countChecked s b 1760) f 0x13 := by
  obtain ⟨c, hc⟩ := countChecked_eq s b 1760
  have h' : saveBad { s with cnt := c } f b = none := h
  unfold actSave
  rw [hc]
  dsimp only
  rw [h']
  exact if_pos hf

theorem actRestore_refused {e : Nat} {ses : Session} (h : restoreBad s f ses b = some e) :
    actRestore s f ses b = actEnd (countChecked s b (1952 + bodyLen b)) f e := by
  obtain ⟨c, hc⟩ := countChecked_eq s b (1952 + bodyLen b)
  have h' : restoreBad { s with cnt := c } f ses b = some e := h
  unfold actRestore
  rw [hc]
  dsimp only
  rw [h']

theorem actRelease_unsaved (h : (getFn s f).image = none) : actRelease s f b = actEnd s f 0x13 := by
  simp only [actRelease, h]

theorem actRelease_refused {e : Nat} {img : ImageRec} (hi : (getFn s f).image = some img) (h : releaseBad s f img b = some e) :
    actRelease s f b = actEnd (countChecked s b 136) f e := by
  obtain ⟨c, hc⟩ := countChecked_eq s b 136
  have h' : releaseBad { s with cnt := c } f img b = some e := h
  unfold actRelease
  rw [hi, hc]
  dsimp only
  rw [h']

theorem actCommit_refused {e : Nat} {ses : Session} (h : commitBad s f ses b = some e) :
    actCommit s f ses b = actEnd (countChecked s b 184) f e := by
  obtain ⟨c, hc⟩ := countChecked_eq s b 184
  have h' : commitBad { s with cnt := c } f ses b = some e := h
  unfold actCommit
  rw [hc]
  dsimp only
  rw [h']

theorem actAbandon_open (h : (getFn s f).mig = .opened) : actAbandon s f = actEnd (scrubSession s f) f 2 := by
  simp only [actAbandon, h, ↓reduceIte]

theorem actRenew_stopped (h1 : (getFn s f).state ≠ .running) (h2 : (getFn s f).state ≠ .quiesced) : actRenew s f = actEnd s f 0x13 := by
  simp only [actRenew, actAccepted, h1, h2, or_self, decide_false, ↓reduceIte]

theorem actRenew_unready (h : (getFn s f).state = .running ∨ (getFn s f).state = .quiesced)
    (hn : s.rng.state ≠ .running ∨ vaultReady s = false) : actRenew s f = actEnd s f 0x18 := by
  simp only [actRenew, actAccepted, h, decide_true, hn, Bool.true_eq_false, ↓reduceIte]

end

/-! ### The bound of a session -/

section
variable {s : State} {f : Nat}

theorem migOpenTimeout_scrubs (hw : atWork s = true) (hm : (getFn s f).mig = .opened) (hr : restoring s f = false) :
    migOpenTimeout f s = setFn s f { getFn s f with session := none, mig := .none } := by
  simp only [migOpenTimeout, coreUp_of_work hw, hm, hr, decide_true, Bool.not_false, Bool.and_self, ↓reduceIte]
  rfl

theorem migOpenTimeout_kept (h : (getFn s f).mig ≠ .opened ∨ restoring s f = true) : migOpenTimeout f s = s := by
  rcases h with h | h <;> simp [migOpenTimeout, h]

end

/-- Settles O54: the write of VE_ACTION, its completion by kind, and the bound of a session. -/
theorem actionsBeginAndComplete : Obligations.ActionsBeginAndComplete := by
  refine ⟨fun m n k s hs ha hk => ⟨fun c hc => ?_, fun hcanon hkind => getFn_actBegin hcanon hkind⟩, fun f s hw => ⟨fun h => ?_,
    fun a ha hr ho hc => ⟨fun st he => ?_, fun he hq => ?_, fun he hq => ?_⟩, fun hm hr => ?_, fun h => ?_⟩⟩
  · have e := exec_action hs ha hc
    rw [perform_action ha hk] at e
    refine ⟨fun err h => ?_, fun h hn => ?_, fun h hn => ?_⟩
    · rw [h] at e
      exact e.trans (fin_answerAt (t := s) hs.1 rfl rfl rfl _ _ _ _ _)
    · rw [h] at e
      have hst : actStart (answer s m .ok []) (m.index - 0x4000) k = actBegin (answer s m .ok []) (m.index - 0x4000) k := if_neg hn
      exact e.trans (congrArg fin hst)
    · rw [h] at e
      have hst : actStart (answer s m .ok []) (m.index - 0x4000) k =
        pumpAll (veReset (actBegin (answer s m .ok []) (m.index - 0x4000) k) (m.index - 0x4000)) := if_pos hn
      exact e.trans (congrArg fin hst)
  · exact (congrArg fin (actionCompletion_none h)).trans (fin_of_work hw rfl rfl rfl)
  · have e := actionCompletion_goes hw ha hr ho hc
    rw [he] at e
    exact congrArg fin e
  · have e := actionCompletion_goes hw ha hr ho hc
    rw [he, hq] at e
    exact congrArg fin e
  · have e := actionCompletion_runs hw ha hr ho hc he hq
    unfold actRun at e
    refine ⟨fun hk h => ?_, fun hk h => ?_, fun c hk h => ?_, fun hk h hf => ?_, fun c ses hk hses h => ?_, fun hk h => ?_,
      fun c img hk hi h => ?_, fun c ses hk hses h => ?_, fun hk h => ?_, fun hk h1 h2 => ?_, fun hk h hn => ?_⟩ <;> rw [hk] at e
    · exact congrArg fin (e.trans (if_pos h))
    · exact congrArg fin (e.trans (if_neg (by simp [h])))
    · exact congrArg fin (e.trans (actSave_refused h))
    · exact congrArg fin (e.trans (actSave_thawed h hf))
    · rw [hses] at e
      exact congrArg fin (e.trans (actRestore_refused h))
    · exact congrArg fin (e.trans (actRelease_unsaved h))
    · exact congrArg fin (e.trans (actRelease_refused hi h))
    · rw [hses] at e
      exact congrArg fin (e.trans (actCommit_refused h))
    · exact congrArg fin (e.trans (actAbandon_open h))
    · exact congrArg fin (e.trans (actRenew_stopped h1 h2))
    · exact congrArg fin (e.trans (actRenew_unready h hn))
  · exact (congrArg fin (migOpenTimeout_scrubs hw hm hr)).trans (fin_of_work hw rfl rfl rfl)
  · exact (congrArg fin (migOpenTimeout_kept h)).trans (fin_of_work hw rfl rfl rfl)

end Sys2Proof.Actions
end

section
/-!
SUPPORT. Step 12 of bring-up: the vault's incarnation and its updates.
-/

namespace Sys2Proof.VaultStep

open Sys2Proof Sys2Proof.Machine Sys2Proof.Safety Sys2Proof.Bring Sys2Proof.Neighbours Sys2Proof.Entropy Sys2Proof.Warm

section
variable {s : State}

/-- A new incarnation changes its value and the context keys. -/
theorem incarnate_eq (s : State) (b : Bytes) : ∃ t, incarnate s b = { s with vault := { s.vault with inc := ofLe b, fresh := false }, fns := t } :=
  foldl_modFn_eq _ (presentFns { s with vault := { s.vault with inc := ofLe b, fresh := false } }) _

/-- Step 12 is due as before once the incarnation is drawn. -/
theorem vaultDue_incarnate (h : vaultDue s = true) (r b : Bytes) :
    vaultDue (incarnate { s with rng := { s.rng with reserve := r } } b) = true := by
  obtain ⟨t, e⟩ := incarnate_eq { s with rng := { s.rng with reserve := r } } b
  rw [e]
  simp only [vaultDue, Bool.and_eq_true] at h ⊢
  exact ⟨h.1, rfl⟩

theorem drawInc_serves (hd : vaultDue s = true) (hf : s.vault.fresh = true) (hr : s.rng.state = .running) (hl : 8 ≤ s.rng.reserve.length)
    (hw : ∀ w ∈ s.rng.wires, 3 < wireClass w) :
    drawInc s = vaultOpen (incarnate { s with rng := { s.rng with reserve := s.rng.reserve.drop 8 } } (s.rng.reserve.take 8)) := by
  have ht : takeNow s 8 3 = some (takeReserve s 8) := if_pos ⟨hr, hl, by simpa using hw⟩
  have hn : ¬(!s.vault.fresh) = true := by simp [hf]
  unfold drawInc
  rw [ht]
  unfold giveInc
  exact (if_neg hn).trans (if_pos (vaultDue_incarnate hd _ _))

theorem drawInc_asks (hl : s.rng.reserve.length < 8) : drawInc s = askWire s .inc := by
  have ht : takeNow s 8 3 = none := if_neg fun h => absurd h.2.1 (Nat.not_le.mpr hl)
  unfold drawInc
  rw [ht]

theorem vaultBringup_idle (h : vaultDue s = false) : vaultBringup s = s := by
  simp only [vaultBringup, h, Bool.not_false, ↓reduceIte]

theorem vaultBringup_draws (hd : vaultDue s = true) (hb : vaultBase s ≠ 0) (hf : s.vault.fresh = true) : vaultBringup s = drawInc s := by
  simp only [vaultBringup, hd, hf, hb, ne_eq, not_false_eq_true, decide_true, Bool.and_self, Bool.not_true, Bool.false_eq_true, ↓reduceIte]

theorem vaultBringup_opens (hd : vaultDue s = true) (h : vaultBase s = 0 ∨ s.vault.fresh = false) : vaultBringup s = vaultOpen s := by
  have hn : ¬(s.vault.fresh && decide (vaultBase s ≠ 0)) = true := by
    rcases h with h | h <;> simp [h]
  simp only [vaultBringup, hd, hn, Bool.not_true, Bool.false_eq_true, ↓reduceIte]

/-! ### The updates of step 12 -/

/-- No function stands in a state that the tables do not show. -/
theorem fnsIn_nil {st : VeState} (h : ∀ e ∈ s.fns, e.2.state ≠ st) : fnsIn s st = [] := by
  simpa [fnsIn] using fun a b hm => h (a, b) hm

theorem drawMissing_of_none (h : ∀ e ∈ s.fns, ¬(e.2.state = .absent ∧ fnCfg s e.1 1 = 1)) (hk : ∀ f ∈ presentFns s, (getFn s f).ctxKey ≠ []) :
    drawMissing s = s := by
  have h1 : (presentFns s).filter (fun f => (getFn s f).ctxKey.isEmpty) = [] := by
    simpa [List.filter_eq_nil_iff] using hk
  have h2 : s.fns.filter (fun e => decide (e.1 ≠ 0 ∧ e.2.state = .absent ∧ fnCfg s e.1 1 = 1)) = [] := by
    rw [List.filter_eq_nil_iff]
    intro e he hc
    exact h e he (of_decide_eq_true hc).2
  unfold drawMissing
  rw [h1, h2]
  rfl

/-- With nothing left to do, step 12 makes no update. -/
theorem vaultTidy_of_none (hs : s.vault.slots = []) (hw : s.vault.writeBack = [])
    (hf : ∀ e ∈ s.fns, e.2.state = .running ∨ e.2.state = .quiesced ∨ (e.2.state = .absent ∧ fnCfg s e.1 1 ≠ 1))
    (hk : ∀ f ∈ presentFns s, (getFn s f).ctxKey ≠ []) : vaultTidy s = s := by
  have here {st : VeState} (h1 : st ≠ .running) (h2 : st ≠ .quiesced) (h3 : st ≠ .absent) : fnsIn s st = [] :=
    fnsIn_nil fun e he hst => by
      rcases hf e he with h | h | ⟨h, -⟩
      · exact h1 (hst.symm.trans h)
      · exact h2 (hst.symm.trans h)
      · exact h3 (hst.symm.trans h)
  have hback : writeBackCut s = s := by simp only [writeBackCut, hw, List.isEmpty_nil, ↓reduceIte]
  have her : erasingSlots s = [] := by simp only [erasingSlots, hs, List.filter_nil, List.map_nil]
  have hmiss : drawMissing s = s := by
    refine drawMissing_of_none (fun e he hc => ?_) hk
    rcases hf e he with h | h | ⟨-, h⟩
    · exact VeState.noConfusion (h.symm.trans hc.1)
    · exact VeState.noConfusion (h.symm.trans hc.1)
    · exact h hc.2
  unfold vaultTidy
  simp only [hback, her, List.foldl_nil, here (st := .frozen) (by decide) (by decide) (by decide),
    here (st := .restored) (by decide) (by decide) (by decide), here (st := .destroying) (by decide) (by decide) (by decide), hmiss]

end

/-- Settles O10: the command with an incarnation to draw, with none, and the updates of step 12. -/
theorem vaultBringupDrawsAnIncarnation : Obligations.VaultBringupDrawsAnIncarnation := by
  refine ⟨fun s hw hd => ⟨fun hb hf hr hl hws => ?_, fun hb hf hr hl => ?_, fun h => ?_⟩, fun s hs hw hf hk => vaultTidy_of_none hs hw hf hk,
    fun s hw hd => ?_⟩
  · obtain ⟨t, e⟩ := incarnate_eq { s with rng := { s.rng with reserve := s.rng.reserve.drop 8 } } (s.rng.reserve.take 8)
    refine ⟨congrArg fin ((vaultBringup_draws hd hb hf).trans (drawInc_serves hd hf hr hl hws)), ?_, ?_, ?_⟩ <;> rw [e]
  · refine (congrArg fin ((vaultBringup_draws hd hb hf).trans (drawInc_asks hl))).trans ?_
    obtain ⟨ws, e⟩ := askWire_eq s .inc
    rw [e]
    exact fin_of_work hw rfl rfl rfl
  · exact congrArg fin (vaultBringup_opens hd h)
  · exact (congrArg fin (vaultBringup_idle hd)).trans (fin_of_work hw rfl rfl rfl)

end Sys2Proof.VaultStep
end

section
/-!
SUPPORT. The self-tests of the units, and what follows a failed and a passed one.
-/

namespace Sys2Proof.SelfTest

open Sys2Proof Sys2Proof.Machine Sys2Proof.Safety Sys2Proof.Bring Sys2Proof.Neighbours Sys2Proof.Entropy Sys2Proof.Tables Sys2Proof.Warm

/-! ### Units and their sources -/

/-- The main source of a unit is a source of that unit. -/
theorem sourceUnit_mainSource : ∀ u < unitCount, sourceUnit (mainSource u) = some u ∧ mainSource u < 521 := by
  unfold unitCount
  decide +kernel

/-- A unit that is no cell with keys may always end its tests. -/
theorem mayEndTests_of_kind {s : State} {u : Nat} (hl : kindOf u ≠ .lane) (hp : kindOf u ≠ .pka) : mayEndTests s u = true := by
  unfold mayEndTests
  split
  · exact absurd ‹_› hl
  · exact absurd ‹_› hp
  · rfl

section
variable {s : State}

/-- A change of listed units reaches a unit that the list names. -/
theorem getUnit_foldl_modUnit (w : twf ({} : UnitRec) s.units = true) (g : UnitRec → UnitRec) {p : UnitRec → Prop} (hg : ∀ r, p (g r)) {u : Nat}
    {l : List Nat} (h : u ∈ l ∨ p (getUnit s u)) :
    twf ({} : UnitRec) (l.foldl (fun s x => modUnit s x g) s).units = true ∧ p (getUnit (l.foldl (fun s x => modUnit s x g) s) u) := by
  induction l generalizing s with
  | nil => exact ⟨w, h.resolve_left List.not_mem_nil⟩
  | cons x l ih =>
    refine ih (twf_tput _ _ _ _ w) ?_
    by_cases hx : u = x
    · subst hx
      right
      have e : getUnit (modUnit s u g) u = g (getUnit s u) := getUnit_setUnit s u _ w
      rw [e]
      exact hg _
    · have e : getUnit (modUnit s x g) u = getUnit s u := getUnit_setUnit_other s x u _ hx
      rw [e]
      exact h.imp_left fun hm => (List.mem_cons.mp hm).resolve_left hx

/-! ### A test that fails -/

theorem units_raiseSrc (s : State) (n : Nat) : (raiseSrc s n).units = s.units := rfl

theorem units_noneLeft (s : State) (u : Nat) : (noneLeft s u).units = s.units := by
  unfold noneLeft
  split
  · split <;> rfl
  · split <;> rfl

theorem gatedOnly_congr {x s t : State} (h : GatedOnly x s) (e : t.units = s.units) : GatedOnly x t := by
  unfold GatedOnly getUnit at *
  rw [e]
  exact h

/-- A leader that fails its test is retired. -/
theorem failTest_retires (w : twf ({} : UnitRec) s.units = true) {u : Nat} (ht : (getUnit s u).state = .selfTest) (hl : leaderOf s u = u) :
    (getUnit (failTest s u) u).state = .retired := by
  obtain ⟨w1, h1⟩ := getUnit_foldl_modUnit w (fun r => { r with state := .retired }) (p := fun r => r.state = .retired) (fun _ => rfl)
    (u := u) (l := u :: followers s u) (.inl List.mem_cons_self)
  have hg := gatedOnly_congr ((rehomeIdle_keeps (setUnitState s u .retired)).2 _ (gatedOnly_refl w1)) (units_noneLeft _ u)
  have hr : (getUnit (noneLeft (rehomeIdle (setUnitState s u .retired)) u) u).state = .retired := by
    obtain ⟨b, e⟩ := hg.2 u
    rw [e]
    exact h1
  unfold failTest
  rw [if_pos ht, hl]
  dsimp only
  split <;> exact hr

/-- A unit that no longer takes work is not fenced. -/
theorem fenceUnit_of_not_active {u : Nat} (h : (getUnit s u).state ≠ .active) : fenceUnit s u = s := by
  unfold fenceUnit
  split
  · exact absurd ‹_› h
  · rfl

theorem units_raiseOwn (s : State) : (raiseOwn s).units = s.units := by
  unfold raiseOwn raiseMsg
  split <;> rfl

theorem units_withdrawAll (s : State) : (withdrawAll s).units = s.units := by
  obtain ⟨_, _, e⟩ := withdrawAll_eq s
  rw [e]

theorem units_enterSafe (s : State) : (enterSafe s).units = s.units := by
  unfold enterSafe
  split
  · rfl
  · dsimp only
    rw [units_raiseOwn, units_withdrawAll]
    refine (congrArg Prod.fst (dropUpds_keeps _ _).1).trans ?_
    exact (foldl_field State.units (fun s c => modChan s c _) (fun _ _ => rfl) _ _).trans
      (foldl_field State.units (fun s n => modRing s n _) (fun _ _ => rfl) _ _)

theorem getUnit_congr {t : State} (e : t.units = s.units) (u : Nat) : getUnit t u = getUnit s u := by
  unfold getUnit
  rw [e]

theorem fenceUnit_of_retired {u : Nat} (h : (getUnit s u).state = .retired) : fenceUnit s u = s :=
  fenceUnit_of_not_active fun ha => UnitState.noConfusion (h.symm.trans ha)

theorem retired_fenceUnit {u : Nat} (h : (getUnit s u).state = .retired) : (getUnit (fenceUnit s u) u).state = .retired := by
  rw [fenceUnit_of_retired h]
  exact h

/-- The collector's reaction to a source of a unit leaves the unit retired. -/
theorem getUnit_react {u : Nat} (h : (getUnit s u).state = .retired) (was : Bool) (re : React) :
    (getUnit (match re with
      | .log => s
      | .notify => if was then s else raiseOwn s
      | .fence => fenceUnit (if was then s else raiseOwn s) u
      | .safe => enterSafe s) u).state = .retired := by
  have hn : (getUnit (if was then s else raiseOwn s) u).state = .retired := by
    cases was with
    | true => exact h
    | false => exact (congrArg UnitRec.state (getUnit_congr (units_raiseOwn s) u)).trans h
  cases re with
  | log => exact h
  | notify => exact hn
  | fence =>
    dsimp only
    rw [fenceUnit_of_retired hn]
    exact hn
  | safe => exact (congrArg UnitRec.state (getUnit_congr (units_enterSafe s) u)).trans h

/-- A port whose probe of the survey has failed is fenced. -/
def probed (s : State) (src : Nat) : State :=
  match probeFenced s src with
  | some u => fenceUnit { s with bring := { s.bring with probeFence := s.bring.probeFence.filter (· ≠ unitNo u) } } u
  | none => s

theorem retired_probed {u src : Nat} (hu : sourceUnit src = some u) (h : (getUnit s u).state = .retired) :
    (getUnit (probed s src) u).state = .retired := by
  unfold probed
  split
  · next v hv =>
    have hvu : v = u := by
      unfold probeFenced at hv
      rw [hu] at hv
      simp only [Option.ite_none_right_eq_some, Option.some.injEq] at hv
      exact hv.2.symm
    subst hvu
    exact retired_fenceUnit (s := { s with bring := _ }) h
  · exact h

/-- A source of a unit that takes no work leaves its record alone once its test has failed. -/
theorem getUnit_setSource {u src : Nat} (hs : s.safe = false) (hu : sourceUnit src = some u) (hb : src < 521)
    (hr : (getUnit (failTest { s with sticky := s.sticky ||| BitVec.ofNat 768 (2 ^ src) } u) u).state = .retired) (l : List Nat) :
    (getUnit (setSource l s src) u).state = .retired := by
  unfold setSource
  rw [if_neg (Nat.not_le.mpr hb)]
  dsimp only
  rw [if_neg (by simp [hs]), hu]
  dsimp only
  generalize failTest { s with sticky := s.sticky ||| BitVec.ofNat 768 (2 ^ src) } u = a at hr ⊢
  exact getUnit_react (s := probed a src) (retired_probed hu hr) _ _

end

/-! ### What leaves the units but their clock gates, and the store, alone -/

/-- Units stand as before but for their clock gates, and so does the persistent store. -/
def Eased (s t : State) : Prop := GatedOnly s t ∧ t.nv = s.nv

section
variable {x s : State}

theorem eased_congr {t : State} (h : Eased x s) (hu : t.units = s.units) (hn : t.nv = s.nv) : Eased x t :=
  ⟨gatedOnly_congr h.1 hu, hn.trans h.2⟩

theorem eased_foldl {α : Type} {g : State → α → State} (hg : ∀ s a, Eased x s → Eased x (g s a)) (l : List α) (h : Eased x s) :
    Eased x (l.foldl g s) := by
  induction l generalizing s with
  | nil => exact h
  | cons a l ih => exact ih (hg s a h)

theorem eased_ungate (h : Eased x s) (u : Nat) : Eased x (modUnit s u fun r => { r with gated := false }) :=
  ⟨gatedOnly_modUnit h.1 u false, h.2⟩

theorem noteWrite_keeps (s : State) (o : Own) : (noteWrite s o).units = s.units ∧ (noteWrite s o).nv = s.nv := by
  have hm (r : Nat) (g : Req → Req) : (modReq s r g).units = s.units ∧ (modReq s r g).nv = s.nv := by
    unfold modReq
    split <;> exact ⟨rfl, rfl⟩
  unfold noteWrite
  split
  · exact hm _ _
  · exact hm _ _
  · exact ⟨rfl, rfl⟩
  · exact ⟨rfl, rfl⟩
  · exact ⟨rfl, rfl⟩

theorem eased_issueOn (h : Eased x s) (b : Burst) (p k : Nat) : Eased x (issueOn s b p k) := by
  obtain ⟨hu, hn⟩ := noteWrite_keeps s b.own
  exact eased_ungate (eased_congr h hu hn) (unitAt .port p)

theorem eased_submit (h : Eased x s) (b : Burst) : Eased x (submit s b) := by
  unfold submit tryIssue
  split
  · exact h
  · split
    · next t ht =>
      split at ht
      · split at ht
        · exact absurd ht (Option.some_ne_none _).symm
        · split at ht
          · exact absurd ht (Option.some_ne_none _).symm
          · rw [← Option.some.inj ht]
            exact eased_issueOn h b _ _
      · exact absurd ht (Option.some_ne_none _).symm
    · exact h

theorem eased_probePort (h : Eased x s) (p : Nat) (v : Bool) : Eased x (probePort s p v) := eased_submit h _

theorem eased_askWire (h : Eased x s) (w : Wire) : Eased x (askWire s w) := by
  obtain ⟨ws, e⟩ := askWire_eq s w
  rw [e]
  exact h

theorem eased_afterRejoin (h : Eased x s) (u : Nat) : Eased x (afterRejoin s u) := by
  unfold afterRejoin
  split
  · dsimp only
    split
    · refine eased_probePort ?_ _ _
      exact eased_congr h rfl rfl
    · exact eased_congr h rfl rfl
  · split
    · exact eased_askWire h _
    · exact h
  · exact h

theorem eased_rehouse (h : Eased x s) (e : CacheEnt) : Eased x (rehouse s e) := by
  have hm (b i : Nat) : Eased x (makeRoom s b i) := by
    unfold makeRoom
    split
    · exact h
    · exact eased_congr h rfl rfl
  have hc (t : State) (c : List CacheEnt) (ht : Eased x t) : Eased x { t with cache := c } := eased_congr ht rfl rfl
  unfold rehouse
  extract_lets e
  split
  · split
    · exact hc _ _ (eased_ungate (hm _ _) _)
    · exact hc _ _ h
  · exact hc _ _ h

theorem eased_rebank (h : Eased x s) : Eased x (rebank s) :=
  eased_foldl (fun _ e h => eased_rehouse h e) _ (eased_congr h rfl rfl)

theorem eased_rehomeIdle (h : Eased x s) : Eased x (rehomeIdle s) := by
  obtain ⟨⟨u, c, e⟩, hg⟩ := rehomeIdle_keeps s
  refine ⟨hg x h.1, ?_⟩
  rw [e]
  exact h.2

end

/-! ### A readmission -/

section
variable {s : State} {u : Nat}

/-- The units that a readmission takes back, in their order. -/
def readmitted (s : State) (u : Nat) : List Nat := u :: (followers s u).filter fun x => decide ((getUnit s x).state = .selfTest)

/-- The leader's record with its jubilee counted. -/
def jubilated (s : State) (u : Nat) : State :=
  { modUnit s u fun r => { r with jubilee := r.jubilee + 1, readmits := r.readmits ++ [s.pins.cycles] } with
    nv := { s.nv with jubDirty := true } }

/-- A unit is not among its followers. -/
theorem not_mem_followers (s : State) (u : Nat) : u ∉ followers s u := by
  unfold followers insideOf
  split <;> simp

theorem getUnit_rejoin_other {v : Nat} (h : u ≠ v) : getUnit (rejoin s v) u = getUnit s u := getUnit_setUnit_other s v u _ h

theorem getUnit_foldl_rejoin_other {l : List Nat} (h : u ∉ l) (s : State) : getUnit (l.foldl rejoin s) u = getUnit s u := by
  induction l generalizing s with
  | nil => rfl
  | cons v l ih =>
    rw [List.mem_cons, not_or] at h
    exact (ih h.2 _).trans (getUnit_rejoin_other h.1)

theorem twf_foldl_rejoin (w : twf ({} : UnitRec) s.units = true) (l : List Nat) : twf ({} : UnitRec) (l.foldl rejoin s).units = true := by
  induction l generalizing s with
  | nil => exact w
  | cons v l ih => exact ih (twf_tput _ _ _ _ w)

theorem nv_foldl_rejoin (l : List Nat) (s : State) : (l.foldl rejoin s).nv = s.nv := foldl_field State.nv rejoin (fun _ _ => rfl) l s

/-- A readmission with its jubilee: the units rejoin, and nothing but gates and places of work follows. -/
theorem readmit_eased (w : twf ({} : UnitRec) s.units = true) (hj : (getUnit s u).noJub = false) :
    Eased ((readmitted s u).foldl rejoin (jubilated s u)) (readmit s u) := by
  have wj : twf ({} : UnitRec) (jubilated s u).units = true := twf_tput _ _ _ _ w
  have h0 : Eased ((readmitted s u).foldl rejoin (jubilated s u)) ((readmitted s u).foldl rejoin (jubilated s u)) :=
    ⟨gatedOnly_refl (twf_foldl_rejoin wj _), rfl⟩
  have h1 := eased_rebank (eased_rehomeIdle (eased_foldl (fun _ v h => eased_afterRejoin h v) (readmitted s u) h0))
  have e : readmit s u = rebank (rehomeIdle ((readmitted s u).foldl afterRejoin ((readmitted s u).foldl rejoin (jubilated s u)))) := by
    unfold readmit
    dsimp only
    rw [if_neg (by simp [hj])]
    rfl
  rw [e]
  exact h1

/-- What the leader's record holds then. -/
theorem getUnit_readmitted :
    getUnit ((readmitted s u).foldl rejoin (jubilated s u)) u = getUnit (rejoin (jubilated s u) u) u := by
  have hn : u ∉ (followers s u).filter fun x => decide ((getUnit s x).state = .selfTest) :=
    fun h => not_mem_followers s u (List.mem_filter.mp h).1
  exact getUnit_foldl_rejoin_other hn _

theorem mayEndTests_jubilated (w : twf ({} : UnitRec) s.units = true) : mayEndTests (jubilated s u) u = mayEndTests s u := by
  have hg : getUnit (jubilated s u) u = { getUnit s u with
      jubilee := (getUnit s u).jubilee + 1, readmits := (getUnit s u).readmits ++ [s.pins.cycles] } := getUnit_setUnit s u _ w
  have hk : (getUnit (jubilated s u) u).kat = (getUnit s u).kat := by rw [hg]
  unfold mayEndTests
  split
  · rfl
  · rw [hk]
    rfl
  · rfl

theorem readmit_record (w : twf ({} : UnitRec) s.units = true) (hj : (getUnit s u).noJub = false) :
    (getUnit (readmit s u) u).state = (if unitCmd s u = 1 then .outOfService else .active) ∧
    (getUnit (readmit s u) u).jubilee = (getUnit s u).jubilee + 1 ∧ (readmit s u).nv.jubDirty = true ∧
    (getUnit (readmit s u) u).tested = mayEndTests s u := by
  have wj : twf ({} : UnitRec) (jubilated s u).units = true := twf_tput _ _ _ _ w
  obtain ⟨⟨-, hu⟩, hn⟩ := readmit_eased w hj
  obtain ⟨b, e⟩ := hu u
  have hr : getUnit (rejoin (jubilated s u) u) u = _ := getUnit_setUnit _ u _ wj
  have hjub : getUnit (jubilated s u) u = _ := getUnit_setUnit s u _ w
  rw [getUnit_readmitted, hr] at e
  have hnv : (readmit s u).nv.jubDirty = true := by rw [hn, nv_foldl_rejoin]; rfl
  rw [e]
  exact ⟨rfl, congrArg UnitRec.jubilee hjub, hnv, mayEndTests_jubilated w⟩

end

/-! ### The command -/

section
variable {s : State} {u : Nat} (hw : atWork s = true) (hu : u < unitCount)

include hw hu in
theorem exec_unitTested {x : State} {pass : Bool} (h : unitTested s u pass = x) :
    exec (.selfTestEnd (.unit u) pass) s = .next (settle (collect (bringAdvance (pumpAll x)))) := by
  have e : selfTestEnd (.unit u) pass s = bringAdvance (pumpAll x) := by
    simp only [selfTestEnd, coreUp_of_work hw, Bool.not_true, Bool.false_eq_true, ↓reduceIte, hu, h]
  exact congrArg fin e

theorem unitTested_inService (ha : (getUnit s u).state = .active) (ht : (getUnit s u).tested = false) (pass : Bool) :
    unitTested s u pass = if !pass then raiseSrc s (mainSource u)
      else if mayEndTests s u then alarmOver (modUnit s u fun r => { r with tested := true, kat := false }) else s := by
  simp only [unitTested, ha, ht, and_self, ↓reduceIte]

include hw in
theorem unitTested_fenced (ht : (getUnit s u).state = .selfTest) (pass : Bool) :
    unitTested s u pass = if !pass then raiseSrc s (mainSource u) else if leaderOf s u = u then alarmOver (readmit s u) else s := by
  have hn : ¬((getUnit s u).state = .active ∧ (getUnit s u).tested = false) := fun h => UnitState.noConfusion (ht.symm.trans h.1)
  unfold unitTested
  exact (if_neg hn).trans (if_pos ⟨ht, safe_of_work hw⟩)

end

/-- Settles O18: units in service, units that were fenced, and the readmission. -/
theorem selfTestReadmitsAUnit : Obligations.SelfTestReadmitsAUnit := by
  intro u s hw hc hu
  obtain ⟨w, -⟩ := canon_tables hc
  refine ⟨mayEndTests_of_kind, fun ha ht => ⟨fun hm => ?_, fun hm => ?_, ?_⟩, fun ht => ⟨?_, fun hl l => ?_, fun hl => ?_, fun hl => ?_,
    fun hl hj => ?_⟩⟩
  · exact exec_unitTested hw hu ((unitTested_inService ha ht true).trans (if_pos hm))
  · exact exec_unitTested hw hu ((unitTested_inService ha ht true).trans (if_neg (Bool.eq_false_iff.mp hm)))
  · exact exec_unitTested hw hu (unitTested_inService ha ht false)
  · exact exec_unitTested hw hu (unitTested_fenced hw ht false)
  · obtain ⟨h1, h2⟩ := sourceUnit_mainSource u hu
    exact getUnit_setSource (safe_of_work hw) h1 h2
      (failTest_retires (s := { s with sticky := s.sticky ||| BitVec.ofNat 768 (2 ^ mainSource u) }) w ht hl) l
  · exact exec_unitTested hw hu ((unitTested_fenced hw ht true).trans (if_pos hl))
  · exact exec_unitTested hw hu ((unitTested_fenced hw ht true).trans (if_neg hl))
  · obtain ⟨h1, h2, h3, h4⟩ := readmit_record w hj
    exact ⟨h1, h2, h3, fun _ => h4⟩

end Sys2Proof.SelfTest
end

section
/-!
SUPPORT. The idle step: a cycle passes.
-/

namespace Sys2Proof.Idle

open Sys2Proof Sys2Proof.Machine Sys2Proof.Safety Sys2Proof.Bring Sys2Proof.Neighbours Sys2Proof.Tables Sys2Proof.Warm

/-- The state once the cycle is counted and each port has given its message. -/
def passed (s : State) : State := handOver (tick s)

theorem step_idle {s : State} (h : s.pending = []) :
    step s = .next (settle (collect (bringWatch (lcReset (lcDrainOver (drainsOver (passed s))))))) := by
  simp only [step, h]
  rfl

/-! ### What is not due -/

section
variable {s : State}

theorem drainsOver_of_none (w : twf ({} : UnitRec) s.units = true) (h : ∀ u, (getUnit s u).draining = true → unitQuiet s u = false) :
    drainsOver s = s := by
  have hn : s.units.filter (fun e => e.2.draining && unitQuiet s e.1) = [] := by
    rw [List.filter_eq_nil_iff]
    intro e he hd
    rw [Bool.and_eq_true] at hd
    have hne : e.2 ≠ ({} : UnitRec) := fun h0 => by rw [h0] at hd; exact Bool.false_ne_true hd.1
    have hg : getUnit s e.1 = e.2 := (Erasures.mem_iff_tget hne s.units 0 w).mp he
    exact Bool.false_ne_true ((h e.1 (hg ▸ hd.1)).symm.trans hd.2)
  unfold drainsOver
  rw [hn]
  rfl

/-- The one unit whose drain is over goes out of service. -/
theorem drainsOver_of_one (w : twf ({} : UnitRec) s.units = true) {u : Nat} (hd : (getUnit s u).draining = true) (hq : unitQuiet s u = true)
    (h : ∀ v, v ≠ u → (getUnit s v).draining = true → unitQuiet s v = false) : drainsOver s = takeDown s u .outOfService := by
  have hne {e : UnitRec} (hd : e.draining = true) : e ≠ ({} : UnitRec) := fun h0 => by rw [h0] at hd; exact Bool.false_ne_true hd
  have hl : (s.units.filter fun e => e.2.draining && unitQuiet s e.1).map Prod.fst = [u] := by
    rw [← List.perm_singleton]
    refine (List.perm_ext_iff_of_nodup (List.Nodup.sublist (List.Sublist.map _ List.filter_sublist) (keys_nodup w))
      (List.nodup_singleton u)).mpr fun v => ?_
    simp only [List.mem_map, List.mem_filter, Bool.and_eq_true, List.mem_singleton]
    constructor
    · rintro ⟨e, ⟨he, hde, hqe⟩, rfl⟩
      have hg : getUnit s e.1 = e.2 := (Erasures.mem_iff_tget (hne hde) s.units 0 w).mp he
      by_contra hv
      exact Bool.false_ne_true ((h e.1 hv (hg ▸ hde)).symm.trans hqe)
    · rintro rfl
      exact ⟨(v, getUnit s v), ⟨(Erasures.mem_iff_tget (hne hd) s.units 0 w).mpr rfl, hd, hq⟩, rfl⟩
  unfold drainsOver
  rw [hl]
  exact if_pos hd

theorem lcDrainOver_of_none (h : s.life.draining = false) : lcDrainOver s = s := by
  simp only [lcDrainOver, lcDrained, h, Bool.false_and, Bool.false_eq_true, ↓reduceIte]

theorem lcDrainOver_of_over (hw : atWork s = true) (hd : lcDrained s = true) (hq : lcQuiet s = true) : lcDrainOver s = lcDestroy s := by
  simp only [lcDrainOver, hd, hq, coreUp_of_work hw, safe_of_work hw, Bool.not_false, Bool.and_self, ↓reduceIte]

theorem lcReset_of_none (h : s.life.busy = false) : lcReset s = s := by
  simp only [lcReset, h, Bool.false_and, Bool.false_eq_true, ↓reduceIte]

/-- The vault's step 12 is over. -/
def VaultOver (s : State) : Prop :=
  s.bring.vaultDone = true ∧ s.vault.ready = false ∧ s.vault.fresh = false ∧ s.vault.updates = [] ∧
    (∀ e ∈ s.fns, e.2.state ≠ .destroying) ∧ ∀ w ∈ s.rng.wires, w ≠ .inc ∧ ∀ f, w ≠ .ctx f

theorem noteVault_due (hc : coreUp s = true) : ((coreUp s && s.bring.vaultDone && !s.vault.ready && !s.vault.fresh && s.vault.updates.isEmpty &&
      (s.fns.all fun e => decide (e.2.state ≠ .destroying)) && !(s.rng.wires.any fun w => match w with | .inc | .ctx _ => true | _ => false)) =
      true) ↔ VaultOver s := by
  have hwires : (s.rng.wires.any fun w => match w with | .inc | .ctx _ => true | _ => false) = false ↔
      ∀ w ∈ s.rng.wires, w ≠ .inc ∧ ∀ f, w ≠ .ctx f := by
    rw [List.any_eq_false]
    refine forall₂_congr fun w _ => ?_
    cases w <;> simp
  simp only [VaultOver, hc, Bool.true_and, Bool.and_eq_true, Bool.not_eq_true', List.isEmpty_iff, List.all_eq_true, decide_eq_true_eq,
    hwires, and_assoc]

theorem noteVault_of_none (hc : coreUp s = true) (h : ¬VaultOver s) : noteVault s = s := if_neg (fun hd => h ((noteVault_due hc).mp hd))

theorem noteVault_of_over (hc : coreUp s = true) (h : VaultOver s) : noteVault s = { s with vault := { s.vault with ready := true } } :=
  if_pos ((noteVault_due hc).mpr h)

theorem noteReady_of_none (h : ¬(s.bring.bringupNs = 0 ∧ readyMask s none = 255)) : noteReady s = s := by
  simp only [noteReady, h, decide_false, Bool.and_false, Bool.false_eq_true, ↓reduceIte]

theorem noteReady_of_due (hc : coreUp s = true) (h : s.bring.bringupNs = 0 ∧ readyMask s none = 255) :
    noteReady s = { s with bring := { s.bring with bringupNs := sinceReset s } } := by
  simp only [noteReady, h, hc, and_self, decide_true, Bool.and_self, ↓reduceIte]

theorem noteNormal_of_fixed (h : s.bring.fixed = false) : noteNormal s = s := by
  simp only [noteNormal, h, Bool.and_false, Bool.false_and, Bool.false_eq_true, ↓reduceIte]

/-- Once the regime has left FIXED a cycle that completes READY takes the time and no more. -/
theorem timed_of_fixed (hc : coreUp s = true) (h : s.bring.bringupNs = 0 ∧ readyMask s none = 255) (hf : s.bring.fixed = false) :
    noteNormal (noteReady s) = { s with bring := { s.bring with bringupNs := sinceReset s } } := by
  rw [noteReady_of_due hc h]
  exact noteNormal_of_fixed hf

/-- The regime may leave FIXED. -/
def NormalDue (s : State) : Prop :=
  s.bring.fixed = true ∧ (readyWord s).testBit 8 = true ∧ (readyWord s).testBit 9 = true ∧ ∀ u ∈ allUnits, testsOver s u = true

theorem noteNormal_due (hc : coreUp s = true) :
    ((coreUp s && s.bring.fixed && (readyWord s).testBit 8 && (readyWord s).testBit 9 && allUnits.all (testsOver s)) = true) ↔ NormalDue s := by
  simp only [NormalDue, hc, Bool.true_and, Bool.and_eq_true, List.all_eq_true, and_assoc]

theorem noteNormal_of_none (hc : coreUp s = true) (h : ¬NormalDue s) : noteNormal s = s := if_neg (fun hd => h ((noteNormal_due hc).mp hd))

theorem noteNormal_of_due (hc : coreUp s = true) (h : NormalDue s) :
    noteNormal s = applyEnables (raiseOwn { s with bring := { s.bring with fixed := false } }) := if_pos ((noteNormal_due hc).mpr h)

/-- Once the vault is ready readiness leaves it so. -/
theorem vault_noteNormal_noteReady (s : State) : (noteNormal (noteReady s)).vault = s.vault := by
  have h1 : (noteReady s).vault = s.vault := by
    unfold noteReady
    split <;> rfl
  refine Eq.trans ?_ h1
  generalize noteReady s = x
  unfold noteNormal
  split
  · obtain ⟨f, i, h⟩ := fnsIrq_trans (fnsIrq_raiseMsg _ _ _ _) (fnsIrq_applyEnables (raiseOwn { x with bring := { x.bring with fixed := false } }))
    rw [h]
  · rfl

end

/-! ### Step 9 of a transition -/

section
variable {s : State}

/-- With no update under way the end of work touches transactions, interrupts, the functions' held bits and the vault's notes alone. -/
theorem ended_of_noUpdates (h : s.vault.updates = []) : ∃ tx bu q f v, ended s =
    { s with txns := tx, bursts := bu, irq := q, fns := f, vault := v } ∧ v.updates = [] := by
  unfold ended
  generalize hx : noteUnnamed { s with txns := s.txns.map fun t => match t.own with | .vupd | .vupdR _ => t | _ => { t with cut := true } } = x
  have hu : x.vault.updates = [] := by rw [← hx]; exact h
  rw [dropUpds_of_none hu]
  generalize hz : disown x _ = z
  obtain ⟨q, f, e⟩ := withdrawAll_eq z
  rw [e, ← hz, ← hx]
  exact ⟨_, _, _, _, _, rfl, h⟩

/-- The warm reset of step 9: what it leaves of the core domains. -/
theorem warmReset_of_noUpdates (hok : TablesOk s) (h : s.vault.updates = []) : ∃ x, warmReset s = x ∧
    x.reqs = [] ∧ x.chains = [] ∧ x.life.busy = false ∧ x.bring = {} ∧ x.sticky = s.sticky ∧ x.rng.advents = s.rng.advents ∧
    x.pins = { s.pins with quiescent := true } ∧ x.safe = false ∧ x.raised = [] := by
  have hokw : TablesOk (warmCore (ended s)) := (ended_keeps hok).2
  obtain ⟨tx, bu, q, f0, v, e0, hv⟩ := ended_of_noUpdates h
  obtain ⟨f, r, c, e1, -⟩ := restored_eq hokw
  obtain ⟨⟨u, c', e2⟩, -⟩ := rehomeIdle_keeps (restored (warmCore (ended s)))
  obtain ⟨a, e3⟩ := alarmOver_eq (holdWarm (rehomeIdle (restored (warmCore (ended s)))))
  have hr : runningUpd (ended s) = [] := by
    rw [e0]
    simp only [runningUpd, hv, List.take_nil, List.filter_nil, List.map_nil]
  have hs : (ended s).sticky = s.sticky := by rw [e0]
  have ha : (ended s).rng.advents = s.rng.advents := by rw [e0]
  have hp : { (ended s).pins with quiescent := (runningUpd (ended s)).isEmpty } = { s.pins with quiescent := true } := by
    rw [hr, e0]
    rfl
  refine ⟨_, rfl, ?_⟩
  rw [warmReset_eq, e3, e2, e1]
  exact ⟨rfl, rfl, rfl, rfl, hs, ha, hp, rfl, rfl⟩

/-- Step 9 comes once the COMMIT has been answered and its answer has left. -/
theorem lcReset_of_due (hw : atWork s = true) (hb : s.life.busy = true) (hp : s.life.phase = .done) (hm : s.mgmt.waiting = none)
    (ho : s.mgmt.mo = []) : lcReset s = tryBegin { warmReset s with pins := { (warmReset s).pins with resetAt := (warmReset s).pins.cycles } } := by
  simp only [lcReset, hb, hp, hm, ho, coreUp_of_work hw, safe_of_work hw, decide_true, Option.isNone_none, List.isEmpty_nil, Bool.not_false,
    Bool.and_self, ↓reduceIte]

theorem settle_up {x : State} (hp : x.pins.poRstLow = false) (hb : x.pins.blkRstLow = false) (hs : x.safe = false) : settle x = drivePins x := by
  have h1 : (drivePins x).pins.blkRstLow = false := hb
  have h2 : (drivePins x).safe = false := hs
  simp only [settle, hp, h1, h2, Bool.false_eq_true, ↓reduceIte]

/-- Work has ended, and bring-up and Advent have begun. -/
structure Restarted (s t : State) : Prop where
  busy : t.life.busy = false
  reqs : t.reqs = []
  chains : t.chains = []
  resetAt : t.pins.resetAt = s.pins.cycles
  begun : t.bring.begun = true
  advent : t.rng.state = .advent
  advents : t.rng.advents = s.rng.advents + 1
  sticky : t.sticky = s.sticky

/-- Step 9 ends the work and begins bring-up and Advent. -/
theorem lcReset_restarts (hw : atWork s = true) (hok : TablesOk s) (hu : s.vault.updates = []) (hb : s.life.busy = true)
    (hp : s.life.phase = .done) (hm : s.mgmt.waiting = none) (ho : s.mgmt.mo = []) :
    Restarted s (lcReset s) ∧ (lcReset s).pins.poRstLow = false ∧ (lcReset s).pins.blkRstLow = false ∧ (lcReset s).safe = false ∧
      (lcReset s).raised = [] := by
  obtain ⟨x, ex, hreq, hch, hbusy, hbr, hst, hadv, hpin, hsafe, hraise⟩ := warmReset_of_noUpdates hok hu
  obtain ⟨ha, -⟩ := atWork_spec hw
  obtain ⟨hpo, hblk, -⟩ := (awake_spec s).1 ha
  have e := lcReset_of_due hw hb hp hm ho
  rw [ex] at e
  have hpo' : x.pins.poRstLow = false := by rw [hpin]; exact hpo
  have hblk' : x.pins.blkRstLow = false := by rw [hpin]; exact hblk
  have hcyc : x.pins.cycles = s.pins.cycles := by rw [hpin]
  obtain ⟨u, r, e1, hr1, -, hr2⟩ := adventBegin_eq
    { x with pins := { x.pins with resetAt := x.pins.cycles }, bring := { x.bring with begun := true } } false
  have hgo : ¬((x.pins.poRstLow || x.pins.blkRstLow || !x.pins.quiescent || x.bring.begun) = true) := by
    have hqu : x.pins.quiescent = true := by rw [hpin]
    have hbe : x.bring.begun = false := by rw [hbr]
    simp [hpo', hblk', hqu, hbe]
  rw [e.trans ((if_neg hgo).trans e1)]
  exact ⟨⟨hbusy, hreq, hch, hcyc, rfl, hr1, hr2.trans (congrArg (· + 1) hadv), hst⟩, hpo', hblk', hsafe, hraise⟩

/-- Readiness and the end of the command leave that. -/
theorem restarted_watched {y : State} (h : Restarted s y) (hp : y.pins.poRstLow = false) (hb : y.pins.blkRstLow = false) (hs : y.safe = false)
    (hr : y.raised = []) : Restarted s (settle (collect (bringWatch y))) := by
  obtain ⟨f, i, v, n, b, e⟩ := bringWatch_eq y
  have hw : Restarted s (bringWatch y) := by
    rw [e]
    exact ⟨h.busy, h.reqs, h.chains, h.resetAt, h.begun, h.advent, h.advents, h.sticky⟩
  obtain ⟨wp, ws, wr, -⟩ := bringWatch_frame y
  generalize bringWatch y = z at hw wp ws wr
  rw [collect_of_quiet z (wr.trans hr), settle_up (by rw [wp]; exact hp) (by rw [wp]; exact hb) (ws.trans hs)]
  exact ⟨hw.busy, hw.reqs, hw.chains, hw.resetAt, hw.begun, hw.advent, hw.advents, hw.sticky⟩

end

/-! ### While PO_RST_N is low -/

section
variable {s : State}

theorem coreUp_of_poLow (h : s.pins.poRstLow = true) : coreUp s = false := by simp [coreUp, h]

theorem bringWatch_of_down (h : coreUp s = false) : bringWatch s = s := by
  have h1 : noteVault s = s := by simp only [noteVault, h, Bool.false_and, Bool.false_eq_true, ↓reduceIte]
  have h2 : noteReady s = s := by simp only [noteReady, h, Bool.false_and, Bool.false_eq_true, ↓reduceIte]
  have h3 : noteNormal s = s := by simp only [noteNormal, h, Bool.false_and, Bool.false_eq_true, ↓reduceIte]
  rw [bringWatch, h1, h2, h3]

/-- A block in power-on reset stays as it is (R300). -/
theorem step_idle_poLow (hp : s.pending = []) (h : s.pins.poRstLow = true) (hi : s = poImage s) : step s = .next s := by
  have hu : (passed s).units = [] := congrArg State.units hi
  have hr : (passed s).raised = [] := congrArg State.raised hi
  have hc : coreUp (passed s) = false := coreUp_of_poLow h
  have h1 : drainsOver (passed s) = passed s := by simp only [drainsOver, hu, List.filter_nil, List.map_nil, List.foldl_nil]
  have h2 : lcDrainOver (passed s) = passed s := by simp only [lcDrainOver, hc, Bool.and_false, Bool.false_and, Bool.false_eq_true, ↓reduceIte]
  have h3 : lcReset (passed s) = passed s := by simp only [lcReset, hc, Bool.and_false, Bool.false_eq_true, ↓reduceIte]
  rw [step_idle hp, h1, h2, h3, bringWatch_of_down hc, collect_of_quiet _ hr, settle_poLow (passed s) h]
  exact congrArg Host.Outcome.next hi.symm

end

/-! ### The block at work -/

section
variable {s : State} (hw : atWork s = true)

include hw in
theorem atWork_passed : atWork (passed s) = true := hw

theorem canon_passed (h : canon s = true) : canon (passed s) = true := h

include hw in
/-- A cycle that ends with no reaction of the collector. -/
theorem settled {x : State} (hp : x.pins = (passed s).pins) (hq : x.safe = (passed s).safe) (hr : x.raised = (passed s).raised) :
    settle (collect x) = x := by
  have e := fin_of_work (atWork_passed hw) hp hq hr
  exact Host.Outcome.next.inj e

end

/-- Settles O2: in power-on reset, and at work by what is due in the cycle. -/
theorem idleStepLetsACyclePass : Obligations.IdleStepLetsACyclePass := by
  refine ⟨fun s hp h hi => step_idle_poLow hp h hi, fun s hp hw hcan => ?_⟩
  have hs := step_idle hp
  have hwy : atWork (passed s) = true := atWork_passed hw
  have hc : coreUp (passed s) = true := coreUp_of_work hwy
  obtain ⟨wu, wr, wc, wf, -⟩ := canon_tables (canon_passed hcan)
  have quiet (h : (∀ u, (getUnit (passed s) u).draining = true → unitQuiet (passed s) u = false) ∧ s.life.draining = false ∧
      s.life.busy = false) : step s = .next (settle (collect (bringWatch (passed s)))) := by
    obtain ⟨hd, hl, hb⟩ := h
    rw [drainsOver_of_none wu hd, lcDrainOver_of_none (s := passed s) hl, lcReset_of_none (s := passed s) hb] at hs
    exact hs
  refine ⟨fun hq hv ht hn => ?_, fun hq hv => ?_, fun hq hv ht hf => ?_, fun hq hv ht hn => ?_, fun u hd hq h => ?_, fun hd hl hq => ?_,
    fun hd hl hb hph hm ho hu => ?_⟩
  · rw [quiet hq, bringWatch, noteVault_of_none hc hv, noteReady_of_none (s := passed s) ht, noteNormal_of_none hc hn, settled hw rfl rfl rfl]
    rfl
  · have e1 := noteVault_of_over (s := passed s) hc hv
    obtain ⟨wp, ws, wr, -⟩ := bringWatch_frame (passed s)
    refine ⟨bringWatch (passed s), by rw [quiet hq, settled hw wp ws wr], ?_, congrArg Pins.cycles wp⟩
    rw [bringWatch, vault_noteNormal_noteReady, e1]
  · rw [quiet hq, bringWatch, noteVault_of_none hc hv, timed_of_fixed (s := passed s) hc ht hf]
    refine congrArg Host.Outcome.next ?_
    exact settled hw rfl rfl rfl
  · rw [quiet hq, bringWatch, noteVault_of_none hc hv, noteReady_of_none (s := passed s) ht, noteNormal_of_due hc hn]
    rfl
  · rw [hs, drainsOver_of_one wu hd hq h]
    rfl
  · rw [hs, drainsOver_of_none wu hd, lcDrainOver_of_over hwy hl hq]
    rfl
  · obtain ⟨h, h1, h2, h3, h4⟩ := lcReset_restarts hwy ⟨wr, wc, wf⟩ hu hb hph hm ho
    have t := restarted_watched h h1 h2 h3 h4
    rw [drainsOver_of_none wu hd, lcDrainOver_of_none (s := passed s) hl] at hs
    exact ⟨_, hs, t.busy, t.reqs, t.chains, t.resetAt, t.begun, t.advent, t.advents, t.sticky⟩

end Sys2Proof.Idle
end

section
/-!
SUPPORT. What a fence does, by the kind of its unit, and where its work and its rings, channels and key entries go.
-/

namespace Sys2Proof.Fence

open Sys2Proof Sys2Proof.Machine Sys2Proof.Safety Sys2Proof.Bring Sys2Proof.Neighbours Sys2Proof.Tables Sys2Proof.Warm Sys2Proof.SelfTest

/-! ### Which units take work -/

section
variable {s t : State}

theorem ownActive_of_states (h : ∀ x, (getUnit t x).state = (getUnit s x).state) : ownActive t = ownActive s := by
  funext u
  unfold ownActive
  rw [h u]

/-- Whether units take work depends on the units' states alone. -/
theorem up_of_states (h : ∀ x, (getUnit t x).state = (getUnit s x).state) :
    active t = active s ∧ groupUp t = groupUp s ∧ regionUp t = regionUp s := by
  have ho := ownActive_of_states h
  have hg : groupUp t = groupUp s := by
    funext g
    unfold groupUp groupDerived
    rw [ho]
  have hr : regionUp t = regionUp s := by
    funext m
    unfold regionUp regionDerived
    rw [ho, hg]
  refine ⟨?_, hg, hr⟩
  funext u
  unfold active
  rw [ho, hg, hr]

theorem states_of_gatedOnly (h : GatedOnly s t) (x : Nat) : (getUnit t x).state = (getUnit s x).state := by
  obtain ⟨b, e⟩ := h.2 x
  rw [e]

theorem active_of_gatedOnly (h : GatedOnly s t) : active t = active s := (up_of_states (states_of_gatedOnly h)).1

theorem not_active_of_state {u : Nat} (h : (getUnit t u).state ≠ .active) : active t u = false := by
  unfold active ownActive
  simp [h]

/-- Whether a mover takes channels depends on nothing but states and drains. -/
theorem movOpen_of_gatedOnly (h : GatedOnly s t) : movOpen t = movOpen s := by
  have hd (x : Nat) : (getUnit t x).draining = (getUnit s x).draining := by
    obtain ⟨b, e⟩ := h.2 x
    rw [e]
  funext m
  unfold movOpen
  rw [active_of_gatedOnly h, hd, hd, hd]

end

/-! ### The unit and what it contains -/

/-- What a fence does to a unit inside the one that leaves. -/
def isolated (u : Nat) (st : UnitState) (s : State) (x : Nat) : State :=
  if (getUnit s x).state = .active then modUnit s x fun r => { r with byCont := some u, state := st, tested := false, kat := false } else s

section
variable {s : State} {u v : Nat} {st : UnitState}

theorem twf_isolated (w : twf ({} : UnitRec) s.units = true) (x : Nat) : twf ({} : UnitRec) (isolated u st s x).units = true := by
  unfold isolated
  split
  · exact twf_tput _ _ _ _ w
  · exact w

theorem getUnit_isolated_other {x : Nat} (h : v ≠ x) : getUnit (isolated u st s x) v = getUnit s v := by
  unfold isolated
  split
  · exact getUnit_setUnit_other s x v _ h
  · rfl

theorem getUnit_isolated_idle {x : Nat} (h : (getUnit s v).state ≠ .active) : getUnit (isolated u st s x) v = getUnit s v := by
  by_cases hx : v = x
  · subst hx
    unfold isolated
    rw [if_neg h]
  · exact getUnit_isolated_other hx

theorem isolated_keeps (s : State) (x : Nat) : ∃ w, isolated u st s x = { s with units := w } := by
  unfold isolated
  split <;> exact ⟨_, rfl⟩

theorem foldl_isolated_keeps (l : List Nat) (s : State) : ∃ w, l.foldl (isolated u st) s = { s with units := w } := by
  induction l generalizing s with
  | nil => exact ⟨_, rfl⟩
  | cons x l ih =>
    obtain ⟨w, e⟩ := isolated_keeps (u := u) (st := st) s x
    obtain ⟨w', e'⟩ := ih (isolated u st s x)
    refine ⟨w', e'.trans ?_⟩
    rw [e]

theorem twf_foldl_isolated (l : List Nat) (w : twf ({} : UnitRec) s.units = true) :
    twf ({} : UnitRec) (l.foldl (isolated u st) s).units = true := by
  induction l generalizing s with
  | nil => exact w
  | cons x l ih => exact ih (twf_isolated w x)

theorem getUnit_foldl_isolated_other {l : List Nat} (h : v ∉ l) : getUnit (l.foldl (isolated u st) s) v = getUnit s v := by
  induction l generalizing s with
  | nil => rfl
  | cons x l ih =>
    rw [List.mem_cons, not_or] at h
    exact (ih h.2).trans (getUnit_isolated_other h.1)

theorem getUnit_foldl_isolated_idle {l : List Nat} (h : (getUnit s v).state ≠ .active) : getUnit (l.foldl (isolated u st) s) v = getUnit s v := by
  induction l generalizing s with
  | nil => rfl
  | cons x l ih =>
    have e : getUnit (isolated u st s x) v = getUnit s v := getUnit_isolated_idle h
    exact (ih (e ▸ h)).trans e

/-- A unit in service inside the one that leaves goes with it. -/
theorem getUnit_foldl_isolated {l : List Nat} (w : twf ({} : UnitRec) s.units = true) (hst : st ≠ .active) (h : v ∈ l)
    (hv : (getUnit s v).state = .active) :
    getUnit (l.foldl (isolated u st) s) v = { getUnit s v with byCont := some u, state := st, tested := false, kat := false } := by
  induction l generalizing s with
  | nil => exact absurd h List.not_mem_nil
  | cons x l ih =>
    by_cases hx : v = x
    · subst hx
      have e : isolated u st s v = modUnit s v fun r => { r with byCont := some u, state := st, tested := false, kat := false } := if_pos hv
      have e' : getUnit (isolated u st s v) v = { getUnit s v with byCont := some u, state := st, tested := false, kat := false } := by
        rw [e]
        exact getUnit_setUnit s v _ w
      have hi : (getUnit (isolated u st s v) v).state ≠ .active := by
        rw [e']
        exact hst
      exact (getUnit_foldl_isolated_idle hi).trans e'
    · have e : getUnit (isolated u st s x) v = getUnit s v := getUnit_isolated_other hx
      rw [List.foldl_cons, ih (twf_isolated w x) ((List.mem_cons.mp h).resolve_left hx) (e ▸ hv), e]

theorem not_mem_insideOf (u : Nat) : u ∉ insideOf u := by
  unfold insideOf
  split <;> simp

end

/-- The unit and what it contains have left service; nothing has followed yet. -/
def left (s : State) (u : Nat) (st : UnitState) : State :=
  modUnit ((insideOf u).foldl (isolated u st) s) u fun r => { r with state := st, tested := false, kat := false, draining := false }

theorem takeDown_eq (s : State) (u : Nat) (st : UnitState) : takeDown s u st = alarmOver (unitDown (afterChange s (left s u st)) u) := rfl

section
variable {s : State} {u v : Nat} {st : UnitState}

theorem left_keeps (s : State) (u : Nat) (st : UnitState) : ∃ w, left s u st = { s with units := w } := by
  obtain ⟨w, e⟩ := foldl_isolated_keeps (u := u) (st := st) (insideOf u) s
  unfold left
  rw [e]
  exact ⟨_, rfl⟩

theorem twf_left (w : twf ({} : UnitRec) s.units = true) : twf ({} : UnitRec) (left s u st).units = true :=
  twf_tput _ _ _ _ (twf_foldl_isolated _ w)

theorem getUnit_left_self (w : twf ({} : UnitRec) s.units = true) : (getUnit (left s u st) u).state = st :=
  congrArg UnitRec.state (getUnit_setUnit _ u _ (twf_foldl_isolated _ w))

theorem getUnit_left_inside (w : twf ({} : UnitRec) s.units = true) (hst : st ≠ .active) (h : v ∈ insideOf u) (hv : (getUnit s v).state = .active) :
    (getUnit (left s u st) v).state = st ∧ (getUnit (left s u st) v).byCont = some u := by
  have hne : v ≠ u := fun e => not_mem_insideOf u (e ▸ h)
  have e : getUnit (left s u st) v = getUnit ((insideOf u).foldl (isolated u st) s) v := getUnit_setUnit_other _ u v _ hne
  rw [e, getUnit_foldl_isolated w hst h hv]
  exact ⟨rfl, rfl⟩

theorem getUnit_left_other (hv : v ≠ u) (h : v ∉ insideOf u) : getUnit (left s u st) v = getUnit s v :=
  (getUnit_setUnit_other _ u v _ hv).trans (getUnit_foldl_isolated_other h)

end

/-! ### A block without work -/

/-- A block that holds no request, ring, transaction or cached key, and no channel of a function. -/
def Bare (s : State) : Prop :=
  s.reqs = [] ∧ s.chains = [] ∧ s.rings = [] ∧ s.cache = [] ∧ s.txns = [] ∧ s.bursts = [] ∧ (s.chans.any fun e => decide (e.2.owner ≠ none)) = false

/-- The block holds no work, and its units stand as in `x` but for their clock gates. -/
def Calm (x s : State) : Prop := GatedOnly x s ∧ Bare s

section
variable {x s : State}

theorem calm_foldl {α : Type} {g : State → α → State} (hg : ∀ s a, Calm x s → Calm x (g s a)) (l : List α) (h : Calm x s) :
    Calm x (l.foldl g s) := by
  induction l generalizing s with
  | nil => exact h
  | cons a l ih => exact ih (hg s a h)

theorem mem_tput {α : Type} [DecidableEq α] {d v : α} {t : Tbl α} {k : Nat} {e : Nat × α} (h : e ∈ tput d t k v) : e ∈ t ∨ e.2 = v := by
  induction t with
  | nil =>
    rw [tput] at h
    split at h
    · exact absurd h List.not_mem_nil
    · exact .inr (List.mem_singleton.mp h ▸ rfl)
  | cons a t ih =>
    rw [tput] at h
    simp only [List.mem_cons]
    grind

theorem owner_none (h : Bare s) (c : Nat) : (getChan s c).owner = none := by
  obtain ⟨-, -, -, -, -, -, h⟩ := h
  by_contra hn
  have hc := Sys2Proof.Periods.any_of_tget (d := ({} : ChanRec)) (fun r => decide (r.owner ≠ none)) (by decide) s.chans c (decide_eq_true hn)
  exact absurd (hc.symm.trans h) (by decide)

theorem calm_moved (h : Calm x s) (c k : Nat) (o : Option Nat) :
    Calm x (modChan (modUnit s (unitAt .mov k) fun u => { u with gated := false }) c fun r => { r with moved := o }) := by
  have hn := owner_none h.2 c
  obtain ⟨hg, h1, h2, h3, h4, h5, h6, h7⟩ := h
  refine ⟨gatedOnly_congr (gatedOnly_modUnit hg (unitAt .mov k) false) rfl, h1, h2, h3, h4, h5, h6, ?_⟩
  rw [List.any_eq_false] at h7 ⊢
  intro e he
  rcases mem_tput he with he | he
  · exact h7 e he
  · have e1 : e.2.owner = none := (congrArg ChanRec.owner he).trans hn
    simp [e1]

theorem calm_rehomeChans (h : Calm x s) (m : Nat) : Calm x (rehomeChans s m) := by
  refine calm_foldl (fun s c h => ?_) _ h
  dsimp only
  split
  · exact h
  · exact calm_moved h c _ _

theorem calm_moverDown (h : Calm x s) (m : Nat) : Calm x (moverDown s m) := by
  have hc := calm_rehomeChans h m
  have hnil : (s.chans.filter fun e => decide (e.2.owner ≠ none ∧ runMover s e.1 = m)) = [] := by
    obtain ⟨-, -, -, -, -, -, -, h7⟩ := h
    rw [List.any_eq_false] at h7
    rw [List.filter_eq_nil_iff]
    intro e he
    have := h7 e he
    simp_all
  have e : moverDown s m = rehomeChans s m := by
    have hr (p : Req → Bool) : reqsWith (rehomeChans s m) p = [] := by
      unfold reqsWith
      rw [hc.2.1]
      rfl
    unfold moverDown
    rw [hnil]
    exact congrArg (List.foldl _ _) (hr _)
  rw [e]
  exact hc

theorem calm_portDown (h : Calm x s) (p : Nat) : Calm x (portDown s p) := by
  obtain ⟨hg, h1, h2, h3, h4, h5, h6, h7⟩ := h
  unfold portDown
  rw [h5]
  exact ⟨gatedOnly_congr hg rfl, h1, h2, h3, h4, rfl, h6, h7⟩

theorem calm_groupDown (h : Calm x s) (g : Nat) : Calm x (groupDown s g) := by
  obtain ⟨-, -, h2, h3, -⟩ := id h
  have e : groupDown s g = moverDown s g := by
    unfold groupDown rehomeGroup
    simp [h2, h3]
  rw [e]
  exact calm_moverDown h g

theorem calm_regionDown (h : Calm x s) (m : Nat) : Calm x (regionDown s m) := by
  obtain ⟨-, -, h2, h3, -⟩ := id h
  unfold regionDown rehomeRegion
  simp only [h2, h3, List.filter_nil, List.map_nil, List.foldl_nil, List.filterMap_nil]
  have hm := calm_foldl (fun s m h => calm_moverDown h m) [2 * m, 2 * m + 1] h
  generalize [2 * m, 2 * m + 1].foldl moverDown s = y at hm ⊢
  have hp := calm_foldl (fun s i h => calm_portDown h (4 * m + i)) ((List.range 4).filter fun i => !ownActive y (unitAt .port (4 * m + i))) hm
  generalize ((List.range 4).filter fun i => !ownActive y (unitAt .port (4 * m + i))).foldl (fun s i => portDown s (4 * m + i)) y = z at hp ⊢
  obtain ⟨hg, h1, h2, h3, h4, h5, h6, h7⟩ := hp
  exact ⟨gatedOnly_congr hg rfl, h1, h2, h3, h4, h5, by rw [h6]; rfl, h7⟩

theorem calm_rebank (h : Calm x s) : Calm x (rebank s) := by
  obtain ⟨hg, h1, h2, h3, h4, hb⟩ := h
  unfold rebank
  rw [h4]
  exact ⟨gatedOnly_congr hg rfl, h1, h2, h3, rfl, hb⟩

theorem calm_afterChange (h : Calm x s) (old : State) : Calm x (afterChange old s) := by
  unfold afterChange
  extract_lets t1 t2 t3 t4
  have c1 : Calm x t1 := by
    refine calm_foldl (fun t m h => ?_) _ h
    split
    · exact calm_regionDown h m
    · exact h
  have c2 : Calm x t2 := by
    refine calm_foldl (fun t g h => ?_) _ c1
    split
    · exact calm_groupDown h g
    · exact h
  have c3 : Calm x t3 := by
    unfold t3
    split
    · exact calm_rebank c2
    · exact c2
  have c4 : Calm x t4 := by
    unfold t4
    split
    · exact c3
    · exact c3
  split
  · exact c4
  · exact c4

theorem reqsWith_nil (h : Bare s) (p : Req → Bool) : reqsWith s p = [] := by
  unfold reqsWith
  rw [h.1]
  rfl

theorem calm_unitDown (h : Calm x s) (u : Nat) : Calm x (unitDown s u) := by
  have hcell : cellDown s u = s := by
    unfold cellDown
    rw [reqsWith_nil h.2]
    exact congrArg (List.foldl _ _) (reqsWith_nil h.2 _)
  have hseq : seqDown s u = s := by
    unfold seqDown
    rw [h.2.2.1]
    rfl
  unfold unitDown
  rw [hcell, hseq]
  split
  case h_4 => exact calm_portDown h _
  case h_5 => exact calm_moverDown h _
  all_goals exact h

end

/-! ### A fence in a block without work -/

section
variable {s : State} {u v : Nat} {st : UnitState}

theorem bare_left (h : Bare s) : Bare (left s u st) := by
  obtain ⟨w, e⟩ := left_keeps s u st
  rw [e]
  exact h

/-- Without work a fence is the units' leave alone. -/
theorem gatedOnly_takeDown (w : twf ({} : UnitRec) s.units = true) (h : Bare s) : GatedOnly (left s u st) (takeDown s u st) := by
  have hc : Calm (left s u st) (left s u st) := ⟨gatedOnly_refl (twf_left w), bare_left h⟩
  obtain ⟨a, e⟩ := alarmOver_eq (unitDown (afterChange s (left s u st)) u)
  rw [takeDown_eq, e]
  exact gatedOnly_congr (calm_unitDown (calm_afterChange hc s) u).1 rfl

/-- A noise source that leaves feeds the conditioner no more. -/
theorem feeding_takeDown (h : kindOf u = .ns) : (takeDown s u st).rng.feeding.getLsbD (unitNo u) = false := by
  obtain ⟨a, e⟩ := alarmOver_eq (unitDown (afterChange s (left s u st)) u)
  have hd : unitDown (afterChange s (left s u st)) u = sourceDown (afterChange s (left s u st)) (unitNo u) := by
    unfold unitDown
    rw [h]
  rw [takeDown_eq, e, hd]
  show (_ &&& ~~~(BitVec.ofNat 8 (2 ^ unitNo u))).getLsbD (unitNo u) = false
  by_cases hn : unitNo u < 8
  · rw [BitVec.getLsbD_and, BitVec.getLsbD_not, BitVec.getLsbD_ofNat, Nat.testBit_two_pow_self]
    simp [hn]
  · exact BitVec.getLsbD_of_ge _ _ (Nat.le_of_not_lt hn)

end

/-! ### The requests of a fenced cell -/

/-- A symmetric operation runs on a lane or on a hash lane. -/
theorem unitKind_of_isSym {o : Op} {d : Desc} (h : o.isSym = true) : (unitKind o d).isSome = true := by
  unfold unitKind onLane
  cases o <;> simp_all [Op.isSym] <;> split <;> rfl

section
variable {s : State} {r u : Nat} {q : Req}

/-- A symmetric request without a unit waits for one. -/
theorem unitFor_of_isSym (h : q.op.isSym = true) (hu : q.unit = none) : (unitFor s q).isSome = true := by
  have h2 : wantsSecond s q = false := by simp [wantsSecond, hu]
  have ha : asymReplace s q = false := by
    unfold asymReplace
    rw [decide_eq_false (fun e => by rw [e] at h; exact absurd h (by decide))]
    rfl
  unfold unitFor firstKind
  rw [h2, ha]
  rw [if_neg Bool.false_ne_true, if_neg Bool.false_ne_true]
  have hk := unitKind_of_isSym (d := q.d) h
  split
  · next e => exact absurd (e ▸ h) (by decide)
  · next e => exact absurd (e ▸ h) (by decide)
  · exact hk

/-- A request taken off its unit, its values kept. -/
theorem getReq_rerun (hq : getReq s r = some q) (hp : q.phase ≠ .vault) (h : q.op.isSym = true) :
    ∃ q', getReq (rerun s r) r = some q' ∧ q'.phase = .waitGrant ∧ q'.unit = none ∧ q'.unit2 = none ∧ q'.regs = [] ∧
      q'.iv = q.iv ∧ q'.taken = q.taken ∧ q'.opened = q.opened ∧ q'.ctxCtr = q.ctxCtr ∧ q'.d = q.d := by
  unfold rerun
  rw [hq]
  dsimp only
  rw [if_neg hp, if_neg (by
    rw [Option.isNone_iff_eq_none]
    exact Option.isSome_iff_ne_none.mp (unitFor_of_isSym h rfl))]
  exact ⟨_, tget_tput_self _ _ _ _ (Option.some_ne_none _), rfl, rfl, rfl, rfl, rfl, rfl, rfl, rfl, rfl⟩

end

/-! ### The entries of a fenced key-cache bank -/

theorem foldl_of_fixed {α β : Type} {f : β → α → β} {s : β} {l : List α} (h : ∀ a ∈ l, f s a = s) : l.foldl f s = s := by
  induction l with
  | nil => rfl
  | cons a l ih =>
    rw [List.foldl_cons, h a List.mem_cons_self]
    exact ih fun b hb => h b (List.mem_cons_of_mem _ hb)

/-- The state of every unit but a bank's is as it was. -/
def SameBut (b : Nat) (s t : State) : Prop := ∀ x, x ≠ unitAt .kc b → (getUnit t x).state = (getUnit s x).state

section
variable {s t : State} {b : Nat}

theorem kc_no_part : ∀ b < 16, (∀ g < 8, unitAt .kc b ≠ unitAt .grp g ∧ unitAt .kc b ∉ cellsOf .seq g) ∧
    ∀ m < 4, unitAt .kc b ≠ unitAt .reg m ∧ (∀ i < 4, unitAt .kc b ≠ unitAt .port (4 * m + i)) ∧
      ∀ i < 2, unitAt .kc b ≠ unitAt .mov (2 * m + i) := by
  decide

theorem ownActive_of_sameBut (h : SameBut b s t) {x : Nat} (hx : x ≠ unitAt .kc b) : ownActive t x = ownActive s x := by
  unfold ownActive
  rw [h x hx]

theorem any_congr_mem {α : Type} {p q : α → Bool} {l : List α} (h : ∀ a ∈ l, p a = q a) : l.any p = l.any q := by
  induction l with
  | nil => rfl
  | cons a l ih => simp [h a, ih fun b hb => h b (List.mem_cons_of_mem _ hb)]

theorem groupUp_of_sameBut (hb : b < 16) (h : SameBut b s t) {g : Nat} (hg : g < 8) : groupUp t g = groupUp s g := by
  obtain ⟨h1, h2⟩ := (kc_no_part b hb).1 g hg
  unfold groupUp groupDerived
  rw [ownActive_of_sameBut h h1.symm, any_congr_mem fun x hx => ownActive_of_sameBut h fun e => h2 (e ▸ hx)]

theorem regionUp_of_sameBut (hb : b < 16) (h : SameBut b s t) {m : Nat} (hm : m < 4) : regionUp t m = regionUp s m := by
  obtain ⟨h1, h2, h3⟩ := (kc_no_part b hb).2 m hm
  unfold regionUp regionDerived
  rw [ownActive_of_sameBut h h1.symm, groupUp_of_sameBut hb h (by omega), groupUp_of_sameBut hb h (by omega),
    any_congr_mem fun i hi => ownActive_of_sameBut h (h2 i (List.mem_range.mp hi)).symm,
    any_congr_mem fun i hi => ownActive_of_sameBut h (h3 i (List.mem_range.mp hi)).symm]

theorem place_small : ∀ x < unitCount, (∀ g, groupOf x = some g → g < 8) ∧ ∀ m, regionOf x = some m → m < 4 := by
  unfold unitCount
  decide +kernel

theorem active_of_sameBut (hb : b < 16) (h : SameBut b s t) {x : Nat} (hx : x < unitCount) (hne : x ≠ unitAt .kc b) : active t x = active s x := by
  obtain ⟨hg, hm⟩ := place_small x hx
  unfold active
  rw [ownActive_of_sameBut h hne]
  cases hgx : groupOf x with
  | none =>
    cases hmx : regionOf x with
    | none => rfl
    | some m => simp only [regionUp_of_sameBut hb h (hm m hmx)]
  | some g =>
    cases hmx : regionOf x with
    | none => simp only [groupUp_of_sameBut hb h (hg g hgx)]
    | some m => simp only [groupUp_of_sameBut hb h (hg g hgx), regionUp_of_sameBut hb h (hm m hmx)]

theorem kc_apart : ∀ b < 16, (∀ m < 4, unitAt .reg m < unitCount ∧ unitAt .reg m ≠ unitAt .kc b) ∧
    ∀ n < Kind.ns.count, Kind.ns.base + n < unitCount ∧ Kind.ns.base + n ≠ unitAt .kc b := by
  decide

theorem upRegions_of_sameBut (hb : b < 16) (h : SameBut b s t) : upRegions t = upRegions s := by
  refine List.filter_congr fun m hm => ?_
  obtain ⟨h1, h2⟩ := (kc_apart b hb).1 m (List.mem_range.mp hm)
  exact active_of_sameBut hb h h1 h2

theorem activeCount_of_sameBut (hb : b < 16) (h : SameBut b s t) : activeCount t .ns = activeCount s .ns := by
  refine congrArg List.length (List.filter_congr fun n hn => ?_)
  obtain ⟨h1, h2⟩ := (kc_apart b hb).2 n (List.mem_range.mp hn)
  exact active_of_sameBut hb h h1 h2

theorem gatedOnly_rebank (w : twf ({} : UnitRec) t.units = true) : GatedOnly t (rebank t) :=
  (eased_rebank (x := t) ⟨gatedOnly_refl w, rfl⟩).1

/-- Of a key-cache bank that leaves the other parts see nothing but their entries' new places. -/
theorem afterChange_kc (hb : b < 16) (w : twf ({} : UnitRec) t.units = true) (h : SameBut b s t) (ha : active s (unitAt .kc b) = true)
    (hi : active t (unitAt .kc b) = false) : afterChange s t = rebank t := by
  have hr : SameBut b s (rebank t) := fun x hx => (states_of_gatedOnly (gatedOnly_rebank w) x).trans (h x hx)
  have e1 : (List.range 4).foldl (fun t' m => if regionUp s m && !regionUp t m then regionDown t' m else t') t = t :=
    foldl_of_fixed fun m hm => by
      rw [regionUp_of_sameBut hb h (List.mem_range.mp hm)]
      exact if_neg (by simp)
  have e2 : (List.range 8).foldl (fun t' g => if groupUp s g && !groupUp t g && regionUp t' (g / 2) then groupDown t' g else t') t = t :=
    foldl_of_fixed fun g hg => by
      rw [groupUp_of_sameBut hb h (List.mem_range.mp hg)]
      exact if_neg (by simp)
  have e3 : ((List.range 16).any fun b => active s (unitAt .kc b) != active t (unitAt .kc b)) = true :=
    List.any_eq_true.mpr ⟨b, List.mem_range.mpr hb, by rw [ha, hi]; rfl⟩
  unfold afterChange
  rw [e1]
  dsimp only
  rw [e2, if_pos e3, upRegions_of_sameBut hb hr, if_neg (show ¬((upRegions s).isEmpty && !(upRegions s).isEmpty) = true by simp),
    activeCount_of_sameBut hb hr, if_neg (by omega)]

/-! ### Where the entries go -/

theorem bankOf_of_active (h : active t = active s) (i : Nat) : bankOf t i = bankOf s i := by
  unfold bankOf
  rw [h]

theorem mem_evictLast {bank set : Nat} {l l' : List CacheEnt} (h : evictLast bank set l = some l') {e : CacheEnt} (he : e ∈ l') : e ∈ l := by
  induction l generalizing l' with
  | nil => exact absurd h (Option.some_ne_none _).symm
  | cons a l ih =>
    rw [evictLast] at h
    split at h
    · next k hk =>
      rw [← Option.some.inj h] at he
      rcases List.mem_cons.mp he with rfl | he
      · exact List.mem_cons_self
      · exact List.mem_cons_of_mem _ (ih hk he)
    · split at h
      · rw [← Option.some.inj h] at he
        exact List.mem_cons_of_mem _ he
      · exact absurd h (Option.some_ne_none _).symm

theorem mem_cache_makeRoom {k i : Nat} {e : CacheEnt} (h : e ∈ (makeRoom s k i).cache) : e ∈ s.cache := by
  unfold makeRoom at h
  split at h
  · exact h
  · cases hv : evictLast k (setOf i) s.cache with
    | none =>
      rw [hv] at h
      exact h
    | some l =>
      rw [hv] at h
      exact mem_evictLast hv h

/-- No entry lies in a bank that takes no work. -/
def Cleared (b : Nat) (s : State) : Prop := ∀ e ∈ s.cache, e.bank ≠ b

theorem bankOf_active {i k : Nat} (h : bankOf s i = some k) : active s (unitAt .kc k) = true := by
  unfold bankOf at h
  grind

theorem cleared_rehouse (hb : b < 16) (hi : active s (unitAt .kc b) = false) (h : Cleared b s) (e : CacheEnt) : Cleared b (rehouse s e) := by
  have hcons (y : State) (c : List CacheEnt) (e' : CacheEnt) (hc : ∀ x ∈ c, x ∈ s.cache) (he : e'.bank ≠ b) : Cleared b { y with cache := e' :: c } := by
    intro x hx
    rcases List.mem_cons.mp hx with rfl | hx
    · exact he
    · exact h x (hc x hx)
  have hst : stagingBank ≠ b := by
    unfold stagingBank
    omega
  unfold rehouse
  extract_lets e'
  split
  · next k hk =>
    split
    · exact hcons _ _ _ (fun x hx => mem_cache_makeRoom hx) fun e => by
        have hk' := bankOf_active hk
        rw [show k = b from e, hi] at hk'
        exact absurd hk' (by decide)
    · exact hcons _ _ _ (fun _ hx => hx) hst
  · exact hcons _ _ _ (fun _ hx => hx) hst

theorem active_rehouse (w : twf ({} : UnitRec) s.units = true) (e : CacheEnt) : active (rehouse s e) = active s :=
  active_of_gatedOnly (eased_rehouse (x := s) ⟨gatedOnly_refl w, rfl⟩ e).1

theorem cleared_foldl_rehouse (hb : b < 16) (l : List CacheEnt) (w : twf ({} : UnitRec) s.units = true) (hi : active s (unitAt .kc b) = false)
    (h : Cleared b s) : Cleared b (l.foldl rehouse s) := by
  induction l generalizing s with
  | nil => exact h
  | cons e l ih =>
    have he : Eased s (rehouse s e) := eased_rehouse ⟨gatedOnly_refl w, rfl⟩ e
    exact ih he.1.1 (by rw [active_rehouse w]; exact hi) (cleared_rehouse hb hi h e)

theorem cleared_rebank (hb : b < 16) (w : twf ({} : UnitRec) s.units = true) (hi : active s (unitAt .kc b) = false) : Cleared b (rebank s) := by
  refine cleared_foldl_rehouse hb _ w hi fun e he => ?_
  have hh : e.bank = (bankOf s e.slot).getD stagingBank := of_decide_eq_true (List.mem_filter.mp he).2
  rw [hh]
  cases hk : bankOf s e.slot with
  | none =>
    show stagingBank ≠ b
    unfold stagingBank
    omega
  | some k =>
    rintro rfl
    have := bankOf_active hk
    rw [show (some k).getD stagingBank = k from rfl] at hi
    exact absurd (this.symm.trans hi) (by decide)

/-- The one entry that requests refer to goes to the bank that now serves its slot. -/
theorem rebank_of_single {e : CacheEnt} {k : Nat} (hc : s.cache = [e]) (hk : bankOf s e.slot = some k) (hne : e.bank ≠ k) (hr : 0 < e.refs) :
    ∃ e', (rebank s).cache = [e'] ∧ e'.slot = e.slot ∧ e'.gen = e.gen ∧ e'.refs = e.refs ∧ e'.mat = e.mat ∧ e'.bank = k := by
  have hh : housed s e = false := by
    unfold housed
    rw [hk]
    exact decide_eq_false hne
  have e1 : rebank s = rehouse { s with cache := [] } e := by
    unfold rebank
    rw [hc]
    simp [hh, hr]
  rw [e1]
  unfold rehouse
  extract_lets e'
  have hs : e'.slot = e.slot ∧ e'.gen = e.gen ∧ e'.refs = e.refs ∧ e'.mat = e.mat := by
    unfold e'
    split <;> exact ⟨rfl, rfl, rfl, rfl⟩
  obtain ⟨hs1, hs2, hs3, hs4⟩ := hs
  have hk' : bankOf { s with cache := [] } e'.slot = some k := by
    rw [hs1]
    exact hk
  rw [hk']
  exact ⟨{ e' with bank := k }, rfl, hs1, hs2, hs3, hs4, rfl⟩

end

/-! ### The collector fences a unit -/

section
variable {s : State} {u src : Nat}

theorem raiseOwn_keeps (s : State) : ∃ q, raiseOwn s = { s with irq := q } := by
  unfold raiseOwn raiseMsg
  split <;> exact ⟨_, rfl⟩

/-- The state that the collector fences a unit in: the sticky bit is set, and the message sent. -/
def stuck (s : State) (src : Nat) : State :=
  let t : State := { s with sticky := s.sticky ||| BitVec.ofNat 768 (2 ^ src) }
  if s.sticky.getLsbD src then t else raiseOwn t

theorem stuck_keeps (s : State) (src : Nat) : ∃ q, stuck s src = { s with sticky := s.sticky ||| BitVec.ofNat 768 (2 ^ src), irq := q } := by
  unfold stuck
  dsimp only
  split
  · exact ⟨_, rfl⟩
  · exact raiseOwn_keeps _

/-- A source that fences its unit, which is in service and no port, ends with the fence. -/
theorem collect_fence (hs : s.safe = false) (hr : s.raised = []) (hlt : src < 521) (hu : sourceUnit src = some u) (hk : kindOf u ≠ .port)
    (hre : reactionOf s src = .fence) (hst : (getUnit s u).state = .active) (hf : (fenceUnit (stuck s src) u).raised = []) :
    collect (raiseSrc s src) = fenceUnit (stuck s src) u := by
  have hraise : (raiseSrc s src).raised = [src] := by simp [raiseSrc, hr]
  have hbase : ({ raiseSrc s src with raised := [] } : State) = s := by
    show { s with raised := [] } = s
    rw [← hr]
  have hord : ordered (raiseSrc s src) [src] = [src] := by
    by_cases h : reactionOf (raiseSrc s src) src = .safe <;> simp [ordered, hlt, h]
  have hp (t : State) : probeFenced t src = none := by
    unfold probeFenced
    rw [hu]
    exact if_neg fun h => hk h.1
  have hset : setSource [src] s src = fenceUnit (stuck s src) u := by
    have ht : failTest { s with sticky := s.sticky ||| BitVec.ofNat 768 (2 ^ src) } u =
        { s with sticky := s.sticky ||| BitVec.ofNat 768 (2 ^ src) } :=
      if_neg fun h => UnitState.noConfusion (hst.symm.trans h)
    unfold setSource
    rw [if_neg (by omega)]
    dsimp only
    rw [if_neg (by simp [hs]), hu, hre]
    dsimp only
    rw [ht, hp]
    rfl
  rw [collect, collectN_of_raised 7 hraise (by simp), hbase, hord, List.foldl_cons, List.foldl_nil, hset, collectN_of_none 7 hf]

end

section
variable {s : State} {b : Nat}

theorem kc_unit : ∀ b < 16, kindOf (unitAt .kc b) = .kc ∧ unitAt .kc b < unitCount ∧ insideOf (unitAt .kc b) = [] ∧
    sourceUnit (321 + 2 * b) = some (unitAt .kc b) ∧ unitSource (unitAt .kc b) 0 = 320 + 2 * b ∧ unitNo (unitAt .kc b) = b ∧
    unitSource (unitAt .kc b) 1 = 321 + 2 * b := by
  decide

/-- A fenced bank leaves service, and its entries go where their slots are now served. -/
theorem takeDown_kc (hb : b < 16) (w : twf ({} : UnitRec) s.units = true) (ha : active s (unitAt .kc b) = true) {st : UnitState} (hst : st ≠ .active) :
    takeDown s (unitAt .kc b) st = alarmOver (rebank (left s (unitAt .kc b) st)) := by
  obtain ⟨hk, -, hi, -⟩ := kc_unit b hb
  have hsb : SameBut b s (left s (unitAt .kc b) st) := fun x hx =>
    congrArg UnitRec.state (getUnit_left_other hx (by rw [hi]; exact List.not_mem_nil))
  have hn : active (left s (unitAt .kc b) st) (unitAt .kc b) = false := not_active_of_state (by
    rw [getUnit_left_self w]
    exact hst)
  rw [takeDown_eq, afterChange_kc hb (twf_left w) hsb ha hn]
  unfold unitDown
  rw [hk]

theorem rebank_keeps (s : State) : ∃ u c, rebank s = { s with units := u, cache := c } := by
  have hr (s : State) (e : CacheEnt) : ∃ u c, rehouse s e = { s with units := u, cache := c } := by
    have hm (k i : Nat) : ∃ c, makeRoom s k i = { s with cache := c } := by
      unfold makeRoom
      split <;> exact ⟨_, rfl⟩
    unfold rehouse
    extract_lets e'
    split
    · next k _ =>
      split
      · obtain ⟨c, e⟩ := hm k e'.slot
        rw [e]
        exact ⟨_, _, rfl⟩
      · exact ⟨_, _, rfl⟩
    · exact ⟨_, _, rfl⟩
  unfold rebank
  generalize s.cache.filter (fun e => !housed s e && decide (0 < e.refs)) = l
  generalize s.cache.filter (housed s) = c
  suffices ∀ y : State, ∃ u c, l.foldl rehouse y = { y with units := u, cache := c } from this _
  induction l with
  | nil => exact fun y => ⟨_, _, rfl⟩
  | cons a l ih =>
    intro y
    obtain ⟨u, c, e⟩ := hr y a
    obtain ⟨u', c', e'⟩ := ih (rehouse y a)
    refine ⟨u', c', e'.trans ?_⟩
    rw [e]

theorem active_of_active_own {u : Nat} (h : active s u = true) : (getUnit s u).state = .active := by
  unfold active ownActive at h
  simp only [Bool.and_eq_true, decide_eq_true_eq] at h
  exact h.1.1

/-- A bank's error that fences it: what the command ends with. -/
theorem exec_bankFault (hw : atWork s = true) (hb : b < 16) (w : twf ({} : UnitRec) s.units = true) (ha : active s (unitAt .kc b) = true)
    (hre : reactionOf s (321 + 2 * b) = .fence) :
    exec (.faultSourceSet (BitVec.ofNat 10 (321 + 2 * b))) s = .next
      (alarmOver (rebank (left (stuck s (321 + 2 * b)) (unitAt .kc b) (if limitReached s (unitAt .kc b) then .retired else .fenced)))) := by
  obtain ⟨hk, -, -, hsu, hu0, -, hu1⟩ := kc_unit b hb
  obtain ⟨hp, -, hs, -, -, hr⟩ := (awake_spec s).1 (atWork_spec hw).1
  have hn : (BitVec.ofNat 10 (321 + 2 * b)).toNat = 321 + 2 * b := by
    rw [BitVec.toNat_ofNat]
    omega
  have ht : touched s (unitAt .kc b) 1 = s := by
    unfold touched
    rw [hk, hu1]
    exact if_pos (by simp [hre, ha])
  have hc : faultSourceSet (BitVec.ofNat 10 (321 + 2 * b)) s = raiseSrc s (321 + 2 * b) := by
    have hk1 : 321 + 2 * b - unitSource (unitAt .kc b) 0 = 1 := by omega
    unfold faultSourceSet
    dsimp only
    rw [hn, hp, decide_eq_false (by omega), if_neg (by decide), hsu]
    dsimp only
    unfold unitCondition
    rw [hk1, hk]
    dsimp only
    rw [ht]
  have hst : (getUnit (stuck s (321 + 2 * b)) (unitAt .kc b)).state = .active ∧
      active (stuck s (321 + 2 * b)) (unitAt .kc b) = true ∧
      limitReached (stuck s (321 + 2 * b)) (unitAt .kc b) = limitReached s (unitAt .kc b) ∧
      twf ({} : UnitRec) (stuck s (321 + 2 * b)).units = true := by
    obtain ⟨q, e⟩ := stuck_keeps s (321 + 2 * b)
    rw [e]
    exact ⟨active_of_active_own ha, ha, rfl, w⟩
  obtain ⟨hst, hact, hlim, hwf⟩ := hst
  have hne : (if limitReached s (unitAt .kc b) then UnitState.retired else .fenced) ≠ .active := by split <;> decide
  have hf : fenceUnit (stuck s (321 + 2 * b)) (unitAt .kc b) =
      alarmOver (rebank (left (stuck s (321 + 2 * b)) (unitAt .kc b) (if limitReached s (unitAt .kc b) then .retired else .fenced))) := by
    unfold fenceUnit
    rw [hst]
    dsimp only
    rw [hlim, takeDown_kc hb hwf hact hne]
  generalize (if limitReached s (unitAt .kc b) then UnitState.retired else .fenced) = st at hf ⊢
  have hkeep : ∃ a u c k q, alarmOver (rebank (left (stuck s (321 + 2 * b)) (unitAt .kc b) st)) =
      { s with alarms := a, units := u, cache := c, sticky := k, irq := q } := by
    obtain ⟨a, e1⟩ := alarmOver_eq (rebank (left (stuck s (321 + 2 * b)) (unitAt .kc b) st))
    obtain ⟨u, c, e2⟩ := rebank_keeps (left (stuck s (321 + 2 * b)) (unitAt .kc b) st)
    obtain ⟨w, e3⟩ := left_keeps (stuck s (321 + 2 * b)) (unitAt .kc b) st
    obtain ⟨q, e4⟩ := stuck_keeps s (321 + 2 * b)
    rw [e1, e2, e3, e4]
    exact ⟨_, _, _, _, _, rfl⟩
  have hcol : collect (raiseSrc s (321 + 2 * b)) = alarmOver (rebank (left (stuck s (321 + 2 * b)) (unitAt .kc b) st)) := by
    refine (collect_fence hs hr (by omega) hsu (by rw [hk]; decide) hre (active_of_active_own ha) ?_).trans hf
    obtain ⟨a, u, c, k, q, e⟩ := hkeep
    rw [hf, e]
    exact hr
  have e : exec (.faultSourceSet (BitVec.ofNat 10 (321 + 2 * b))) s = fin (faultSourceSet (BitVec.ofNat 10 (321 + 2 * b)) s) := rfl
  rw [e, hc, fin, hcol, settle_of_awake]
  obtain ⟨a, u, c, k, q, e⟩ := hkeep
  rw [e]
  exact (atWork_spec hw).1

end

/-! ### Rings and channels go elsewhere -/

section
variable {s : State}

theorem home_rehomeGroup {g n : Nat} (w : twf ({} : RingRec) s.rings = true) (h : (getRing s n).home = some g) :
    let o := if g % 2 = 0 then g + 1 else g - 1
    active s (unitAt .grp o) = true → (getUnit s (unitAt .grp o)).draining = false → (getRing (rehomeGroup s g) n).home = some o := by
  intro o ha hd
  have hne : getRing s n ≠ {} := fun e => by
    rw [e] at h
    cases h
  have hmem : n ∈ (s.rings.filter fun e => decide (e.2.home = some g)).map Prod.fst :=
    List.mem_map.mpr ⟨(n, getRing s n), List.mem_filter.mpr ⟨(Erasures.mem_iff_tget hne s.rings 0 w).mpr rfl, decide_eq_true h⟩, rfl⟩
  have hnd : ((s.rings.filter fun e => decide (e.2.home = some g)).map Prod.fst).Nodup := (keys_nodup w).sublist (List.filter_sublist.map _)
  have hcond : (active s (unitAt .grp o) && !(getUnit s (unitAt .grp o)).draining) = true := by simp [ha, hd]
  unfold rehomeGroup
  dsimp only
  rw [if_pos hcond, foldl_modRing_eq]
  exact congrArg RingRec.home (tget_foldMod (fun r : RingRec => { r with home := some o }) hnd hmem w)

theorem region_rehomeRegion {m k n : Nat} (w : twf ({} : RingRec) s.rings = true) (hr : s.rings = [(n, getRing s n)]) (ho : (getRing s n).owner ≠ none)
    (hm : (getRing s n).region = m) (hk : leastBy (ringsInRegion s) (undrained s .reg ((upRegions s).filter (· ≠ m))) = some k) :
    (getRing (rehomeRegion s m) n).region = k := by
  have hf : (s.rings.filter fun e => decide (e.2.owner ≠ none ∧ e.2.region = m)).map Prod.fst = [n] := by
    rw [hr, List.filter_cons_of_pos (by simpa using ⟨ho, hm⟩)]
    rfl
  unfold rehomeRegion
  rw [hf, List.foldl_cons, List.foldl_nil, hk]
  exact congrArg RingRec.region (getRing_setRing s n _ w)

/-- A channel moved to `k`, whose home mover needs no mark. -/
def movedTo (s : State) (c k : Nat) : State :=
  modChan (modUnit s (unitAt .mov k) fun u => { u with gated := false }) c fun r => { r with moved := if k = c / 32 then none else some k }

theorem chanMover_movedTo (w : twf ({} : ChanRec) s.chans = true) (c k : Nat) : chanMover (movedTo s c k) c = k := by
  have e : (getChan (movedTo s c k) c).moved = if k = c / 32 then none else some k := congrArg ChanRec.moved (getChan_setChan _ c _ w)
  unfold chanMover
  rw [e]
  split
  · next h => exact h.symm
  · rfl

theorem chanMover_movedTo_other {c a : Nat} (h : c ≠ a) (k : Nat) : chanMover (movedTo s a k) c = chanMover s c :=
  congrArg (fun r : ChanRec => r.moved.getD (c / 32)) (getChan_setChan_other _ a c _ h)

/-- Channels that the list names, and channels already there, stand with the mover that takes them. -/
theorem chanMover_foldl_moved {o c : Nat} (l : List Nat) {f : State → Nat → State} (hf : ∀ t a, GatedOnly s t → f t a = movedTo t a o) {t : State}
    (h : GatedOnly s t) (w : twf ({} : ChanRec) t.chans = true) (hc : c ∈ l ∨ chanMover t c = o) : chanMover (l.foldl f t) c = o := by
  induction l generalizing t with
  | nil => exact hc.resolve_left List.not_mem_nil
  | cons a l ih =>
    rw [List.foldl_cons, hf t a h]
    refine ih (gatedOnly_congr (gatedOnly_modUnit h (unitAt .mov o) false) rfl) (twf_tput _ _ _ _ w) ?_
    by_cases ha : c = a
    · subst ha
      exact .inr (chanMover_movedTo w c o)
    · rw [chanMover_movedTo_other ha]
      exact hc.imp_left fun hm => (List.mem_cons.mp hm).resolve_left ha

theorem chanMover_rehomeChans {m c : Nat} (wu : twf ({} : UnitRec) s.units = true) (w : twf ({} : ChanRec) s.chans = true) (hc : c < 256)
    (hm : chanMover s c = m) :
    let o := if m % 2 = 0 then m + 1 else m - 1
    movOpen s o = true → chanMover (rehomeChans s m) c = o := by
  intro o ho
  refine chanMover_foldl_moved _ (fun t a h => ?_) (gatedOnly_refl wu) w
    (.inl (List.mem_filter.mpr ⟨List.mem_range.mpr hc, decide_eq_true hm⟩))
  have hd : (if movOpen t o then some o else leastBy (chansOfMover t) ((movChoice t).filter (· ≠ m))) = some o :=
    if_pos (by rw [movOpen_of_gatedOnly h]; exact ho)
  dsimp only
  rw [hd]
  rfl

end

/-! ### A fenced port -/

/-- The transactions of a fenced port, quarantined: their owners no longer wait at them. -/
theorem portDown_single {s : State} {p : Nat} {x : Txn} (ht : s.txns = [x]) (hp : x.port = p) (hq : x.quar = false) (hr : regionUp s (p / 4) = true)
    (ha : (activePorts s (p / 4)).isEmpty = false) :
    let y : State := { s with txns := [{ x with quar := true, own := .none }] }
    (x.wr = true → portDown s p = answered y x.own x.addr x.data (some .memError)) ∧
    (∀ r i off, x.wr = false → x.own = .req r i off → portDown s p = submit y
      { region := p / 4, wr := false, addr := x.addr, len := x.len, fn := x.fn, pasid := x.pasid, own := x.own, vault := x.vault,
        payer := x.payer }) := by
  intro y
  have hr' : regionUp y (p / 4) = true := hr
  have ha' : (activePorts y (p / 4)).isEmpty = false := ha
  have e : portDown s p = (if x.wr then answered y x.own x.addr x.data (some .memError)
      else match x.own with
        | .none => y
        | .probe q vigil => if vigil then y else probeEnded y q (some .memError)
        | o =>
          if (activePorts y (p / 4)).isEmpty then answered y o x.addr x.data (some .memError)
          else submit y { region := p / 4, wr := false, addr := x.addr, len := x.len, fn := x.fn, pasid := x.pasid
                          own := o, vault := x.vault, payer := x.payer }) := by
    have hf : s.txns.filter (fun t => decide (t.port = p) && !t.quar) = [x] := by simp [ht, hp, hq]
    have hm : s.txns.map (fun t => if t.port = p then { t with quar := true, own := .none } else t) = [{ x with quar := true, own := .none }] := by
      simp [ht, hp]
    unfold portDown
    rw [hf, hm]
    dsimp only
    rw [if_pos hr']
    rfl
  refine ⟨fun hw => ?_, fun r i off hw ho => ?_⟩
  · rw [e, if_pos hw]
  · rw [e, if_neg (by simp [hw]), ho]
    dsimp only
    rw [if_neg (by simp [ha'])]

/-! ### The obligation -/

theorem fence_bareBlock {u : Nat} {st : UnitState} {s : State} (w : twf ({} : UnitRec) s.units = true) (hst : st ≠ .active) (hb : Bare s) :
    let t := takeDown s u st
    (getUnit t u).state = st ∧ active t u = false ∧
    (∀ v ∈ insideOf u, (getUnit s v).state = .active → (getUnit t v).state = st ∧ (getUnit t v).byCont = some u) ∧
    (∀ v, v ≠ u → v ∉ insideOf u → ∃ gated, getUnit t v = { getUnit s v with gated := gated }) ∧
    (kindOf u = .ns → t.rng.feeding.getLsbD (unitNo u) = false) := by
  intro t
  have hg : GatedOnly (left s u st) t := gatedOnly_takeDown w hb
  have hu : (getUnit t u).state = st := (states_of_gatedOnly hg u).trans (getUnit_left_self w)
  refine ⟨hu, not_active_of_state (by rw [hu]; exact hst), fun v hv ha => ?_, fun v hv hi => ?_, feeding_takeDown⟩
  · obtain ⟨g, e⟩ := hg.2 v
    obtain ⟨h1, h2⟩ := getUnit_left_inside w hst hv ha
    rw [e]
    exact ⟨h1, h2⟩
  · obtain ⟨g, e⟩ := hg.2 v
    rw [getUnit_left_other hv hi] at e
    exact ⟨g, e⟩

theorem fence_cell {u r : Nat} {q : Req} {s : State} (hq : getReq s r = some q) :
    let left := (activeCells s (kindOf u) ((groupOf u).getD 0)).filter (· ≠ u)
    ((q.wrote = true ∨ holdsPka q = true ∨ left.length < (if q.echo then 2 else 1)) → offCell s u r = failStep s r .faultDetected 0) ∧
    (q.wrote = false → holdsPka q = false → (if q.echo then 2 else 1) ≤ left.length → offCell s u r = rerun s r) := by
  intro left
  have e : offCell s u r = if q.wrote || holdsPka q || decide (left.length < (if q.echo then 2 else 1)) then failStep s r .faultDetected 0
      else rerun s r := by
    unfold offCell
    rw [hq]
  refine ⟨fun h => ?_, fun hw hp hl => ?_⟩
  · rw [e, if_pos]
    simpa [or_assoc] using h
  · rw [e, if_neg]
    simp [hw, hp, Nat.not_lt.mpr hl]

theorem bankOf_other {s : State} {b i : Nat} (hi : i % 16 = b) (hb : active s (unitAt .kc b) = false) :
    let o := if b % 2 = 0 then b + 1 else b - 1
    active s (unitAt .kc o) = true → bankOf s i = some o := by
  intro o ho
  unfold bankOf
  dsimp only
  rw [hi, if_neg (by simp [hb]), if_pos ho]

theorem kc_other : ∀ b < 16, unitAt .kc (if b % 2 = 0 then b + 1 else b - 1) < unitCount ∧
    unitAt .kc (if b % 2 = 0 then b + 1 else b - 1) ≠ unitAt .kc b ∧ b ≠ if b % 2 = 0 then b + 1 else b - 1 := by
  decide

theorem fence_bank {b : Nat} {s : State} (hw : atWork s = true) (w : twf ({} : UnitRec) s.units = true) (hb : b < 16)
    (ha : active s (unitAt .kc b) = true) (hre : reactionOf s (321 + 2 * b) = .fence) :
    let o := if b % 2 = 0 then b + 1 else b - 1
    ∃ t, exec (.faultSourceSet (BitVec.ofNat 10 (321 + 2 * b))) s = .next t ∧
      (getUnit t (unitAt .kc b)).state = (if limitReached s (unitAt .kc b) then .retired else .fenced) ∧
      t.sticky.getLsbD (321 + 2 * b) = true ∧ (∀ e ∈ t.cache, e.bank ≠ b) ∧ active t (unitAt .kc b) = false ∧
      (active s (unitAt .kc o) = true →
        (∀ i, i % 16 = b → bankOf t i = some o) ∧
        (∀ e, s.cache = [e] → e.slot % 16 = b → e.bank = b → 0 < e.refs →
          ∃ e', t.cache = [e'] ∧ e'.slot = e.slot ∧ e'.gen = e.gen ∧ e'.refs = e.refs ∧ e'.mat = e.mat ∧ e'.bank = o)) := by
  intro o
  refine ⟨_, exec_bankFault hw hb w ha hre, ?_⟩
  have hst : (if limitReached s (unitAt .kc b) then UnitState.retired else .fenced) ≠ .active := by split <;> decide
  generalize (if limitReached s (unitAt .kc b) then UnitState.retired else .fenced) = st at hst ⊢
  obtain ⟨q, hq⟩ := stuck_keeps s (321 + 2 * b)
  rw [hq]
  generalize hy : ({ s with sticky := s.sticky ||| BitVec.ofNat 768 (2 ^ (321 + 2 * b)), irq := q } : State) = y
  have hyc : y.cache = s.cache := by rw [← hy]
  have hyu : y.units = s.units := by rw [← hy]
  have hys : y.sticky.getLsbD (321 + 2 * b) = true := by
    rw [← hy]
    show (s.sticky ||| BitVec.ofNat 768 (2 ^ (321 + 2 * b))).getLsbD (321 + 2 * b) = true
    rw [BitVec.getLsbD_or, BitVec.getLsbD_ofNat, Nat.testBit_two_pow_self, decide_eq_true (by omega)]
    simp
  have wy : twf ({} : UnitRec) y.units = true := by rw [hyu]; exact w
  have hya : active y = active s := (up_of_states fun x => congrArg UnitRec.state (getUnit_congr hyu x)).1
  clear hy hq
  generalize hL : left y (unitAt .kc b) st = l
  obtain ⟨hk, -, hin, -⟩ := kc_unit b hb
  obtain ⟨hoc, hou, hob⟩ := kc_other b hb
  have wl : twf ({} : UnitRec) l.units = true := by rw [← hL]; exact twf_left wy
  have hlu : (getUnit l (unitAt .kc b)).state = st := by rw [← hL]; exact getUnit_left_self wy
  have hli : active l (unitAt .kc b) = false := not_active_of_state (by rw [hlu]; exact hst)
  have hsb : SameBut b y l := fun x hx => by
    rw [← hL, getUnit_left_other hx (by rw [hin]; exact List.not_mem_nil)]
  have hlo : active l (unitAt .kc o) = active s (unitAt .kc o) := (active_of_sameBut hb hsb hoc hou).trans (congrFun hya _)
  have hlc : l.cache = s.cache ∧ l.sticky = y.sticky := by
    obtain ⟨v, e⟩ := left_keeps y (unitAt .kc b) st
    rw [← hL, e]
    exact ⟨hyc, rfl⟩
  have hg : GatedOnly l (rebank l) := gatedOnly_rebank wl
  have hcl : Cleared b (rebank l) := cleared_rebank hb wl hli
  have hrs : (rebank l).sticky = l.sticky := by
    obtain ⟨v, c, e⟩ := rebank_keeps l
    rw [e]
  obtain ⟨a, e⟩ := alarmOver_eq (rebank l)
  rw [e]
  have hact : active { rebank l with alarms := a } = active l := active_of_gatedOnly (gatedOnly_congr hg rfl)
  refine ⟨(states_of_gatedOnly hg _).trans hlu, ?_, hcl, (congrFun hact _).trans hli, fun hso => ?_⟩
  · show (rebank l).sticky.getLsbD _ = true
    rw [hrs, hlc.2]
    exact hys
  · rw [← hlo] at hso
    refine ⟨fun i hi => (bankOf_of_active hact i).trans (bankOf_other hi hli hso), fun x hx hxs hxb hxr => ?_⟩
    exact rebank_of_single (hlc.1.trans hx) (bankOf_other hxs hli hso) (by rw [hxb]; exact hob) hxr

/-- Settles O16: without work a fence is the leave of its units alone; each kind of work has its own rule. -/
theorem fencesIsolateTheirUnits : Obligations.FencesIsolateTheirUnits := by
  unfold Obligations.FencesIsolateTheirUnits
  refine ⟨fun u st s _ hc _ hst _ h1 h2 h3 h4 h5 h6 h7 => ?_, fun u r q s hq hc hp => ?_, fun b s hw hc hb ha hre => ?_,
    fun p x s ht hp hq hr ha => portDown_single ht hp hq hr ha, fun g n s hc hh => ?_, fun m k n s hc hr ho hm hk => ?_,
    fun m c s hc hlt hm => ?_⟩
  · exact fence_bareBlock (canon_tables hc).1 hst ⟨h1, h2, h3, h5, h6, h7, by rw [h4]; rfl⟩
  · obtain ⟨hfail, hrun⟩ := fence_cell (u := u) hq
    refine ⟨hfail, fun hw hk hl hv hs => ?_⟩
    rw [hrun hw hk hl]
    exact getReq_rerun hq hv hs
  · exact fence_bank hw (canon_tables hc).1 hb ha hre
  · exact home_rehomeGroup (canon_tables hc).2.1 hh
  · exact region_rehomeRegion (canon_tables hc).2.1 hr ho hm hk
  · exact chanMover_rehomeChans (canon_tables hc).1 (canon_tables hc).2.2.1 hlt hm

end Sys2Proof.Fence
end

section
/-!
SUPPORT. The walker's updates leave the requests alone, but for those that it writes for; and COMMITs of the groups.
-/

namespace Sys2Proof.Commits

open Sys2Proof Sys2Proof.Machine Sys2Proof.Safety Sys2Proof.Bring Sys2Proof.Tests

/-! ### What a change of a record leaves alone -/

theorem reqs_setFn (s : State) (f : Nat) (r : FnRec) : (setFn s f r).reqs = s.reqs := rfl

theorem reqs_setSlot (s : State) (i : Nat) (r : SlotRec) : (setSlot s i r).reqs = s.reqs := rfl

theorem reqs_dropFrame (s : State) (l : Option Nat) : (dropFrame s l).reqs = s.reqs := rfl

theorem reqs_cacheDrop (s : State) (i : Nat) : (cacheDrop s i).reqs = s.reqs := rfl

theorem reqs_cacheSync (s : State) (i : Nat) : (cacheSync s i).reqs = s.reqs := rfl

theorem reqs_dropShadow (s : State) (i : Nat) : (dropShadow s i).reqs = s.reqs := (reqs_setFn _ _ _).trans (reqs_setSlot s i _)

theorem reqs_installNow (s : State) (i : Nat) : (installNow s i).reqs = s.reqs := by
  have hm (k : Nat) : (makeRoom s k i).reqs = s.reqs := by
    unfold makeRoom
    split <;> rfl
  have hc : (cacheInstall s i).reqs = s.reqs := by
    unfold cacheInstall
    split
    · rfl
    · split
      · exact hm _
      · rfl
  unfold installNow
  split
  · rfl
  · exact hc

theorem reqs_unpickSlot (s : State) (i : Nat) : (unpickSlot s i).reqs = s.reqs := by
  unfold unpickSlot
  split
  · rfl
  · split <;> rfl

theorem reqs_flipSlot (s : State) (i : Nat) (k : Bool) (h : Shadow) : (flipSlot s i k h).reqs = s.reqs := by
  unfold flipSlot
  extract_lets r live s1 r' s2 s3
  have h2 : s2.reqs = s.reqs := (reqs_setSlot s1 i _).trans (reqs_dropShadow s i)
  clear_value s2
  exact (reqs_installNow s3 i).trans h2

theorem reqs_unputSlot (s : State) (i e : Nat) : (unputSlot s i e).reqs = s.reqs := by
  unfold unputSlot
  extract_lets r s1 s2
  have h2 : s2.reqs = s.reqs := (reqs_setFn s1 _ _).trans ((reqs_cacheDrop _ i).trans ((reqs_setSlot _ i _).trans (reqs_dropFrame s _)))
  clear_value s2
  exact (reqs_unpickSlot _ i).trans h2

theorem reqs_freeSlot (s : State) (i : Nat) : (freeSlot s i).reqs = s.reqs := by
  unfold freeSlot
  extract_lets r s1 spent s2 s3 s4
  show s4.reqs = _
  have h1 : s1.reqs = s.reqs := rfl
  have h2 : s2.reqs = s1.reqs := rfl
  have h3 : s3.reqs = s2.reqs := rfl
  have h4 : s4.reqs = s3.reqs := rfl
  exact h4.trans (h3.trans (h2.trans h1))

theorem reqs_dropPend (s : State) (g : Nat) : (dropPend s g).reqs = s.reqs := rfl

theorem reqs_clearStat (s : State) (f : Nat) : (clearStat s f).reqs = s.reqs := rfl

theorem reqs_cfgSet (s : State) (i sub v : Nat) : (cfgSet s i sub v).reqs = s.reqs := rfl

theorem reqs_buryDamaged (s : State) (f : Nat) : (buryDamaged s f).reqs = s.reqs := rfl

theorem reqs_makeAbsent (s : State) (f : Nat) (b : Bool) : (makeAbsent s f b).reqs = s.reqs := by
  unfold makeAbsent
  extract_lets r s1 s2 s3 s4 s5 s6
  have h1 : s1.reqs = s.reqs := foldl_field State.reqs releaseRing (fun _ _ => rfl) _ s
  have h2 : s2.reqs = s1.reqs := foldl_field State.reqs releaseChan (fun _ _ => rfl) _ s1
  have h3 : s3.reqs = s2.reqs := foldl_field State.reqs (fun s k => cfgSet s (0x4000 + f) k 0) (fun _ _ => rfl) _ s2
  have h4 : s4.reqs = s3.reqs := foldl_field State.reqs (fun s k => cfgSet s (0xB000 + f) k 0) (fun _ _ => rfl) _ s3
  have h5 : s5.reqs = s4.reqs := (reqs_dropPend _ _).trans ((reqs_clearStat _ f).trans (reqs_cfgSet s4 _ _ _))
  have h6 : s6.reqs = s.reqs := (reqs_buryDamaged s5 f).trans ((h5.trans h4).trans (h3.trans (h2.trans h1)))
  clear_value s6
  exact h6

theorem reqs_unrestoreFn (s : State) (f : Nat) (r : Restoral) : (unrestoreFn s f r).reqs = s.reqs := by
  have h (y : State) (l : List (Nat × Nat)) : (putBackCfg y f l).reqs = y.reqs := by
    unfold putBackCfg
    exact foldl_field State.reqs _ (by intros; rfl) l _
  exact (h _ r.cfg).trans (reqs_makeAbsent s f false)

/-- A change of an update touches no request. -/
theorem reqs_applyOp (s : State) (o : VOp) : (applyOp s o).reqs = s.reqs := by
  have hi (c : Prop) [Decidable c] {t : State} (h : t.reqs = s.reqs) : (if c then t else s).reqs = s.reqs := by
    split
    · exact h
    · rfl
  have hi' (c : Prop) [Decidable c] {t : State} (h : t.reqs = s.reqs) : (if c then s else t).reqs = s.reqs := by
    split
    · rfl
    · exact h
  cases o with
  | put i r =>
    rw [applyOp]
    refine (reqs_installNow _ i).trans ((reqs_cacheDrop _ i).trans ?_)
    exact (reqs_setFn _ _ _).trans ((reqs_setSlot _ i r).trans (reqs_dropFrame s _))
  | raiseInv i v => exact reqs_setSlot s i _
  | setBlk i n g =>
    rw [applyOp]
    exact hi _ (reqs_setSlot s i _)
  | setMark i m => exact reqs_setSlot s i _
  | retire i =>
    rw [applyOp]
    exact hi _ ((reqs_cacheSync _ i).trans ((reqs_setSlot _ i _).trans (reqs_dropShadow s i)))
  | toReplacing i h =>
    rw [applyOp]
    exact hi _ ((reqs_cacheSync _ i).trans ((reqs_setFn _ _ _).trans (reqs_setSlot s i _)))
  | flip i k =>
    rw [applyOp]
    split
    · rfl
    · exact hi _ (reqs_flipSlot s i k _)
  | cancel i =>
    rw [applyOp]
    exact hi _ ((reqs_cacheSync _ i).trans ((reqs_setSlot _ i _).trans (reqs_dropShadow s i)))
  | erasing i =>
    rw [applyOp]
    exact hi _ ((reqs_cacheSync _ i).trans (reqs_setSlot s i _))
  | free i =>
    rw [applyOp]
    exact hi' _ (reqs_freeSlot s i)
  | ctxRes f v k => exact reqs_setFn s f _
  | ctxKey f k => exact reqs_setFn s f _
  | freeze f on => exact reqs_setFn s f _
  | absent f rel => exact reqs_makeAbsent s f rel
  | restore f r => exact reqs_setFn s f _
  | unrestore f r => exact reqs_unrestoreFn s f r
  | unput i e =>
    rw [applyOp]
    exact hi' _ (reqs_unputSlot s i e)

theorem reqs_applyOps (l : List VOp) (s : State) : (l.foldl applyOp s).reqs = s.reqs := foldl_field State.reqs applyOp reqs_applyOp l s

/-! ### What the walker issues -/

/-- A transaction of an update. -/
def forUpdate : Own → Bool
  | .vupd | .vupdR _ => true
  | _ => false

theorem noteWrite_of_forUpdate (s : State) {o : Own} (h : forUpdate o = true) : noteWrite s o = s := by
  cases o with
  | vupd => rfl
  | vupdR off => rfl
  | _ => exact absurd h Bool.false_ne_true

theorem reqs_issueOn (s : State) {b : Burst} (h : forUpdate b.own = true) (p k : Nat) : (issueOn s b p k).reqs = s.reqs := by
  unfold issueOn
  rw [noteWrite_of_forUpdate s h]
  rfl

theorem reqs_submit (s : State) {b : Burst} (h : forUpdate b.own = true) : (submit s b).reqs = s.reqs := by
  unfold submit tryIssue
  split
  · rfl
  · split
    · next t ht =>
      split at ht
      · split at ht
        · exact absurd ht (Option.some_ne_none _).symm
        · split at ht
          · exact absurd ht (Option.some_ne_none _).symm
          · rw [← Option.some.inj ht]
            exact reqs_issueOn s h _ _
      · exact absurd ht (Option.some_ne_none _).symm
    · rfl

theorem reqs_readPieces (s : State) (w : Who) (ps : List (Nat × Nat × Nat)) {own : Nat → Own} (h : ∀ k, forUpdate (own k) = true) (v : Bool) :
    (readPieces s w ps own v).reqs = s.reqs := foldl_field State.reqs _ (fun s p => reqs_submit s (h p.1)) ps s

theorem reqs_writePieces (s : State) (w : Who) (ps : List (Nat × Nat × Nat)) (data : Bytes) {own : Nat → Own} (h : ∀ k, forUpdate (own k) = true)
    (v : Bool) : (writePieces s w ps data own v).reqs = s.reqs := foldl_field State.reqs _ (fun s p => reqs_submit s (h p.1)) ps s

theorem reqs_vaultWrites (s : State) (m f : Nat) (ws : List (Nat × Bytes)) : (vaultWrites s m f ws).1.reqs = s.reqs := by
  unfold vaultWrites
  extract_lets w
  suffices ∀ a : State × Nat, (ws.foldl (fun (a : State × Nat) e =>
      (writePieces a.1 w (piecesOf e.1 e.2.length) e.2 (fun _ => .vupd) true, a.2 + (piecesOf e.1 e.2.length).length)) a).1.reqs = a.1.reqs from
    this (s, 0)
  induction ws with
  | nil => exact fun _ => rfl
  | cons e ws ih => exact fun a => (ih _).trans (reqs_writePieces _ _ _ _ (fun _ => rfl) _)

/-! ### The walker's queue -/

theorem reqs_writeUpd (s : State) (u : VUpd) (t : List VUpd) : (writeUpd s u t).reqs = s.reqs := by
  unfold writeUpd
  extract_lets n s' old new prev ws r
  exact reqs_vaultWrites _ _ _ _

theorem reqs_readUpd (s : State) (u : VUpd) (t : List VUpd) (l : List TreePos) : (readUpd s u t l).reqs = s.reqs := by
  unfold readUpd
  extract_lets w known reads ps u'
  split
  · exact reqs_writeUpd s u' t
  · exact reqs_readPieces _ _ _ (fun _ => rfl) _

theorem reqs_takeUpd (s : State) (u : VUpd) (t : List VUpd) : (takeUpd s u t).reqs = s.reqs := by
  unfold takeUpd
  extract_lets
  split
  · exact (reqs_applyOps _ _).trans rfl
  · exact (reqs_readUpd _ _ t _).trans rfl

theorem reqs_beginFrom (n : Nat) (s : State) : (beginFrom n s).reqs = s.reqs := by
  induction n generalizing s with
  | zero => rfl
  | succ n ih =>
    rw [beginFrom]
    split
    · rfl
    · split
      · rfl
      · split
        · rfl
        · exact (ih _).trans (reqs_takeUpd _ _ _)

/-- An update joins the queue, or takes effect; the requests stay. -/
theorem reqs_submitUpd (s : State) (l : List VOp) (r : Option Nat) : (submitUpd s l r).reqs = s.reqs := by
  unfold submitUpd
  extract_lets m
  split
  · exact reqs_applyOps l s
  · exact reqs_beginFrom _ _

theorem reqs_queueDestroy (s : State) (f : Nat) (b : Bool) : (queueDestroy s f b).reqs = s.reqs :=
  (reqs_submitUpd _ _ _).trans 
    (foldl_field State.reqs (fun s i => submitUpd (cacheDrop s i) [.free i] none) (fun s i => reqs_submitUpd (cacheDrop s i) _ _) _ s)

/-- A function that has a request is not destroyed yet. -/
theorem destroyAdvance_of_request {s : State} {f : Nat} (h : (reqsWith (destroyAdvance s f) fun q => decide (q.fn = f)) ≠ []) :
    destroyAdvance s f = s := by
  have hr : (destroyAdvance s f).reqs = s.reqs := by
    unfold destroyAdvance
    split
    · exact reqs_queueDestroy s f false
    · rfl
  have hb : fnBusy s f = true := by
    unfold reqsWith at h
    rw [hr] at h
    unfold fnBusy reqsWith
    simp only [Bool.or_eq_true, Bool.not_eq_true', List.isEmpty_eq_false_iff]
    exact .inl (.inl (.inl h))
  unfold destroyAdvance
  rw [hb]
  simp

/-! ### A destruction that ends another ring's requests -/

/-- A frozen function whose ring 16 holds a request of its ring 17, a draining ring that has failed to write an entry; VE_CMD 0 is staged. -/
def crossed : State :=
  { setFn (staged 0x4001 1 1 0) 1 { state := .frozen, before := .running } with
    rings := [(16, { owner := some 1, local_ := 2, region := 1, home := some 2, state := .running, version := 3, waiting := [0] }),
      (17, { owner := some 1, local_ := 3, region := 1, home := some 2, state := .draining, version := 3, dead := true })]
    reqs := [(0, some { ring := 17, fn := 1, ver := 3, d := { flags := 2 ^ fChain } }), (1, some { ring := 16, fn := 1, ver := 3 })] }

theorem crossed_served : Served crossed (commitOf 0x4001) ∧ canon crossed = true ∧
    groupRefusal crossed (candidate crossed 0x4001) 0x4001 = none ∧ (getFn crossed 1).state = .frozen ∧
    cfgGet (candidate crossed 0x4001) 0x4001 1 = 0 := by
  unfold Served
  decide +kernel

theorem crossed_applied :
    (reqsWith (applied crossed (candidate crossed 0x4001) 0x4001) fun q => decide (q.fn = 1)) ≠ [] ∧
    (getRing (applied crossed (candidate crossed 0x4001) 0x4001) 17).state = .disabled := by
  decide +kernel

/-- Refutes O53: of a destruction. A ring's waiting list may name a request of another ring of the function, and the other ring, which
drains and has failed to write an entry (R55), is DISABLED as soon as that request ends (R40), though nothing waits in it. No command
brings such a list about, but the statement speaks of every state whose tables are canonical. -/
theorem not_commitsApplyTheirGroup : ¬ Obligations.CommitsApplyTheirGroup := by
  unfold Obligations.CommitsApplyTheirGroup
  intro h
  obtain ⟨hs, hc, hg, hf, h0⟩ := crossed_served
  obtain ⟨hreq, hring⟩ := crossed_applied
  obtain ⟨-, hok⟩ := h (commitOf 0x4001) crossed hs rfl (by decide) (by decide) (by decide)
  obtain ⟨-, -, -, -, -, -, hfn⟩ := hok hg
  obtain ⟨-, hd, -⟩ := hfn (by decide)
  obtain ⟨z, hz, -, -, hrings, -⟩ := hd hc (.inr (.inr hf)) h0
  have hz : applied crossed (candidate crossed 0x4001) 0x4001 = destroyAdvance z 1 := hz
  rw [hz] at hreq hring
  have he := destroyAdvance_of_request hreq
  rw [he] at hring
  have h17 := (hrings 17 (by decide +kernel)).2 (by decide +kernel)
  exact absurd (hring.symm.trans h17) (by decide +kernel)

end Sys2Proof.Commits
end
